-- ==== Sys2Proof/Word.lean ====
section
/-! DEFINITION. The words of the SKN-8064: octets, 16-, 32- and 64-bit words, 128-bit memory words (R4, R299), and strings of octets. -/
namespace Sys2Proof

/-- An octet, 8 bits (R4). -/
abbrev Byte := BitVec 8
abbrev W16 := BitVec 16
abbrev W32 := BitVec 32
abbrev W64 := BitVec 64
/-- A memory word of SRAM and LPDDR, and a vector register (R299, R402). -/
abbrev W128 := BitVec 128

/-- A string of octets as it lies on a wire or in memory, lowest offset first. -/
abbrev Octets := List Byte

end Sys2Proof
end

