-- ==== Sys2Proof/Machine/Table.lean ====
section
/-! DEFINITION. Sparse tables in one canonical form: keys strictly rising and no entry equal to what an unlisted key reads as. Memories and register arrays are such tables. -/
namespace Sys2Proof.Machine

/-- A sparse array: the listed keys and their values. An unlisted key reads as the array's default. -/
abbrev Table (α : Type) := List (Nat × α)

/-- The value at `k`; `d` is what an unlisted key reads as. -/
def Table.get {α : Type} (d : α) : Table α → Nat → α
  | [], _ => d
  | e :: t, k => if e.1 = k then e.2 else Table.get d t k

/-- The table without the key `k`. -/
def Table.drop {α : Type} : Table α → Nat → Table α
  | [], _ => []
  | e :: t, k => if e.1 = k then Table.drop t k else e :: Table.drop t k

/-- The table with `(k, v)` at its place; `k` is not yet listed. -/
def Table.place {α : Type} (k : Nat) (v : α) : Table α → Table α
  | [] => [(k, v)]
  | e :: t => if k < e.1 then (k, v) :: e :: t else e :: Table.place k v t

/-- Writes `v` at `k`. Writing the default removes the entry. -/
def Table.put {α : Type} [DecidableEq α] (d : α) (t : Table α) (k : Nat) (v : α) : Table α :=
  if v = d then t.drop k else Table.place k v (t.drop k)

/-- Rewrites the value at `k` by `f`. -/
def Table.upd {α : Type} [DecidableEq α] (d : α) (t : Table α) (k : Nat) (f : α → α) : Table α :=
  t.put d k (f (t.get d k))

/-- Every key of the table lies above `k`. -/
def Table.above {α : Type} (k : Nat) (t : Table α) : Bool := t.all (fun e => decide (k < e.1))

/-- The canonical form: keys strictly rising, no entry equal to the default. -/
def Table.wf {α : Type} [DecidableEq α] (d : α) : Table α → Bool
  | [] => true
  | e :: t => decide (e.2 ≠ d) && Table.above e.1 t && Table.wf d t

end Sys2Proof.Machine
end

