-- ==== Sys2Proof/Machine/Types/Motion.lean ====
section
/-! DEFINITION. The state of the joint-loop engine (R125 to R145) and of the profile generator (R178 to R199). Field defaults are the reset values. -/
namespace Sys2Proof.Machine

/-- A knot of a joint record: position and tangent, Q24.40 (R128). -/
structure Knot where
  x : W64 := 0
  d : W64 := 0
  deriving DecidableEq, Repr

/-- The standard joint panel of a gather deck, as the keystone holds it (R81, R91). -/
structure Measured where
  x : W64 := 0
  v : W32 := 0
  torque : W32 := 0
  status : W16 := 0
  temp : Byte := 0
  deriving DecidableEq, Repr

/-- A set-point as a deliver panel carries it (R81, R141). -/
structure SetPoint where
  torque : W32 := 0
  pos : W64 := 0
  vff : W32 := 0
  control : W16 := 0
  deriving DecidableEq, Repr

/-- The states of a biquad (R128, R140). -/
structure BqState where
  x1 : W32 := 0
  x2 : W32 := 0
  y1 : W32 := 0
  y2 : W32 := 0
  deriving DecidableEq, Repr

/-- The sticky and per-run flags of LE_CHc_STAT (R145). -/
structure LeFlags where
  driveOff : Bool := false
  skew : Bool := false
  followingError : Bool := false
  torqueLimited : Bool := false
  iClamped : Bool := false
  vLimited : Bool := false
  satTorque : Bool := false
  satVel : Bool := false
  satRef : Bool := false
  deriving DecidableEq, Repr

/-- A loop channel: the moving fields of its joint record (R128), its registers (R145), and what the rules carry from run to run. `tffPrev` is the feedforward of the run before (R32), `ref` the reference last written, `controls` the control words of the last three runs newest first (R143), `excursions` which of the conditions of events 0x0701 to 0x0705 held in the last run (R468). -/
structure LeChan where
  tff : W32 := 0
  tffPrev : W32 := 0
  iPreload : W32 := 0
  knotLast : W32 := 0
  knots : Table Knot := []
  holdPos : W64 := 0
  integ : W32 := 0
  bq1 : BqState := {}
  bq2 : BqState := {}
  eff : BitVec 3 := 0
  flags : LeFlags := {}
  limited : W16 := 0
  extrap : W16 := 0
  measured : Measured := {}
  ref : W64 := 0
  post : SetPoint := {}
  sent : SetPoint := {}
  seq : BitVec 4 := 0
  controls : List W16 := [0, 0, 0]
  statusPrev : W16 := 0
  excursions : BitVec 5 := 0
  resetRequest : Bool := false
  stopSeen : Bool := false
  deriving DecidableEq, Repr

/-- An arm set: arms 0 to 7 and the free set 8 (R131 to R134, R145). `engage` marks the span of CELL_ENGAGE or ARM_RESUME, `scale` is what Warden posted in the last span (0 where its deadline passed) and `run` the spans with underruns in a row. -/
structure LeSet where
  ptime : W64 := 0
  frozen : Bool := true
  source : Bool := false
  s : W16 := 0
  s2 : W16 := 0
  iSeg : W32 := 0
  underruns : W16 := 0
  lostKnots : Byte := 0
  badScale : Byte := 0
  run : Nat := 0
  scale : W16 := 0
  engage : Bool := false
  zeroRef : Bool := true
  deriving DecidableEq, Repr

/-- The LE block. `ends` holds the completion stamps of the channels of the current or last run, in 125 ps of TB0 (R31), `ran` that the run of the span in progress has started, `due` its deadline as a TB0 instant, `lateSeen` that a channel of it has missed its deliver cut-off. -/
structure LeState where
  ends : List Nat := []
  ran : Bool := false
  lateSeen : Bool := false
  due : Nat := 0
  refused : W16 := 0
  lateChannels : W16 := 0
  lateRuns : W16 := 0
  chans : Table LeChan := []
  sets : Table LeSet := []
  deriving DecidableEq, Repr

/-- A phase of constant jerk, in Q32.64 turns per span³, and its duration in Q32.32 spans (R181, R185). -/
structure Phase where
  j : Int := 0
  t : Nat := 0
  deriving DecidableEq, Repr

/-- A state of motion in Q32.64 turns, turns per span, turns per span² (R185). -/
structure Motion where
  x : Int := 0
  v : Int := 0
  a : Int := 0
  deriving DecidableEq, Repr

/-- The kinds of plan of PG_CHc_STAT.plan (R199). -/
inductive PlanKind where
  | idle
  | position
  | velocity
  | stop
  | hard
  deriving DecidableEq, Repr

/-- A plan (R181 to R192): its start state, the path time of its origin, its phases, the state it holds after its end, and the time stretch of R192 in Q32.64. -/
structure Plan where
  kind : PlanKind := .idle
  reversal : Bool := false
  origin : W64 := 0
  start : Motion := {}
  phases : List Phase := []
  final : Motion := {}
  stretch : Int := 0x10000000000000000
  deriving DecidableEq, Repr

/-- A target: a position in Q24.40 or a velocity in Q8.24 (R188). -/
inductive Target where
  | position (x : W64)
  | velocity (v : W32)
  deriving DecidableEq, Repr

/-- A profile channel (R188 to R199). `stopDue` and `hardDue` are reactions the next run takes, `given` says that a grouped target has come since the last run, `made` that the last run made a plan. -/
structure PgChan where
  tgt : W64 := 0
  vtgt : W32 := 0
  kind : Bool := false
  grouped : Bool := false
  group : BitVec 4 := 0
  target : Option Target := none
  waiting : Option (BitVec 4 × Target) := none
  plan : Plan := {}
  stopDue : Bool := false
  hardDue : Bool := false
  given : Bool := false
  made : Bool := false
  limPos : Bool := false
  limNeg : Bool := false
  superseded : Byte := 0
  refused : Byte := 0
  limitStops : Byte := 0
  replans : Byte := 0
  deriving DecidableEq, Repr

/-- A hand-over of an arm set (R196, R197). `take` says that a request waits for a run to take it, `boundary` is the boundary T once a run has, and `reply` names the queues whose PG_HANDOVER waits. -/
structure PgSet where
  req : Bool := false
  toSolver : Bool := false
  gaps : W16 := 0
  hob : W32 := 0
  boundary : Option W64 := none
  take : Bool := false
  reply : List (BitVec 4) := []
  deriving DecidableEq, Repr

/-- The PG block. `starts` holds the accepted writes of PG_GROUP_GO that wait for a run. -/
structure PgState where
  busy : Bool := false
  steps : BitVec 15 := 0
  emptyStarts : W16 := 0
  tSync : Table (BitVec 24) := []
  chans : Table PgChan := []
  sets : Table PgSet := []
  starts : List (W16 × W16) := []
  deriving DecidableEq, Repr

end Sys2Proof.Machine
end

