-- ==== Sys2Proof/Machine/Types/Catalogue.lean ====
section
/-! DEFINITION. The catalogue in force as structured data (R367): what each section sets. The spec does not give the sections' octet layouts, which are Plajan's; Config.sectionsOf maps octets to this structure. Every field reads 0 until a catalogue is in force. -/
namespace Sys2Proof.Machine

/-- A node's entry in the node table (R80, R103). -/
structure NodeEntry where
  gatherOff : W16 := 0
  gatherLen : W16 := 0
  deliverOff : W16 := 0
  deliverLen : W16 := 0
  safetyFirst : Byte := 0xFF
  safetyCount : Byte := 0
  syncSlot : Byte := 0xFF
  dataLoss : Byte := 0
  stopMask : W64 := 0
  identity : W32 := 0
  probeStart : W16 := 0
  probeLen : W16 := 0
  asymWest : W16 := 0
  asymEast : W16 := 0
  deriving DecidableEq, Repr, Inhabited

/-- One ring of the RINGS section (R70, R75, R96, R102, R120, R144). `bayIn` and `bayOut` name the connection of each safety bay, 0xFFFF for none. -/
structure RingCfg where
  configured : Bool := false
  claim : Byte := 0
  lineMode : Bool := false
  layoutTag : W16 := 0
  nodes : List NodeEntry := []
  panelG : W16 := 0
  panelD : W16 := 0
  bayIn : List W16 := []
  bayOut : List W16 := []
  glapBound : W32 := 0
  lineLap : W32 := 0
  deriving DecidableEq, Repr, Inhabited

/-- A link port (R70, R95, R461). -/
structure PortCfg where
  enabled : Bool := false
  asym : W32 := 0
  serdes : W32 := 0
  deriving DecidableEq, Repr, Inhabited

/-- The catalogue fields of a joint record (R128). `bq1` and `bq2` hold b0, b1, b2, a1, a2; `shifts` the 17 signed octets. -/
structure ChanCfg where
  used : Bool := false
  mode : Byte := 0
  arm : Byte := 0
  ring : Byte := 0
  leader : Byte := 0
  gatherOff : W16 := 0
  deliverOff : W16 := 0
  flags : Byte := 0
  kp : W32 := 0
  kvff : W32 := 0
  kv : W32 := 0
  ki : W32 := 0
  ka : W32 := 0
  kc : W32 := 0
  ratio : W32 := 0
  bq1 : List W32 := []
  bq2 : List W32 := []
  shifts : List Byte := []
  vLim : W32 := 0
  iMin : W32 := 0
  iMax : W32 := 0
  tqMin : W32 := 0
  tqMax : W32 := 0
  perrMax : W32 := 0
  skewMax : W32 := 0
  followOffset : W64 := 0
  deriving DecidableEq, Repr, Inhabited

/-- LE_ARMa_CTL's catalogue fields (R134, R145). -/
structure SetCfg where
  underrunLimit : BitVec 7 := 0
  knotLog2 : BitVec 3 := 0
  deriving DecidableEq, Repr, Inhabited

/-- A solver value: a mantissa with its exponent (R151). -/
structure ZVal where
  m : Int := 0
  e : Int := 0
  deriving DecidableEq, Repr, Inhabited

/-- A solver slot: registers and the resident structures (R146 to R163, R177). Patterns list positions column by column; `lPat` holds for each column of L its row indices in elimination order; `elim` maps a position of the elimination order to a KKT index, variables first. `listAt`, `result0At` and `result1At` are where Plajan places the list buffer and the result buffers in the slot's region (R149, R158, R172). -/
structure SlotCfg where
  enabled : Bool := false
  token : Bool := false
  warm : Bool := false
  shift : Bool := false
  prime : Bool := false
  nIt : Byte := 0
  period : BitVec 4 := 0
  phase : BitVec 4 := 0
  n : BitVec 9 := 0
  m : BitVec 10 := 0
  nnzL : W16 := 0
  nnzPa : W16 := 0
  offsetNs : BitVec 20 := 0
  dlSpans : BitVec 5 := 0
  dlOffset : BitVec 20 := 0
  base : BitVec 19 := 0
  listCap : BitVec 12 := 0
  eRp : Int := 0
  eRd : Int := 0
  tokenTag : W16 := 0
  pPat : List (Nat × Nat) := []
  aPat : List (Nat × Nat) := []
  lPat : List (List Nat) := []
  elim : List Nat := []
  listAt : Nat := 0
  result0At : Nat := 0
  result1At : Nat := 0
  factMuls : Nat := 0
  equality : List Bool := []
  varBlock : List Nat := []
  conBlock : List Nat := []
  eX : List Int := []
  eQ : List Int := []
  eZ : List Int := []
  eY : List Int := []
  eP : List (List Int) := []
  eA : List (List Int) := []
  delta : List Int := []
  eps : List Int := []
  eV : List Int := []
  eW : List Int := []
  eXt : List Int := []
  eNu : List Int := []
  eZt : List Int := []
  eC : List Int := []
  eT : List Int := []
  eL : List Int := []
  strideX : List Nat := []
  strideZ : List Nat := []
  sigma : ZVal := {}
  alpha : ZVal := {}
  dMin : ZVal := {}
  rho : ZVal := {}
  p0 : List Int := []
  a0 : List Int := []
  q0 : List Int := []
  l0 : List Int := []
  u0 : List Int := []
  deriving DecidableEq, Repr, Inhabited

/-- A profile channel's limits and limit inputs (R179, R195, R199). -/
structure ProfCfg where
  enabled : Bool := false
  hard : Bool := false
  limitNeg : BitVec 6 := 0x3F
  limitPos : BitVec 6 := 0x3F
  vMax : W32 := 0
  aMax : W32 := 0
  dMax : W32 := 0
  jMax : W32 := 0
  dStop : W32 := 0
  jStop : W32 := 0
  deriving DecidableEq, Repr, Inhabited

/-- The catalogue registers of an auxiliary module and its feedback (R263 to R283). -/
structure AxCfg where
  enable : Bool := false
  mode : BitVec 3 := 0
  direct : Bool := false
  syncIn : Bool := false
  nDiv : BitVec 4 := 0
  top : BitVec 17 := 0
  phase : BitVec 17 := 0
  minPulse : BitVec 9 := 25
  dead : BitVec 9 := 0
  fltEn : Bool := false
  fltPol : Bool := false
  faultLvl : Byte := 0
  idleLvl : Byte := 0
  ocLimit : W16 := 0
  dutyMax : W16 := 0
  ext : Bool := false
  div : BitVec 4 := 0
  fullSteps : W16 := 0
  hold : W16 := 0
  run : W16 := 0
  setup : BitVec 12 := 0
  width : BitVec 12 := 0
  perTurn : W32 := 0
  kind : BitVec 2 := 0
  hallShift : BitVec 3 := 0
  velWindow : BitVec 4 := 0
  spacing : BitVec 15 := 0
  cpt : W32 := 0
  lines : W32 := 0
  isScale : W32 := 0
  devEn : Bool := false
  laEn : Bool := false
  react : BitVec 2 := 0
  stallSpans : BitVec 4 := 0
  threshold : W16 := 0
  minSpeed : W16 := 0
  window : W32 := 0
  deriving DecidableEq, Repr, Inhabited

/-- A field pin's configuration (R287, R288, R293 to R295). The defaults are the power-on values of DIO_PINn_CFG (R286). -/
structure PinCfg where
  output : Bool := false
  type3 : Bool := true
  continuous : Bool := false
  safe : BitVec 2 := 0
  faultSafe : Bool := false
  filter : BitVec 10 := 1
  deriving DecidableEq, Repr, Inhabited

/-- A joint of an arm's chain (R208): fixed rotation in Q2.30 by rows, translation in Q8.24 m, and the factor from safe position to radians or metres. -/
structure ChainJoint where
  channel : Nat := 0
  prismatic : Bool := false
  rot : List Int := []
  pos : List Int := []
  factor : Int := 0
  deriving DecidableEq, Repr, Inhabited

/-- A capsule of an arm (R209): its frame, two end points and radius in Q8.24 m. -/
structure Capsule where
  frame : Nat := 0
  a : List Int := []
  b : List Int := []
  r : Int := 0
  deriving DecidableEq, Repr, Inhabited

/-- A row of stopping data (R214): speed, stopping time and distance in Q8.24. -/
structure StopRow where
  v : Int := 0
  t : Int := 0
  s : Int := 0
  deriving DecidableEq, Repr, Inhabited

/-- Warden's model of an arm and the arm's stop settings (R208 to R227). Times in Q8.24 s, lengths in Q8.24 m; the defaults of s_min and s_rise are those of R215. -/
structure ArmModel where
  present : Bool := false
  baseRot : List Int := []
  basePos : List Int := []
  chain : List ChainJoint := []
  capsules : List Capsule := []
  stopping : List StopRow := []
  tDrive : Int := 0
  zR : Int := 0
  sMin : W16 := 0x0666
  sRise : W16 := 0x0020
  ss1 : Bool := false
  autoResume : Bool := false
  parapetSto : Bool := false
  deriving DecidableEq, Repr, Inhabited

/-- The kinds of container (R248). -/
inductive ConnKind where
  | safeState
  | demand
  | fields
  | track
  | io
  deriving DecidableEq, Repr, Inhabited

/-- A connection of the safety section (R210, R213, R223, R249, R256 to R258). `tExp` and `tWd` are what the catalogue sets, in ns, none for the defaults of R256; `tExpNs` and `tWdNs` are the times in force. `periodUs` is the send period of a plant connection, whose default is 4 ms. -/
structure ConnCfg where
  used : Bool := false
  kind : ConnKind := .safeState
  plant : Bool := false
  plantTime : Bool := false
  ring : BitVec 4 := 0
  identity : W64 := 0
  tExp : Option Nat := none
  tWd : Option Nat := none
  periodUs : Nat := 4000
  tExpNs : Nat := 0
  tWdNs : Nat := 0
  warden : Bool := false
  parapet : Bool := false
  channel : Nat := 0
  arm : BitVec 3 := 0
  fieldMask : W64 := 0
  tSensor : Int := 0
  c : Int := 0
  zD : Int := 0
  coverage : List Int := []
  height : Int := 0
  relay : Bool := false
  outbound : Bool := false
  virtualInput : Option (BitVec 4) := none
  virtualBit : BitVec 5 := 0
  deriving DecidableEq, Repr, Inhabited

/-- An intrusion volume (R210): a box tied to a field bit, or the track of a connection. -/
structure VolumeCfg where
  used : Bool := false
  track : Bool := false
  conn : Byte := 0
  bit : BitVec 6 := 0
  box : List Int := []
  deriving DecidableEq, Repr, Inhabited

/-- An entry of the Parapet's rule table (R224); the defaults mark a joint that is not configured. -/
structure Rule where
  lo : W32 := 0x80000000
  hi : W32 := 0x7FFFFFFF
  vmax : W16 := 0xFFFF
  deriving DecidableEq, Repr, Inhabited

/-- A zone state: trigger mask and grace time in ms (R223, R224). -/
structure ZoneCfg where
  trigger : W64 := 0
  graceMs : Nat := 0
  deriving DecidableEq, Repr, Inhabited

/-- The roles of a safe input (R238). -/
inductive SiRole where
  | unused
  | eStop
  | guard
  | enable
  | mode
  deriving DecidableEq, Repr, Inhabited

/-- A safe input (R235 to R241). -/
structure SiCfg where
  role : SiRole := .unused
  antivalent : Bool := false
  filterUs : Nat := 500
  discMs : Nat := 50
  arms : Byte := 0
  category0 : Bool := false
  fields : W64 := 0
  tpA : Option (BitVec 2) := none
  tpB : Option (BitVec 2) := none
  deriving DecidableEq, Repr, Inhabited

/-- A safe output (R243, R246). The defaults are those of the manual. -/
structure SoCfg where
  used : Bool := false
  arms : Byte := 0
  inputs : W16 := 0
  offDelayMs : Nat := 0
  dark : Bool := false
  darkUs : Nat := 200
  darkMs : Nat := 1000
  deriving DecidableEq, Repr, Inhabited

/-- A mode of the selector (R239): for each arm its SLS limit, and the ENABLE input that it requires there. -/
structure ModeCfg where
  input : BitVec 4 := 0
  sls : List W16 := []
  enabling : List (Option (BitVec 4)) := []
  deriving DecidableEq, Repr, Inhabited

/-- The safety section (R367, R370). `rules` holds the entries of the Parapet's rule table (R224). The defaults are those of R213, R218, R227 and R240: v_h 1,600 mm/s and the release margin of 50 mm in Q8.24, rounded up. -/
structure SafetyCfg where
  sectionCrc : W32 := 0
  arms : Table ArmModel := []
  volumes : Table VolumeCfg := []
  conns : Table ConnCfg := []
  zones : Table ZoneCfg := []
  rules : Octets := []
  inputs : Table SiCfg := []
  outputs : Table SoCfg := []
  modes : List ModeCfg := []
  testPeriodMs : Nat := 100
  pulseUs : Nat := 500
  vH : Int := 26843546
  releaseMargin : Int := 838861
  resumeMs : Nat := 500
  holdMs : Nat := 1000
  windowCycles : Nat := 0
  wdnDeadline : BitVec 20 := 0
  deriving DecidableEq, Repr, Inhabited

/-- A descriptor of a work item (R323). -/
structure Desc where
  used : Bool := false
  code : BitVec 14 := 0
  priority : BitVec 4 := 0
  count : BitVec 3 := 0
  affinity : BitVec 12 := 0
  firstEntry : BitVec 12 := 0
  budget : W32 := 0
  doneToken : W16 := 0x8000
  arm : Byte := 0xFF
  vcDeadline : Bool := false
  ownDeadline : Bool := false
  deadline : BitVec 20 := 0
  deriving DecidableEq, Repr, Inhabited

/-- A template row (R336, R339). -/
structure TplRow where
  enabled : Bool := false
  trigger : BitVec 3 := 0
  ring : BitVec 4 := 0
  period : BitVec 4 := 0
  phase : BitVec 4 := 0
  release : Bool := false
  target : BitVec 12 := 0
  offsetNs : BitVec 20 := 0
  deriving DecidableEq, Repr, Inhabited

/-- A plant port (R63 to R69) and its PSL destinations (R258): each names its connections. -/
structure PlantCfg where
  enable : Bool := false
  pcpPtp : BitVec 3 := 7
  pcpPsl : BitVec 3 := 6
  pcpRaw : BitVec 3 := 0
  vid : BitVec 12 := 0
  mac : BitVec 48 := 0
  etype : W16 := 0x88B5
  multicast : List (BitVec 48) := []
  domain : Byte := 0
  logSync : Byte := 0
  masterCapable : Bool := false
  profileAs : Bool := false
  pslDests : List (BitVec 48 × List Byte) := []
  deriving DecidableEq, Repr, Inhabited

/-- A change of the KEYS section (R372): a key placed into a slot, or a slot revoked. -/
inductive KeyChange where
  | place (slot : BitVec 4) (key : BitVec 512)
  | revoke (slot : BitVec 4)
  deriving DecidableEq, Repr, Inhabited

/-- The pair and the hierarchy (R375 to R399). `regions` are the runs of cell memory (address, length) that the catalogue declares as pair state (R391). -/
structure PairCfg where
  pair : Bool := false
  claim : Byte := 0
  partnerClaim : Byte := 0
  sharedRings : BitVec 14 := 0
  hierRole : BitVec 2 := 0
  worker : BitVec 3 := 0
  trunkStops : List (BitVec 6 × W64) := []
  workerAt : List (BitVec 5) := []
  regions : List (Nat × Nat) := []
  deriving DecidableEq, Repr, Inhabited

/-- The catalogue in force (R367). The defaults that the manual gives are those of R20, R22, R24, R37, R66, R68 and R69: what a catalogue does not set. -/
structure Catalogue where
  inForce : Bool := false
  spanCode : BitVec 3 := 1
  gatherOffset : BitVec 10 := 125
  returnGuard : BitVec 7 := 8
  deadlineLe : BitVec 20 := 0
  floorVc : BitVec 24 := 0
  floorZa : BitVec 24 := 0
  floorLe : BitVec 24 := 0
  integrationMs : Nat := 300
  autoIntegrate : Bool := true
  runSteps : W16 := 0
  dwellUs : Option (BitVec 15) := none
  watchdogMs : Option (BitVec 10) := none
  lapLimits : List W32 := []
  ports : Table PortCfg := []
  rings : Table RingCfg := []
  chans : Table ChanCfg := []
  sets : Table SetCfg := []
  armsUsed : Byte := 0
  slots : Table SlotCfg := []
  laneUsed : Table (BitVec 20) := []
  profs : Table ProfCfg := []
  ax : Table AxCfg := []
  pins : Table PinCfg := []
  dioTimeout : Option (BitVec 10) := none
  safety : SafetyCfg := {}
  descBase : W32 := 0
  descs : Table Desc := []
  rows : Table TplRow := []
  code : Table Byte := []
  liveDebug : Bool := false
  plants : Table PlantCfg := []
  reacquireNs : Nat := 10000
  syncLossMs : Nat := 3000
  keys : List KeyChange := []
  eventClasses : List (W16 × BitVec 3) := []
  threshold : Option (BitVec 11) := none
  pair : PairCfg := {}
  deriving DecidableEq, Repr, Inhabited

end Sys2Proof.Machine
end

