-- ==== Sys2Proof/Machine/Types/Safety.lean ====
section
/-! DEFINITION. The state of Warden and of the Parapet (R200 to R261). Field defaults are the reset values. -/
namespace Sys2Proof.Machine

/-- The states of a connection in a channel (R254). -/
inductive ConnState where
  | starting
  | accepted
  | safe
  deriving DecidableEq, Repr

/-- A connection as a channel keeps it (R251 to R254). `newest` is the stamp of the newest accepted container and `payload` its octets 7 to 14; `resync` the payloads of the resynchronising containers since, joined in their restrictive bits, which alone are used; `run` the accepted containers in a row since the entry to SAFE. -/
structure SafConn where
  state : ConnState := .starting
  started : Bool := false
  lastSeq : W16 := 0
  lastStamp : W32 := 0
  newest : W32 := 0
  payload : Octets := []
  resync : Option Octets := none
  run : Nat := 0
  deriving DecidableEq, Repr

/-- A pin of a safe input in a channel (R234, R235): the comparator's level at the newest sample, the filtered level, none until a full filter time has read one level, and the run of samples, outside test-pulse windows, that have read `level`. -/
structure SafPin where
  raw : Bool := false
  high : Option Bool := none
  level : Bool := false
  run : Nat := 0
  deriving DecidableEq, Repr

/-- A safe input as a channel sees it (R234 to R242): its pins SIiA and SIiB, latched faults, the guard test, foreign pulses read low in a row per pin. `shut` says that both pins showed their closed level when the channel last looked. -/
structure SafInput where
  a : SafPin := {}
  b : SafPin := {}
  discrepancy : Bool := false
  testPulse : Bool := false
  shut : Bool := false
  sawOpen : Bool := false
  guardOk : Bool := false
  crossA : Nat := 0
  crossB : Nat := 0
  deriving DecidableEq, Repr

/-- A channel's side of a safe output (R243 to R246). `closed` is what the channel commands, `reads` what the switch's node reads back; `delaying` a lost permit's off delay that runs; `estop` a loss caused by an E_STOP input; `since` when the permit came back; `testing` a dark test in progress. -/
structure SafOutput where
  closed : Bool := false
  fault : Bool := false
  delaying : Bool := false
  request : Bool := false
  estop : Bool := false
  since : Option W64 := none
  testing : Bool := false
  reads : Bool := false
  deriving DecidableEq, Repr

/-- A test-pulse source as a channel reads it back (R240): its fault, and the start of its newest pulse on the channel's clock. -/
structure PulseSource where
  start : Option W64 := none
  fault : Bool := false
  good : Nat := 0
  deriving DecidableEq, Repr

/-- An arm of Warden (R215 to R218, R233). `prot`: 0 none, 1 SS2, 2 SS1. -/
structure WArm where
  scale : W16 := 0
  prot : BitVec 2 := 0
  parDemand : Bool := false
  restartWait : Bool := false
  needRestart : Bool := false
  clearSince : Option W64 := none
  dist : W32 := 0
  sp : W32 := 0
  vr : W32 := 0
  volume : Byte := 0
  capsule : Byte := 0
  protStops : W16 := 0
  parViolations : W16 := 0
  stopS : W32 := 0
  stopSp : W32 := 0
  deriving DecidableEq, Repr

/-- A connection from this device (R206, R207, R250): the container that waits for the Parapet's part, and the one last assembled. -/
structure OutConn where
  seq : W16 := 0
  draft : Option Octets := none
  octets : Octets := []
  deriving DecidableEq, Repr

/-- Warden and the SAF block (R200 to R246). What the Parapet reports comes over the status path. `estops` marks the E_STOP inputs whose opening has been reported, `modeSince` when the selector last had other than one input closed, `raw` the container last received on each connection, `ran` and `late` the completion and the overrun of the span in progress. -/
structure SafState where
  wardenOk : Bool := false
  parapetOk : Bool := false
  lockstepErr : Bool := false
  grace : Bool := false
  zone : BitVec 5 := 0
  slack : W32 := 0x80000000
  overruns : W16 := 0
  rejects : W16 := 0
  violations : W16 := 0
  silent : Byte := 0
  zoneChanges : Byte := 0
  sectionA : W32 := 0
  loadedA : Bool := false
  sectionB : W32 := 0
  reportedB : Bool := false
  lsOpenCmd : Byte := 0
  hsOpenCmd : Byte := 0
  lsClosed : Byte := 0
  siB : W16 := 0
  discA : Byte := 0
  discB : Byte := 0
  tpA : Byte := 0
  tpB : Byte := 0
  lastReport : W64 := 0
  halted : Bool := false
  ran : Bool := false
  late : Bool := false
  overrunRun : Nat := 0
  firstRun : Bool := true
  mode : Nat := 0
  modeSince : Option W64 := none
  estops : W16 := 0
  heartbeat : Option W32 := none
  arms : Table WArm := []
  conns : Table SafConn := []
  inputs : Table SafInput := []
  outputs : Table SafOutput := []
  sources : Table PulseSource := []
  outConns : Table OutConn := []
  raw : Table Octets := []
  nom : Table W32 := []
  volumes : W64 := 0
  keyLevel : Bool := false
  keySince : W64 := 0
  keyCount : W16 := 0
  deriving DecidableEq, Repr

/-- An entry of the Parapet's own log (R222 to R228, R260). -/
inductive ParEntry where
  | testVector
  | wardenSilent (ns32 : W32)
  | refclk (tb2 : W64)
  | resetHeld
  | accepted (tb2 : W64) (crc : W32)
  | timeLost (ns32 : W32)
  deriving DecidableEq, Repr

/-- An arm of the Parapet (R225 to R227). -/
structure PArm where
  violating : Bool := false
  holding : Bool := false
  deriving DecidableEq, Repr

/-- A copy of the safety section in the Parapet's store (R259). -/
structure SectionCopy where
  complete : Bool := false
  seq : W32 := 0
  crc : W32 := 0
  section_ : SafetyCfg := {}
  deriving DecidableEq, Repr

/-- The Parapet (R200 to R261, R443). `clock` counts ns of its own oscillator, whatever the core die does (R18). `ns32` is its copy of TB0 NS32 as it stood at the clock value `copyAt`, none until it holds one; `lastMark` the clock value of the newest span mark. `beating` says that heartbeats arrive without a gap, `beatsGood` that they have for 1 s. `oldZone` is the zone whose rule was in force before a change whose grace time runs, `switchTo` an accepted copy that the next evaluation takes. `onsets` and `toReport` wait for the status path; an onset carries the seq of its event. -/
structure ParState where
  up : Bool := false
  clock : W64 := 0
  startedAt : W64 := 0
  internalFault : Bool := false
  ns32 : Option W32 := none
  copyAt : W64 := 0
  lastMark : W64 := 0
  ignored : Nat := 0
  ignoredMarks : W16 := 0
  firstBeat : Bool := false
  beating : Bool := false
  beatsGood : Bool := false
  zone : BitVec 5 := 0
  oldZone : Option (BitVec 5) := none
  violations : W16 := 0
  silent : Byte := 0
  zoneChanges : Byte := 0
  disc : Byte := 0
  tp : Byte := 0
  mode : Nat := 0
  modeSince : Option W64 := none
  arms : Table PArm := []
  conns : Table SafConn := []
  inputs : Table SafInput := []
  outputs : Table SafOutput := []
  sources : Table PulseSource := []
  copyA : SectionCopy := {}
  copyB : SectionCopy := {}
  selected : Option Bool := none
  switchTo : Option Bool := none
  staged : Option (Bool × W64) := none
  keyLevel : Bool := false
  keySince : W64 := 0
  keyCount : W16 := 0
  onsets : List (BitVec 3 × W32) := []
  log : List ParEntry := []
  toReport : List ParEntry := []
  clearDue : Bool := false
  deriving DecidableEq, Repr

end Sys2Proof.Machine
end

