-- ==== Sys2Proof/Machine/Types/Solver.lean ====
section
/-! DEFINITION. The state of the Zhequa solver array (R146 to R177). Field defaults are the reset values. -/
namespace Sys2Proof.Machine

/-- A factor buffer (R163 to R165): pivots and reciprocals by elimination position, L by column. -/
structure Factor where
  valid : Bool := false
  d : List ZVal := []
  dinv : List ZVal := []
  cols : List (List Int) := []
  rho : ZVal := {}
  saturated : Bool := false
  repaired : Bool := false
  repairs : W32 := 0
  deriving DecidableEq, Repr

/-- A result buffer (R170 to R172). -/
structure ZaResult where
  seq : W32 := 0
  status : BitVec 4 := 0
  iterations : Byte := 0
  flags : BitVec 10 := 0
  span : W32 := 0
  doneNs : W32 := 0
  tag : W32 := 0
  residP : W32 := 0
  residD : W32 := 0
  repairs : W32 := 0
  x : List Int := []
  z : List Int := []
  y : List Int := []
  deriving DecidableEq, Repr

/-- An iterate: the mantissas of x, z and y (R166). -/
structure Iterate where
  x : List Int := []
  z : List Int := []
  y : List Int := []
  deriving DecidableEq, Repr

/-- A slot (R150 to R177). -/
structure ZaSlot where
  pending : Bool := false
  entries : BitVec 12 := 0
  p : List Int := []
  a : List Int := []
  q : List Int := []
  l : List Int := []
  u : List Int := []
  rho : ZVal := {}
  factor0 : Factor := {}
  factor1 : Factor := {}
  active : Bool := false
  refactorPending : Bool := false
  result0 : ZaResult := {}
  result1 : ZaResult := {}
  buffer : Bool := false
  posted : Bool := false
  activity : BitVec 2 := 0
  truncated : W16 := 0
  stale : W16 := 0
  rejected : Byte := 0
  suspect : Byte := 0
  postOverrun : Byte := 0
  startSkipped : Byte := 0
  pivotRepairs : W16 := 0
  rangeExceeded : W16 := 0
  deriving DecidableEq, Repr

/-- What an idle slot's result reads (R161, R171): sequence 0, no residuals. -/
def ZaResult.idle : ZaResult := { residP := 0x7FFFFFFF, residD := 0x7FFFFFFF }

/-- The work that a running solve has come to (R161): `setUp` before its start, then what follows the set-up. -/
inductive SolvePhase where
  | setUp
  | refactor
  | iterate
  | posting
  deriving DecidableEq, Repr

/-- Why a solve ends other than DONE (R157, R168). -/
inductive SolveEnd where
  | running
  | rejected
  | stale
  | truncated
  | late
  deriving DecidableEq, Repr

/-- A solve (R159 to R171). `start` is its start instant, `listEnd` and `setEnd` are the stamps at which list application and set-up end, all in 125 ps of TB0; `owes` that it has to refactorise; `missed` marks one whose deadline has arrived; `range` is the range exceeded of the phases up to iteration. -/
structure Solve where
  slot : BitVec 7 := 0
  start : Nat := 0
  listEnd : Nat := 0
  setEnd : Nat := 0
  owes : Bool := false
  deadline : W64 := 0
  span : W32 := 0
  phase : SolvePhase := .setUp
  iteration : Byte := 0
  it : Iterate := {}
  noWarm : Bool := false
  noShift : Bool := false
  tag : W32 := 0
  warm : Bool := false
  shifted : Bool := false
  refactored : Bool := false
  range : Bool := false
  poisoned : Bool := false
  missed : Bool := false
  ending : SolveEnd := .running
  deriving DecidableEq, Repr

/-- A lane (R146, R147): the queued starts in order and the running solve. -/
structure Lane where
  queue : List Solve := []
  run : Option Solve := none
  solves : W16 := 0
  deadlineHits : W16 := 0
  deriving DecidableEq, Repr

/-- The ZA block. -/
structure ZaState where
  lanes : Table Lane := []
  slots : Table ZaSlot := []
  deriving DecidableEq, Repr

end Sys2Proof.Machine
end

