-- ==== Sys2Proof/Syntax.lean ====
section
/-! DEFINITION. The commands of the SKN-8064: one constructor per row of the opcode table, with what the sender supplies from outside. The table gives the rows no operands; the operands are those that the chapters name (packets, octets, pin levels, measured counts). -/
namespace Sys2Proof

/-- Who makes an access (R53, R129, R177, R199, R283, R295, R322, R416). `debug` is the IEEE 1149.1 port (R317). -/
inductive Requester where
  | host
  | registrar
  | core (n : BitVec 4)
  | engine
  | debug
  deriving DecidableEq, Repr

/-- A command packet as the registrar takes it from queue `queue` (R349). `params` holds p0 in bits 7:0, p1 in bits 15:8 and so on to p55. -/
structure Packet where
  queue : BitVec 4
  flags : Byte
  tag : Byte
  seq : W32
  params : BitVec 448
  deriving DecidableEq, Repr

/-- A packet whose opcode is not in the table (R352 BAD_OPCODE). -/
structure UnknownPacket where
  opcode : W16
  flags : Byte
  tag : Byte
  seq : W32
  deriving DecidableEq, Repr

/-- What the store die reports for the operation: the address of a failed read or write (R364). -/
structure StoreIo where
  failed : Option W32
  deriving DecidableEq, Repr

/-- The two safety channels: `a` is Warden, `b` is the Parapet (R200). -/
inductive Channel where
  | a
  | b
  deriving DecidableEq, Repr

/-- The count of RPT: the immediate field n - 1 of ten bits, or an address register (R304, R311). -/
inductive RptCount where
  | imm (nMinus1 : BitVec 10)
  | reg (a : BitVec 4)
  deriving DecidableEq, Repr

/-- A parallel move field (R303). `a` is A0-A7 for the X move and A8-A15 for the Y move. -/
structure Move where
  store : Bool
  v : BitVec 5
  a : BitVec 3
  o : BitVec 3
  mode : BitVec 2
  deriving DecidableEq, Repr

/-- The X and Y moves of an instruction; `none` is a move field with en clear. `reserved` says that a reserved bit of the word is set (R304). -/
structure Moves where
  x : Option Move
  y : Option Move
  reserved : Bool
  deriving DecidableEq, Repr

/-- Format P (R303). -/
structure FormatP where
  w : BitVec 2
  vd : BitVec 5
  va : BitVec 5
  vb : BitVec 5
  ac : BitVec 2
  rnd : Bool
  sat : Bool
  cw : Bool
  mv : Moves
  deriving DecidableEq, Repr

/-- Format L (R304): a long move of 16 to 128 bits. -/
structure FormatL where
  v : BitVec 5
  a : BitVec 4
  ym : Bool
  size : BitVec 2
  elem : BitVec 4
  offset : W16
  reserved : Bool
  deriving DecidableEq, Repr

/-- Format S (R304). `dest` and `src` name A registers; `destO` selects an O register instead. -/
structure FormatS where
  dest : BitVec 4
  destO : Bool
  src : BitVec 4
  v : BitVec 5
  lane : BitVec 3
  imm : W32
  reserved : Bool
  deriving DecidableEq, Repr

/-- Format F (R304): a fabric access or a token send. -/
structure FormatF where
  v : BitVec 5
  a : BitVec 4
  seg : Byte
  size : BitVec 2
  entry : BitVec 12
  offset : W16
  reserved : Bool
  deriving DecidableEq, Repr

/-- NORM and EXP read V lanes or an accumulator (R308). -/
inductive NormSource where
  | lanes
  | accumulator
  deriving DecidableEq, Repr

/-- The paces that the pace monitors counted over the span that ends (R33), in units of 1/256 step per µs. -/
structure Paces where
  vc : BitVec 24
  za : BitVec 24
  le : BitVec 24
  deriving DecidableEq, Repr

/-- An instant as the stamping hardware takes it at the PCS boundary: a time base at the last tick, and the part of the tick in 125 ps (R60, R61). -/
structure RawStamp where
  ns : W64
  frac : W32
  eighths : BitVec 3
  deriving DecidableEq, Repr

/-- The instants of one probe exchange at a responder (R107): when the request came and when its response would leave. -/
structure ProbeTimes where
  rx : RawStamp
  tx : RawStamp
  deriving DecidableEq, Repr

/-- How an INTEGRATE deck came back to the keystone (R105, R119, R120): on its east port or its west port, and after which lap. -/
structure DeckReturn where
  east : Bool
  lap : W32
  deriving DecidableEq, Repr

/-- What a node brings to one passage of a deck: its stamps of the K27.7, its samples, and what it wants to write (R77, R84 to R88, R93, R104). -/
structure Passage where
  span : W32
  late : Bool
  cut : Bool
  rx : RawStamp
  tx : RawStamp
  east : Bool
  residencePs : W32
  linkDelayPs : W32
  identity : W32
  probesReady : Bool
  panelReady : Bool
  panel : Octets
  containers : List Octets
  stopBits : W64
  mail : Option Octets
  deriving DecidableEq, Repr

/-- Phase-voltage samples VSn_U, VSn_V, VSn_W (R281). -/
structure PhaseVolts where
  u : W16
  v : W16
  w : W16
  deriving DecidableEq, Repr

/-- Receive or transmit stamps of a plant-port frame on TB0 and TB1 (R60). -/
structure FrameStamps where
  tb0 : RawStamp
  tb1 : RawStamp
  deriving DecidableEq, Repr

/-- A replicated command (R382): its opcode, its parameters and, for ZA_POST, the list octets. -/
structure ReplCommand where
  opcode : W16
  params : BitVec 448
  list : Octets
  deriving DecidableEq, Repr

/-- The result of a span's output comparison (R385). -/
inductive CmpResult where
  | matched
  | mismatched
  | notCompared
  deriving DecidableEq, Repr

/-- A part of a state image (R391): a joint record, a path time, a slot's results, the plans and start groups, Warden's states, octets of memory. -/
inductive StatePart where
  | joint (c : BitVec 7) (octets : Octets)
  | pathTime (a : BitVec 4) (ptime : W64)
  | results (slot : BitVec 7) (result0 result1 : Machine.ZaResult) (buffer : Bool)
  | profile (pg : Machine.PgState)
  | warden (arms : List (Nat × Machine.WArm)) (seqs : List (Nat × W16))
  | memory (address : BitVec 40) (octets : Octets)
  deriving DecidableEq, Repr

/-- Records of the cross-link (R379). -/
inductive XRecord where
  | heartbeat (role : BitVec 2) (claim : Byte) (healthy : Bool) (withdraws : Bool) (cmp : CmpResult) (transfer : Option W32)
  | verdict (r : BitVec 4) (span : W32) (good : Bool) (answers : W16)
  | command (effect : W32) (cmd : ReplCommand)
  | fieldImage (image : BitVec 48)
  | ringParams (r : BitVec 4) (glap : W32) (dlap : W32) (depart : BitVec 20) (cutoff : W32)
  | stateImage (part : StatePart) (last : Bool)
  | idle
  deriving DecidableEq, Repr

/-- What a read of a protected word finds in its bits (R402). A word that carries the poison marker is found poisoned whatever this says. -/
inductive Found where
  | clean
  | correctable
  | uncorrectable
  deriving DecidableEq, Repr

/-- The commands, in the order of spec/opcode_table.json. Each docstring gives the row and the rule it names. -/
inductive Instr where
  /-- DEV_NOP (R353). Host command that returns the low word of TB0_SPAN. -/
  | devNop (p : Packet)
  /-- DEV_INFO (R353). Host command that returns the device identity, stepping, firmware version and the catalogue sequence in force. -/
  | devInfo (p : Packet)
  /-- DEV_WARM_RESET (R444). Host command that, outside HOLD, RUN and STOPPING, stops the queues, writes the event buffer and the counter snapshot, and places LPDDR in self-refresh. -/
  | devWarmReset (p : Packet)
  /-- WARM_RESET (R439). The core-die reset that follows the completed warm-reset preparation, with the survival of R446. -/
  | warmReset
  /-- DEV_SERVICE (R341). Host command that enters or leaves service mode; entry is accepted only in UNCATALOGUED, LOADED and PARKED. -/
  | devService (p : Packet)
  /-- DEV_DORMANT (R448). Host command that, in LOADED or PARKED, stops the rings, saves state, puts the time bases in HOLDOVER and powers down the core die. -/
  | devDormant (p : Packet)
  /-- CAT_WRITE (R371). Host command that optionally opens the target copy and copies lots into it at an image offset. -/
  | catWrite (p : Packet) (io : StoreIo)
  /-- CAT_VERIFY (R371). Host command that computes and returns the crc and the length of the open target. -/
  | catVerify (p : Packet) (io : StoreIo)
  /-- CAT_COMMIT (R371). Host command that validates the target, compares the crc, writes seq, crc and complete, applies KEYS, and brings the copy into force. -/
  | catCommit (p : Packet) (io : StoreIo)
  /-- CAT_READ (R353). Host command that copies part of a catalogue copy into lots. -/
  | catRead (p : Packet) (io : StoreIo)
  /-- FW_WRITE (R373). Host command that writes lots into the firmware image not in use. -/
  | fwWrite (p : Packet) (io : StoreIo)
  /-- FW_COMMIT (R373). Host command that validates and commits the firmware image not in use, for use at the next core-die reset. -/
  | fwCommit (p : Packet) (io : StoreIo)
  /-- CELL_INTEGRATE (R37). Host command that takes the cell from LOADED to INTEGRATING at the next span instant. -/
  | cellIntegrate (p : Packet)
  /-- CELL_ENGAGE (R37). Host command that takes the cell from PARKED to HOLD when no stop demand is active and no E-stop or guard input is open. -/
  | cellEngage (p : Packet)
  /-- CELL_RUN (R37). Host command that takes the cell from HOLD to RUN. -/
  | cellRun (p : Packet)
  /-- CELL_STOP (R37). Host command that starts a controlled stop from RUN, ending in HOLD. -/
  | cellStop (p : Packet)
  /-- CELL_PARK (R37). Host command that parks the cell from HOLD, or stops it from RUN towards PARKED. -/
  | cellPark (p : Packet)
  /-- CELL_RINGS_OFF (R37). Host command that takes the cell from PARKED to LOADED; the keystones cease originating decks. -/
  | cellRingsOff (p : Packet)
  /-- CELL_CLEAR (R37). Host command that leaves FAULT for PARKED or LOADED when the cause is no longer present. -/
  | cellClear (p : Packet)
  /-- ARM_RESUME (R40). Host command that returns a HALTED arm to ENABLED when its cause is gone and the cell is in HOLD or RUN. -/
  | armResume (p : Packet)
  /-- RING_CLOSE (R123). Host command that re-integrates a ring from COLD to leave line mode. -/
  | ringClose (p : Packet)
  /-- PG_TARGET (R188). Host command that gives a profile channel a position or velocity target, grouped or not. -/
  | pgTarget (p : Packet)
  /-- PG_START_GROUP (R190). Host command that starts one or more start groups, optionally with a synchronised finish. -/
  | pgStartGroup (p : Packet)
  /-- PG_STOP (R193). Host command that gives stop plans to the channels of a mask. -/
  | pgStop (p : Packet)
  /-- PG_HANDOVER (R196). Host command that requests a hand-over of an arm set between SOLVER and PROFILE. -/
  | pgHandover (p : Packet)
  /-- AX_STALL_CLEAR (R282). Host command that clears an active RAMP or HARD stall once the stall condition no longer holds. -/
  | axStallClear (p : Packet)
  /-- ZA_POST (R355). Host command that copies an update list from lots into a slot's list buffer and posts it, unless a list is pending. -/
  | zaPost (p : Packet)
  /-- ZA_TOKEN (R159). Host command that starts a token solver slot. -/
  | zaToken (p : Packet)
  /-- ZA_RESULT (R172). Host command that copies a slot's last result into lots under the seq-check procedure. -/
  | zaResult (p : Packet)
  /-- TIME_STEP (R55). Host command that steps a FREE time base at one 1 GHz tick. -/
  | timeStep (p : Packet)
  /-- TIME_RATE (R55). Host command that sets the rate of a FREE time base. -/
  | timeRate (p : Packet)
  /-- TIME_TB3_MODE (R57). Host command that selects TB3's source and offset, stepping TB3 once when it is slaved. -/
  | timeTb3Mode (p : Packet)
  /-- DIO_WRITE (R290). Host command that sets and clears bits of DIO_OUT. -/
  | dioWrite (p : Packet)
  /-- DIO_CLEAR (R293). Host command that clears DIO_STAT.fault and releases latched outputs at the next frame. -/
  | dioClear (p : Packet)
  /-- CNT_CLEAR (R434). Host command that clears the counters and sticky flags of the blocks in a mask. -/
  | cntClear (p : Packet)
  /-- EVT_READ (R428). Host command that copies event records into lots in seq order from a requested sequence. -/
  | evtRead (p : Packet)
  /-- LOT_GRANT (R357). Host command that moves a run of HOST lots to DEVICE, all or nothing. -/
  | lotGrant (p : Packet)
  /-- LOT_RELEASE (R357). Host command that moves the DEVICE and LOCKED lots of a run to HOST, except lots in use. -/
  | lotRelease (p : Packet)
  /-- MBX_SEND (R85). Host command that sends a mailbox message to a node and replies when it is acknowledged or has failed. -/
  | mbxSend (p : Packet)
  /-- MBX_RECV (R84). Host command that copies a waiting node message into lots. -/
  | mbxRecv (p : Packet)
  /-- FRAME_SEND (R66). Host command that queues a raw frame on a plant port with tag and FCS inserted. -/
  | frameSend (p : Packet)
  /-- FRAME_RX_POOL (R356). Host command that moves lots to LOCKED in a port's receive pool. -/
  | frameRxPool (p : Packet)
  /-- SAF_STATUS (R233). Host command that returns SAF_STAT, both section CRCs and SAF_SO_STAT. -/
  | safStatus (p : Packet)
  /-- SAF_STAGE (R260). Host command that has the Parapet write a new safety section into its older copy. -/
  | safStage (p : Packet)
  /-- SAF_ACCEPT (R260). Host command that has the Parapet accept the staged section when SAF_KEY and the CRCs agree. -/
  | safAccept (p : Packet)
  /-- SAF_RESTART (R218). Host command that releases an arm's protective stop when the release condition holds. -/
  | safRestart (p : Packet)
  /-- SAF_OUTPUT (R244). Host command that sets or clears Warden's requests for safe outputs. -/
  | safOutput (p : Packet)
  /-- CQ_ENABLE (R344). Host write of HQ_CQn_CFG.enable = 1 that enables a queue and resets its pointers. -/
  | cqEnable (q : BitVec 4) (value : W32)
  /-- CQ_DISABLE (R344). Host write that clears HQ_CQn_CFG.enable and stops fetching after the command in progress. -/
  | cqDisable (q : BitVec 4) (value : W32)
  /-- SUBMISSION_TAIL_DOORBELL (R345). Host write of a queue's submission tail in BAR4. -/
  | submissionTailDoorbell (q : BitVec 4) (value : W32) (unknown : List UnknownPacket)
  /-- REPLY_HEAD_DOORBELL (R345). Host write of a queue's reply head in BAR4. -/
  | replyHeadDoorbell (q : BitVec 4) (value : W32)
  /-- LOT_FLAG_WRITE (R358). Host write of a flag word that makes the host transitions it names and leaves the other fields unchanged. -/
  | lotFlagWrite (w : BitVec 12) (value : W32) (enables : BitVec 4)
  /-- HOST_WINDOW_WRITE (R360). Host write to BAR2, discarded when the lot is DEVICE or LOCKED. -/
  | hostWindowWrite (offset : BitVec 28) (octets : Octets)
  /-- HOST_WINDOW_READ (R360). Host read of BAR2, answered with all ones when the lot is DEVICE or LOCKED. -/
  | hostWindowRead (offset : BitVec 28) (len : Nat)
  /-- REGISTER_WRITE (R341). Write to a register that has no row of its own, stored or refused and counted. -/
  | registerWrite (by_ : Requester) (offset : BitVec 20) (aligned : Bool) (value : W32)
  /-- TB_SNAP_GO (R53). Write of TB_SNAP.go that captures all four time bases at one tick. -/
  | tbSnapGo (by_ : Requester)
  /-- TB_NS_LO_READ (R53). Read of TBn_NS_LO that latches the whole time base into the requester's snapshot. -/
  | tbNsLoRead (by_ : Requester) (n : BitVec 2)
  /-- TB0_SPAN_LO_READ (R69). Read of TB0_SPAN_LO that latches TB0_SPAN_HI. -/
  | tb0SpanLoRead (by_ : Requester)
  /-- LE_ARM_PTIME_LO_READ (R145). Read of LE_ARMa_PTIME_LO that latches PTIME_HI. -/
  | leArmPtimeLoRead (by_ : Requester) (a : BitVec 4)
  /-- FB_POS_LO_READ (R283). Read of FB_n_POS_LO that latches POS_HI. -/
  | fbPosLoRead (by_ : Requester) (n : BitVec 3)
  /-- DIO_IN_LO_READ (R295). Read of DIO_IN_LO that latches DIO_IN_HI. -/
  | dioInLoRead (by_ : Requester)
  /-- VC_STEPS_LO_READ (R322). Read of VC_n_STEPS_LO that latches STEPS_HI. -/
  | vcStepsLoRead (by_ : Requester) (n : BitVec 4)
  /-- LE_RECORD_WRITE (R129). Fabric write to a joint record, taken only for runtime and profile fields. -/
  | leRecordWrite (by_ : Requester) (c : BitVec 7) (offset : BitVec 8) (octets : Octets)
  /-- IM_WRITE (R296). Write to a vector core's instruction memory, refused and counted unless the registrar makes it. -/
  | imWrite (by_ : Requester) (n : BitVec 4) (word : BitVec 14) (value : W64)
  /-- ZA_SLOT_POST_GO (R158). Write of ZA_SLOTs_POST with go that posts an update list, or is refused while pending. -/
  | zaSlotPostGo (by_ : Requester) (slot : BitVec 7) (entries : BitVec 12)
  /-- ZA_SLOT_TOKEN_GO (R159). Write of ZA_SLOTs_TOKEN.go that starts a token slot. -/
  | zaSlotTokenGo (by_ : Requester) (slot : BitVec 7)
  /-- PG_CH_CMD_GO (R188). Write of PG_CHc_CMD with go that takes a target for a channel or a group. -/
  | pgChCmdGo (by_ : Requester) (c : BitVec 7) (value : W32)
  /-- PG_GROUP_GO (R190). Write of PG_GROUP_GO that starts groups, optionally synchronised. -/
  | pgGroupGo (by_ : Requester) (value : W32)
  /-- PG_ARM_HO_REQ (R196). Write of PG_ARMa_HO.req that requests a hand-over. -/
  | pgArmHoReq (by_ : Requester) (a : BitVec 4) (value : W32)
  /-- DIO_OUT_WRITE (R290). Fabric write of DIO_OUT; bits of input pins are refused and counted. -/
  | dioOutWrite (by_ : Requester) (hi : Bool) (value : W32)
  /-- DIO_OUT_SET (R290). Fabric write of DIO_OUT_SET that sets output bits. -/
  | dioOutSet (by_ : Requester) (hi : Bool) (value : W32)
  /-- DIO_OUT_CLR (R290). Fabric write of DIO_OUT_CLR that clears output bits. -/
  | dioOutClr (by_ : Requester) (hi : Bool) (value : W32)
  /-- LOAD_ALL (R270). Write of PW_CTL.load_all that stages all shadows, or counts a load overrun while pending. -/
  | loadAll (by_ : Requester)
  /-- PW_FORCE_WRITE (R271). Write of PW_n_FORCE that sets output forces for the next zero event or peak. -/
  | pwForceWrite (by_ : Requester) (n : BitVec 3) (value : W32)
  /-- VC_HALT_REQ (R317). Debug write that requests a vector-core halt, refused outside allowed states. -/
  | vcHaltReq (by_ : Requester) (n : BitVec 4)
  /-- VC_RUN (R318). Debug write that resumes a halted core. -/
  | vcRun (by_ : Requester) (n : BitVec 4)
  /-- VC_STEP (R318). Debug write that runs one instruction of a halted core and halts again. -/
  | vcStep (by_ : Requester) (n : BitVec 4)
  /-- VC_DBG_SEL_GO (R320). Debug access that reads or writes a register of a halted core. -/
  | vcDbgSelGo (by_ : Requester) (n : BitVec 4) (value : W32)
  /-- CRC_START (R418). Write of CRC_CTXc_CTL.start that loads the initial value and folds in FOLD. -/
  | crcStart (by_ : Requester) (c : BitVec 6)
  /-- CRC_DATA_WRITE (R418). Write of CRC_CTXc_DATA that processes 4 octets or the tail count. -/
  | crcDataWrite (by_ : Requester) (c : BitVec 6) (value : W32)
  /-- CRC_VALUE_WRITE (R418). Write of CRC_CTXc_VALUE that sets the running value to resume a computation. -/
  | crcValueWrite (by_ : Requester) (c : BitVec 6) (value : W32)
  /-- CRC_FINISH (R419). Write of CRC_CTXc_CTL.finish that applies the final XOR, compares, and optionally sends a token. -/
  | crcFinish (by_ : Requester) (c : BitVec 6)
  /-- CRC_BLOCK_GO (R420). Write of CRC_CTXc_CTL.block_go that queues a block from memory on the unit. -/
  | crcBlockGo (by_ : Requester) (c : BitVec 6)
  /-- CRC_BLOCK_COMPLETE (R420). End of a CRC block, normally, with an error, or on poisoned data. -/
  | crcBlockComplete (u : BitVec 2)
  /-- FUNCTION_LEVEL_RESET (R342). PCIe Function Level Reset that disables the queues and returns lots of unfinished commands to HOST. -/
  | functionLevelReset
  /-- PCIE_LINK_LOSS (R342). Loss of the PCIe link, with the effects of a Function Level Reset. -/
  | pcieLinkLoss
  /-- PERST_N (R439). Assertion of PERST_N, which resets the PCIe link only. -/
  | perstN
  /-- BRANCH (R310). Control instruction that branches after two delay slots. -/
  | branch (n : BitVec 4) (cond : BitVec 4) (a : BitVec 4) (target : BitVec 14) (mv : Moves)
  /-- CALL (R310). Control instruction that calls after two delay slots. -/
  | call (n : BitVec 4) (cond : BitVec 4) (a : BitVec 4) (target : BitVec 14) (mv : Moves)
  /-- RETURN (R310). Control instruction that returns after two delay slots. -/
  | returnOp (n : BitVec 4) (cond : BitVec 4) (a : BitVec 4) (mv : Moves)
  /-- RPT (R311). Instruction that repeats the next instruction 1 to 1,024 times. -/
  | rpt (n : BitVec 4) (count : RptCount) (mv : Moves)
  /-- LOOP (R312). Instruction that opens a zero-overhead loop body of up to two levels. -/
  | loop (n : BitVec 4) (a : BitVec 4) (target : BitVec 14) (mv : Moves)
  /-- END (R334). Instruction that completes a work item, stamps it and sends its completion token. -/
  | endItem (n : BitVec 4) (mv : Moves)
  /-- NOP (R302). Control instruction with no effect besides its moves. -/
  | nop (n : BitVec 4) (mv : Moves)
  /-- VECTOR_ADD (R306). Lane-wise add, wrapping or saturating. -/
  | vectorAdd (n : BitVec 4) (f : FormatP)
  /-- VECTOR_SUBTRACT (R306). Lane-wise subtract, wrapping or saturating. -/
  | vectorSubtract (n : BitVec 4) (f : FormatP)
  /-- COMPARE (R302). Vector compare instruction. -/
  | compare (n : BitVec 4) (f : FormatP)
  /-- SELECT (R302). Vector select instruction. -/
  | select (n : BitVec 4) (f : FormatP)
  /-- LOGIC (R302). Vector logic instruction. -/
  | logic (n : BitVec 4) (op : BitVec 6) (f : FormatP)
  /-- SHIFT (R306). Lane-wise arithmetic shift with optional rounding or saturation. -/
  | shift (n : BitVec 4) (f : FormatP) (count : Int)
  /-- MUL (R306). Fractional lane-wise multiply. -/
  | mul (n : BitVec 4) (f : FormatP)
  /-- NORM (R308). Normalise lanes or an accumulator by the redundant sign bits. -/
  | norm (n : BitVec 4) (f : FormatP) (src : NormSource)
  /-- EXP (R308). Count the redundant sign bits of lanes or an accumulator. -/
  | exp (n : BitVec 4) (f : FormatP) (src : NormSource)
  /-- VECTOR_MOVE (R302). Move between V registers. -/
  | vectorMove (n : BitVec 4) (f : FormatP)
  /-- MAC (R305). Lane-wise multiply-accumulate. -/
  | mac (n : BitVec 4) (f : FormatP)
  /-- MSU (R305). Lane-wise multiply-subtract. -/
  | msu (n : BitVec 4) (f : FormatP)
  /-- CMAC (R305). Complex multiply-accumulate. -/
  | cmac (n : BitVec 4) (f : FormatP)
  /-- CMACC (R305). Complex multiply-accumulate with the conjugate of vb. -/
  | cmacc (n : BitVec 4) (f : FormatP)
  /-- CLR (R302). Clear an accumulator. -/
  | clr (n : BitVec 4) (f : FormatP)
  /-- LONG_LOAD (R304). Load of 16 to 128 bits from XM or YM with an offset. -/
  | longLoad (n : BitVec 4) (f : FormatL)
  /-- LONG_STORE (R297). Store of 16 to 128 bits to XM or YM; a narrow store takes two steps. -/
  | longStore (n : BitVec 4) (f : FormatL)
  /-- SCALAR_OP (R304). Scalar arithmetic on A and O registers with immediates. -/
  | scalarOp (n : BitVec 4) (op : BitVec 6) (f : FormatS)
  /-- LANE_MOVE (R304). Move of a lane between a V register and an A register. -/
  | laneMove (n : BitVec 4) (toV : Bool) (w : BitVec 2) (f : FormatS)
  /-- STAC (R307). Store accumulator lanes into a V register with shift, rounding and saturation. -/
  | stac (n : BitVec 4) (f : FormatP)
  /-- ACC_SHIFT (R303). Accumulator shift instruction. -/
  | accShift (n : BitVec 4) (f : FormatP)
  /-- FABRIC_LOAD (R304). Load from cell memory, LPDDR or registers, stalling until the handshake completes. -/
  | fabricLoad (n : BitVec 4) (f : FormatF)
  /-- FABRIC_STORE (R304). Store to cell memory, LPDDR or registers. -/
  | fabricStore (n : BitVec 4) (f : FormatF)
  /-- TOKEN_SEND (R325). Instruction that sends a V register as a token to a matching-store entry. -/
  | tokenSend (n : BitVec 4) (f : FormatF)
  /-- CORE_SIGNAL_TAKEN (R313). A waiting halt, step or breakpoint signal taken at the next allowed instruction boundary. `cause`: which waiting signal is taken, as VC_n_STAT.halt_cause codes it: 1 request, 2 breakpoint, 3 watchpoint, 4 step. -/
  | coreSignalTaken (n : BitVec 4) (cause : BitVec 3)
  /-- BUDGET_OVERRUN (R333). An item's step count passes its declared budget. -/
  | budgetOverrun (n : BitVec 4)
  /-- CORE_HUNG (R314). An item runs 65,536 steps beyond its budget and the core is marked hung. -/
  | coreHung (n : BitVec 4)
  /-- TOKEN_ACCEPT (R326). The dispatcher writes a token into its entry, or discards it on a collision or an unrouted entry. -/
  | tokenAccept
  /-- PREFETCH (R328). The dispatcher fills an empty prefetch slot and copies the operands into XM. -/
  | prefetch
  /-- ITEM_START (R330). A core starts the item in its slot and empties its entries. -/
  | itemStart (n : BitVec 4)
  /-- TEMPLATE_SPAN_TRIGGER (R336). A SPAN template row fires at its offset after the span instant. -/
  | templateSpanTrigger (t : BitVec 6)
  /-- SPAN_INSTANT (R21). Span instant on TB0: nodes sample and latch, and the device publishes pace and slack, sends the exchange frame and applies accepted commands. `volts` holds the last sample of each rail monitor in mV, by monitor number. -/
  | spanInstant (pace : Paces) (volts : List (BitVec 16))
  /-- GATHER_DEPARTURE (R22). The keystone transmits the gather deck at the span instant plus the gather offset. -/
  | gatherDeparture (r : BitVec 4)
  /-- GATHER_COMPLETION (R23). The keystone receives and checks the whole gather deck of a ring. -/
  | gatherCompletion (r : BitVec 4) (west : Option Octets) (east : Option Octets) (lap : W32)
  /-- GATHER_CUTOFF (R23). The gather cut-off passes and a gather deck not yet complete counts as lost. -/
  | gatherCutoff (r : BitVec 4)
  /-- DELIVER_CUTOFF (R25). The keystone freezes the deliver panels, bays and stop word of a ring. -/
  | deliverCutoff (r : BitVec 4)
  /-- OUTPUT_FREEZE (R290). In a span without a deliver cut-off, DIO_OUT is frozen at next span instant minus 2 µs. -/
  | outputFreeze
  /-- DELIVER_DEPARTURE (R24). The keystone transmits the deliver deck at D. -/
  | deliverDeparture (r : BitVec 4)
  /-- DELIVER_DECK_RETURN (R91). A deliver deck returns to the keystone, is checked, and has its comparison slots compared. -/
  | deliverDeckReturn (r : BitVec 4) (west : Option Octets) (east : Option Octets) (lap : W32)
  /-- DECK_ARRIVAL (R89). A deck passes through a node, which writes, forwards, checks it and decides whether to apply it. -/
  | deckArrival (r : BitVec 4) (pos : BitVec 5) (deck : Octets) (pass_ : Passage)
  /-- NODE_DATA_LOSS (R90). A node that has applied no deck for its data-loss time performs its loss reaction. -/
  | nodeDataLoss (r : BitVec 4) (pos : BitVec 5)
  /-- MAILBOX_RETRANSMIT (R85). A segment unacknowledged within 8 decks is retransmitted, or the message fails after 3 retransmissions. -/
  | mailboxRetransmit (r : BitVec 4)
  /-- LISTEN_TIMEOUT (R96). A listening device's timeout expires and it originates COLD decks. -/
  | listenTimeout (r : BitVec 4)
  /-- DECK_SILENCE_TIMEOUT (R97). A node that has received no deck for 4,000 µs restarts listening. -/
  | deckSilenceTimeout (r : BitVec 4)
  /-- COLD_DECK_RECEIVED (R97). A listening or originating device acts on a COLD deck according to its claim. -/
  | coldDeckReceived (r : BitVec 4) (deck : Octets)
  /-- CLAIM_BACKOFF_EXPIRY (R100). The back-off after a claim clash ends and the device listens again. -/
  | claimBackoffExpiry (r : BitVec 4)
  /-- COLD_DECK_DEPARTURE (R101). The originator or keystone sends a COLD deck. -/
  | coldDeckDeparture (r : BitVec 4)
  /-- COLD_DECK_RETURN (R101). The keystone takes the node count and lap from a returned COLD deck. -/
  | coldDeckReturn (r : BitVec 4) (deck : Octets) (east : Bool) (lap : W32)
  /-- INTEGRATE_DECK_DEPARTURE (R102). The keystone sends an INTEGRATE deck. -/
  | integrateDeckDeparture (r : BitVec 4)
  /-- INTEGRATE_DECK_RETURN (R105). The keystone reads the ready bits and advances or fails the integration phase. -/
  | integrateDeckReturn (r : BitVec 4) (deck : Octets) (back : DeckReturn)
  /-- INTEGRATION_TIMEOUT (R37). The integration timeout expires and the cell goes to FAULT. -/
  | integrationTimeout
  /-- PROBE_WINDOW_OPEN (R108). A probe window opens and the device sends a probe request on each connected port. -/
  | probeWindowOpen (port : BitVec 5)
  /-- PROBE_REQUEST (R108). A probe request arrives and is answered within 512 ns, or not at all. `octets`: the 7 octets of the probe; `times`: when the request came and its response would leave; `inWindow`: that this lies within the own window. -/
  | probeRequest (port : BitVec 5) (octets : Octets) (times : ProbeTimes) (inWindow : Bool)
  /-- PROBE_RESPONSE (R109). A probe response gives a link-delay result or is discarded. `octets`: the 7 octets of the probe; `tx`: when the own request left; `rx`: when the response came. -/
  | probeResponse (port : BitVec 5) (octets : Octets) (tx : RawStamp) (rx : RawStamp)
  /-- PROBE_SILENT (R109). A port without a valid probe result for 64 spans keeps its delay and raises probe silent. -/
  | probeSilent (port : BitVec 5)
  /-- LINK_UP (R71). A port is link up after sync plus 16,384 clean code groups. -/
  | linkUp (port : BitVec 5) (alignment : BitVec 4)
  /-- LINK_DOWN (R71). A port loses sync and leaves link up. -/
  | linkDown (port : BitVec 5)
  /-- LE_RUN (R144). `joints` and `axes`: the time that each of channels 0 to 63 and each of channels 64 to 71 takes, in 125 ps, 0 where a list ends. The joint-loop engine advances the path times and processes channels 0 to 71. -/
  | leRun (joints : List Nat) (axes : List Nat)
  /-- DEADLINE_LE_EXPIRY (R31). The DEV_DEADLINE_LE compare fires in the time-base island. -/
  | deadlineLeExpiry
  /-- DEADLINE_VC_EXPIRY (R32). DEV_DEADLINE_VC passes; arms whose template items missed it use extrapolated references. -/
  | deadlineVcExpiry
  /-- PROFILE_RUN (R186). The generator computes p_next and writes the knots of every PROFILE channel. -/
  | profileRun (reached : BitVec 7)
  /-- WARDEN_RUN (R211). Warden computes distances, scales and stop demands, and assembles DEMAND containers. -/
  | wardenRun
  /-- WARDEN_DEADLINE (R220). The Warden deadline passes; an overrun takes scale 0 and, twice in a row, SS1 of every arm. -/
  | wardenDeadline
  /-- WARDEN_LOCKSTEP (R222). A lockstep mismatch opens every high-side switch and halts Warden. -/
  | wardenLockstep
  /-- HEARTBEAT_RECEIVED (R221). The Parapet receives Warden's heartbeat and measures the gap. -/
  | heartbeatReceived (span : W32) (gap : Nat)
  /-- WARDEN_SILENT (R228). The heartbeat window expires and the Parapet opens every low-side switch. -/
  | wardenSilent
  /-- HEARTBEAT_RESTORED (R228). Heartbeats for 1 s without a gap let the Parapet close its switches. -/
  | heartbeatRestored
  /-- PARAPET_EVALUATION (R225). Every 8 µs the Parapet evaluates every joint against the rule in force and runs test vectors. -/
  | parapetEvaluation (vectorsPass : Bool)
  /-- GRACE_END (R226). The grace time ends and the newest rule alone applies. -/
  | graceEnd
  /-- PARAPET_HOLD_END (R227). The Parapet hold time after a cleared violation ends. -/
  | parapetHoldEnd (a : BitVec 3)
  /-- PARAPET_CONTAINER_RECEIVED (R205). The Parapet receives a container over the serial path and checks it. -/
  | parapetContainerReceived (conn : BitVec 8) (octets : Octets)
  /-- DEMAND_OCTETS_RECEIVED (R206). The Parapet adds demand_b and check B to a DEMAND container and returns them. -/
  | demandOctetsReceived (conn : BitVec 8) (octets : Octets)
  /-- SPAN_MARK_RECEIVED (R252). The Parapet trims its TB0 copy towards a span-instant mark, or ignores the mark. -/
  | spanMarkReceived (ns32 : W32)
  /-- INTEGRATION_MARK_RECEIVED (R254). An integration mark puts the ring's connections into STARTING. -/
  | integrationMarkReceived (r : BitVec 4)
  /-- CONNECTION_WATCHDOG_EXPIRY (R254). The newest accepted container grows older than T_wd and the connection goes SAFE. -/
  | connectionWatchdogExpiry (ch : Channel) (conn : BitVec 8)
  /-- PARAPET_STATUS_REPORT (R233). The Parapet reports status, its section CRC and its counts over the status path. -/
  | parapetStatusReport
  /-- SAFE_INPUT_CHANGE (R235). A safe-input pin changes its filtered level in a channel, with the role's action. -/
  | safeInputChange (ch : Channel) (input : BitVec 4) (pinB : Bool) (samples : List Bool)
  /-- DISCREPANCY_FAULT (R237). Two pins differ beyond the discrepancy time and the input counts as open. -/
  | discrepancyFault (ch : Channel) (input : BitVec 4)
  /-- TEST_PULSE (R241). A test-pulse source pulses and each channel checks its pins. -/
  | testPulse (ch : Channel) (tp : BitVec 2) (readsLow : Bool) (high : BitVec 32)
  /-- OFF_DELAY_EXPIRY (R244). A lost permit's off delay expires and the channel opens its switch. -/
  | offDelayExpiry (ch : Channel) (n : BitVec 3)
  /-- OUTPUT_READBACK_FAULT (R245). A read-back mismatch lasting 50 µs latches an output fault. -/
  | outputReadbackFault (n : BitVec 3) (sw : Channel) (readsClosed : Bool)
  /-- SAFE_OUTPUT_OVERLOAD (R245). Current limit for 1 ms or thermal shutdown opens both switches. -/
  | safeOutputOverload (n : BitVec 3) (sw : Channel)
  /-- DARK_TEST (R246). A channel opens its closed switch for the dark-test width. -/
  | darkTest (ch : Channel) (n : BitVec 3)
  /-- DARK_TEST_END (R246). The width ends and the switch passes or fails. -/
  | darkTestEnd (ch : Channel) (n : BitVec 3) (readsOpen : Bool)
  /-- SAF_KEY_CHANGE (R261). SAF_KEY changes level; outside an acceptance it is counted only. -/
  | safKeyChange (ch : Channel) (level : Bool)
  /-- STAGED_COPY_LAPSE (R261). A staged safety copy lapses after 600 s. -/
  | stagedCopyLapse
  /-- SOLVE_TRIGGER (R159). A trigger slot's start instant arrives and the solve enters its lane queue. -/
  | solveTrigger (slot : BitVec 7)
  /-- SOLVE_START (R161). A lane starts a queued solve: list, set-up and the start of refactorisation or iteration. -/
  | solveStart (lane : BitVec 5)
  /-- REFACTORISATION_COMPLETE (R165). The last column is stored and the new factor buffer becomes active. -/
  | refactorisationComplete (lane : BitVec 5)
  /-- ITERATION_COMPLETE (R166). An ADMM iteration writes x, z and y in one handshake. -/
  | iterationComplete (lane : BitVec 5)
  /-- SOLVE_POSTING (R172). The lane computes the residuals and posts a result buffer with a completion token. -/
  | solvePosting (lane : BitVec 5)
  /-- SOLVE_DEADLINE (R168). A solve deadline arrives first and the result is STALE or TRUNCATED. -/
  | solveDeadline (slot : BitVec 7)
  /-- ZERO_EVENT (R267). A carrier leaves 0: sync pulse, current sampling, loads, forces and commutation. -/
  | zeroEvent (n : BitVec 3) (flt : Bool) (vs : PhaseVolts)
  /-- CARRIER_PEAK (R271). A carrier reaches its top and a force with at_peak takes effect. -/
  | carrierPeak (n : BitVec 3)
  /-- CONVERSION_COMPLETE (R274). A current-sense conversion completes and may cause an overcurrent cut. -/
  | conversionComplete (n : BitVec 3) (second : Bool) (sample : W16)
  /-- FLT_ACTIVE (R272). FLTn becomes active and the module drives its fault levels. -/
  | fltActive (n : BitVec 3)
  /-- FEEDBACK_EDGE (R278). An accepted feedback edge counts Hall, quadrature, index or STEP. -/
  | feedbackEdge (n : BitVec 3) (levels : BitVec 3)
  /-- EDGE_SPACING_EXPIRY (R278). The spacing runs out and the filtered level takes the pin level. -/
  | edgeSpacingExpiry (n : BitVec 3) (pins : BitVec 3)
  /-- STEP_PULSE (R277). A STEP_DIR module emits a step pulse at its interval. -/
  | stepPulse (n : BitVec 3)
  /-- STEP_INPUT_TIMEOUT (R276). No external step for twice the last interval stops m at the target. -/
  | stepInputTimeout (n : BitVec 3)
  /-- HOLD_AMPLITUDE (R275). m unchanged for 64 spans switches a stepper to its hold amplitude. -/
  | holdAmplitude (n : BitVec 3)
  /-- EXCHANGE_FRAME (R285). The field die receives an exchange frame, switches outputs and answers. -/
  | exchangeFrame (good : Bool)
  /-- EXCHANGE_ANSWER (R285). The core die receives the field die's answer with the input image. -/
  | exchangeAnswer (good : Bool)
  /-- DIO_IN_PUBLISH (R289). The input image is published at span instant plus 4 µs. -/
  | dioInPublish
  /-- FIELD_OUTPUT_FAULT (R292). An overcurrent for 1 ms or a thermal shutdown latches outputs off. -/
  | fieldOutputFault (pin : BitVec 6) (wholeGroup : Bool)
  /-- FIELD_WATCHDOG_EXPIRY (R294). The field watchdog runs out and outputs take their safe states. -/
  | fieldWatchdogExpiry
  /-- REFCLK_WINDOW (R47). The Parapet ends a 256 µs REFCLK counting window. -/
  | refclkWindow (count : W16)
  /-- PTP_FRAME_RECEIVED (R68). The PTP engine handles a PTP frame that the port has accepted and disciplines TB1. `place`: its place among the frames that wait, 0 the oldest. -/
  | ptpFrameReceived (port : Bool) (place : Nat)
  /-- SYNC_LOSS_TIMEOUT (R68). No Sync for the sync-loss time takes TB1 to HOLDOVER. -/
  | syncLossTimeout
  /-- PLANT_FRAME_RECEIVED (R65). A plant port filters and classifies a received frame. -/
  | plantFrameReceived (port : Bool) (fcsGood : Bool) (frame : Octets) (rx : FrameStamps)
  /-- FRAME_TRANSMITTED (R66). A plant-port transmission completes and is stamped. -/
  | frameTransmitted (port : Bool) (tx : FrameStamps)
  /-- PSL_SEND_PERIOD (R258). The send period expires and a PSL frame is sent to each destination. -/
  | pslSendPeriod (port : Bool) (dest : BitVec 8)
  /-- CROSS_LINK_RECORD (R379). A unit receives a cross-link record from its partner. -/
  | crossLinkRecord (lane : Bool) (checkGood : Bool) (rec : XRecord)
  /-- CROSS_LINK_HEARTBEAT (R379). Each unit sends its heartbeat record at span instant plus 2 µs. -/
  | crossLinkHeartbeat
  /-- COMMAND_RECORD_MISSED (R383). A command record not received by e − 2 µs makes the standby unhealthy. -/
  | commandRecordMissed
  /-- CROSS_LINK_SILENT (R389). Both lanes are silent for 8 µs. -/
  | crossLinkSilent
  /-- EXPECTED_DECK_TIMEOUT (R389). The active unit's deck is 1 µs late and the partner is declared failed. -/
  | expectedDeckTimeout
  /-- TAKEOVER (R390). The standby becomes ACTIVE at its next deck departure. -/
  | takeover
  /-- TRANSFER (R388). The active role moves to the other unit at span h. -/
  | transfer
  /-- DIP_START (R438). A rail goes below its warning level, raising 0x0301. -/
  | dipStart (rail : BitVec 4) (mv : W16)
  /-- WARNING_DWELL_EXPIRY (R438). A dip outlasts the warning dwell, raising 0x0302. -/
  | warningDwellExpiry (rail : BitVec 4)
  /-- DIP_END (R438). 8 samples at or above the level plus hysteresis end the dip. -/
  | dipEnd (rail : BitVec 4) (mv : W16)
  /-- RAIL_BELOW_RESET_LEVEL (R438). A rail falls below its reset level and the action of R436 follows. -/
  | railBelowResetLevel (rail : BitVec 4) (mv : W16)
  /-- POWER_ON_RESET (R439). VAUX rises and the module resets, except the Parapet. -/
  | powerOnReset
  /-- RST_N_ASSERT (R439). RST_N low for 1 µs or longer resets the core die. -/
  | rstNAssert
  /-- RESET_HELD (R442). RST_N low for 5 s is logged by the Parapet. -/
  | resetHeld
  /-- TB2_WATCHDOG_EXPIRY (R441). The TB2 watchdog expires and resets the core die. -/
  | tb2WatchdogExpiry
  /-- PARAPET_RESET (R443). PRST_N or VPAR resets the Parapet. -/
  | parapetReset
  /-- WAKE (R449). WAKE_N or PERST_N wakes the device from DORMANT. -/
  | wake
  /-- RESET_RELEASE (R440). The core-die reset is released and start-up begins. -/
  | resetRelease (io : StoreIo)
  /-- CATALOGUE_LOAD (R369). The loader validates both copies and selects the copy in force. -/
  | catalogueLoad (io : StoreIo)
  /-- LPDDR_INIT_COMPLETE (R415). Background LPDDR initialisation finishes. -/
  | lpddrInitComplete
  /-- SCRUB_READ (R409). A scrubber reads a word at an idle cycle and handles errors. -/
  | scrubRead (domain : BitVec 10) (found : Found)
  /-- SCRUB_SLOW (R410). A lap runs past its limit. -/
  | scrubSlow (domain : BitVec 10)
  /-- CORRECTED_WRITE_BACK (R408). A corrected word is written back at an idle cycle. -/
  | correctedWriteBack (domain : BitVec 10) (word : W32)
  /-- REMAP_RECORD_WRITE (R413). The registrar writes a remap entry to the store. -/
  | remapRecordWrite (io : StoreIo)
  /-- EVENT_SEQUENCED (R425). The event unit assigns a sequence number to a record. -/
  | eventSequenced
  /-- EVENT_LOG_WRITE (R427). A record is written to the store log. -/
  | eventLogWrite (io : StoreIo)
  /-- PARAPET_START (R443). The Parapet leaves its reset or its own power-on, selects its safety copy, restarts its guard tests and holds its connections in STARTING. -/
  | parapetStart
  /-- RAIL_ABOVE_RESET_LEVEL (R437). A VSAFE or VFIELD monitor finds its rail above the reset level plus hysteresis again, so the group or the safe outputs come back. -/
  | railAboveResetLevel (rail : BitVec 4) (mv : W16)
  /-- PCS_SYNC_ACQUIRED (R71). A link port's Clause 36 synchronisation process acquires sync, sets pcs_sync and starts counting towards link up. -/
  | pcsSyncAcquired (port : BitVec 5)
  /-- INVALID_CODE_GROUP (R13). An invalid code group or Clause 37 configuration set outside a deck is counted and restarts the link-up count. -/
  | invalidCodeGroup (port : BitVec 5) (inDeck : Bool)
  /-- DIO_SAMPLING_POINT (R288). The field die samples its input pins, after the wetting window for PULSED pins, and advances each filter. -/
  | dioSamplingPoint (levels : BitVec 48)  (continuous : Bool)
  /-- PARAPET_STATUS_TIMEOUT (R233). No Parapet status report arrives within 2 spans + 16 µs, so SAF_STAT.parapet_ok clears and vector 19 is raised. -/
  | parapetStatusTimeout
  /-- PCIE_LINK_TRAINED (R445). The PCIe link trains, and configuration requests are answered with Configuration Request Retry Status until the host interface is ready. -/
  | pcieLinkTrained
  /-- PTP_MESSAGE_INTERVAL (R67). The PTP engine transmits its periodic messages: Sync as master at the log_sync interval, Delay_Req or Pdelay_Req as a slave or end station. -/
  | ptpMessageInterval (port : Bool)
  deriving DecidableEq, Repr

end Sys2Proof
end

