-- ==== Sys2Proof/Machine/Bits.lean ====
section
/-! DEFINITION. Helpers on words, octets and fixed-point numbers: byte order (R4), saturation (R5, R433), rounding (R136), and the check values of R417. -/
namespace Sys2Proof.Machine

/-- A saturating count (R433): it stays at all ones. -/
def satAdd {w : Nat} (x : BitVec w) (n : Nat) : BitVec w :=
  if x.toNat + n < 2 ^ w then BitVec.ofNat w (x.toNat + n) else BitVec.allOnes w

def inc {w : Nat} (x : BitVec w) : BitVec w := satAdd x 1

/-- The least value of a signed field of `w` bits. -/
def minS (w : Nat) : Int := -(2 ^ (w - 1) : Nat)

/-- The greatest value of a signed field of `w` bits. -/
def maxS (w : Nat) : Int := (2 ^ (w - 1) : Nat) - 1

def clampInt (lo hi x : Int) : Int := if x < lo then lo else if hi < x then hi else x

/-- Saturates an integer to a signed field (R5). -/
def satS (w : Nat) (x : Int) : Int := clampInt (minS w) (maxS w) x

def bvS (w : Nat) (x : Int) : BitVec w := BitVec.ofInt w (satS w x)

/-- `x × 2^k`, a right shift discarding bits for negative `k` (R136). -/
def shiftI (x : Int) (k : Int) : Int :=
  if 0 ≤ k then x * (2 ^ k.toNat : Nat) else x / (2 ^ (-k).toNat : Nat)

/-- Round half up of `x / 2^d` (R136). -/
def roundShift (x : Int) (d : Nat) : Int :=
  if d = 0 then x else (x + (2 ^ (d - 1) : Nat)) / (2 ^ d : Nat)

/-- Round half up of `n / d` for positive `d`. -/
def roundDiv (n : Int) (d : Int) : Int := if d ≤ 0 then 0 else (2 * n + d) / (2 * d)

/-- Quotient rounded towards plus infinity. -/
def ceilDiv (n : Int) (d : Int) : Int := if d ≤ 0 then 0 else -((-n) / d)

def floorDiv (n : Int) (d : Int) : Int := if d ≤ 0 then 0 else n / d

/-- One bit of an integer square root, most significant first. -/
def sqrtStep (n : Nat) : Nat → Nat → Nat
  | 0, r => r
  | k + 1, r =>
    let t := r + 2 ^ k
    sqrtStep n k (if t * t ≤ n then t else r)

/-- The integer square root of a number below 2^(2·bits), rounded down. -/
def isqrt (bits n : Nat) : Nat := sqrtStep n bits 0

/-- The octets of a number, least significant first (R4). -/
def leBytes : Nat → Nat → Octets
  | 0, _ => []
  | n + 1, v => BitVec.ofNat 8 (v % 256) :: leBytes n (v / 256)

def ofLe : Octets → Nat
  | [] => 0
  | b :: t => b.toNat + 256 * ofLe t

/-- `len` octets from offset `off`; octets past the end read 0. -/
def sliceO (o : Octets) (off len : Nat) : Octets :=
  let t := (o.drop off).take len
  t ++ List.replicate (len - t.length) 0

def fieldO (o : Octets) (off len : Nat) : Nat := ofLe (sliceO o off len)

def u8 (o : Octets) (off : Nat) : Byte := BitVec.ofNat 8 (fieldO o off 1)
def u16 (o : Octets) (off : Nat) : W16 := BitVec.ofNat 16 (fieldO o off 2)
def u32 (o : Octets) (off : Nat) : W32 := BitVec.ofNat 32 (fieldO o off 4)
def u64 (o : Octets) (off : Nat) : W64 := BitVec.ofNat 64 (fieldO o off 8)

/-- The octets with `n` written at `off`; what lies past the end is dropped. -/
def spliceO (o : Octets) (off : Nat) (n : Octets) : Octets :=
  if o.length ≤ off then o
  else o.take off ++ n.take (o.length - off) ++ o.drop (off + n.length)

def put16 (o : Octets) (off : Nat) (v : W16) : Octets := spliceO o off (leBytes 2 v.toNat)
def put32 (o : Octets) (off : Nat) (v : W32) : Octets := spliceO o off (leBytes 4 v.toNat)
def put64 (o : Octets) (off : Nat) (v : W64) : Octets := spliceO o off (leBytes 8 v.toNat)

def orO (a b : Octets) : Octets := List.zipWith (· ||| ·) a b

def notO (a : Octets) : Octets := a.map (~~~ ·)

/-- The checks of R417. -/
inductive Poly where
  | crc32c
  | crc32
  | crc16
  deriving DecidableEq, Repr

/-- `n` steps of a reflected check. -/
def crcLow (poly : W32) : Nat → W32 → W32
  | 0, c => c
  | n + 1, c => crcLow poly n (if c.getLsbD 0 then (c >>> 1) ^^^ poly else c >>> 1)

/-- `n` steps of CRC-16, most significant bit first. -/
def crcHigh : Nat → W16 → W16
  | 0, c => c
  | n + 1, c => crcHigh n (if c.getLsbD 15 then (c <<< 1) ^^^ 0x1021 else c <<< 1)

/-- The running value after an octet (R417); CRC-16 lies in the low 16 bits. -/
def crcOctet (p : Poly) (c : W32) (b : Byte) : W32 :=
  match p with
  | .crc32c => crcLow 0x82F63B78 8 (c ^^^ b.setWidth 32)
  | .crc32 => crcLow 0xEDB88320 8 (c ^^^ b.setWidth 32)
  | .crc16 => (crcHigh 8 (c.setWidth 16 ^^^ (b.setWidth 16 <<< 8))).setWidth 32

def crcInit : Poly → W32
  | .crc16 => 0xFFFF
  | _ => 0xFFFFFFFF

def crcFinal : Poly → W32 → W32
  | .crc16, c => c
  | _, c => c ^^^ 0xFFFFFFFF

def crcRun (p : Poly) (c : W32) (o : Octets) : W32 := o.foldl (crcOctet p) c

/-- The check of a string of octets (R417). -/
def crcOf (p : Poly) (o : Octets) : W32 := crcFinal p (crcRun p (crcInit p) o)

def crc32c (o : Octets) : W32 := crcOf .crc32c o

/-- Bit `i` of a word as a Bool, and a word with a bit set or cleared. -/
def bitSet {w : Nat} (x : BitVec w) (i : Nat) (v : Bool) : BitVec w :=
  if v then x ||| (1#w <<< i) else x &&& ~~~ (1#w <<< i)

def b2n (b : Bool) : Nat := if b then 1 else 0

/-- A register word from fields given as value and lowest bit. -/
def word (fs : List (Nat × Nat)) : W32 := BitVec.ofNat 32 (fs.foldl (fun a f => a + f.1 * 2 ^ f.2) 0)

/-- The numbers 0 to n − 1. -/
def upto (n : Nat) : List Nat := List.range n

end Sys2Proof.Machine
end

