-- ==== Sys2Proof/Machine/Arith.lean ====
section
/-! DEFINITION. The 80-bit accumulators of the joint-loop engine (R136). -/
namespace Sys2Proof.Machine

/-- A value with the saturations it took. -/
structure Sat where
  v : Int := 0
  sat : Bool := false
  deriving DecidableEq, Repr

def clampSat (w : Nat) (x : Int) : Sat := { v := satS w x, sat := satS w x != x }

/-- A term shifted to the accumulator's fraction position: a right shift discards bits, a left shift saturates. -/
def accTerm (x : Int) (k : Int) : Sat := clampSat 80 (shiftI x k)

/-- Adds `x × 2^k`. -/
def Sat.add (a : Sat) (x : Int) (k : Int) : Sat :=
  let t := accTerm x k
  let r := clampSat 80 (a.v + t.v)
  { v := r.v, sat := a.sat || t.sat || r.sat }

/-- Subtracts `x × 2^k`, shifted as an added term is. -/
def Sat.sub (a : Sat) (x : Int) (k : Int) : Sat :=
  let t := accTerm x k
  let r := clampSat 80 (a.v - t.v)
  { v := r.v, sat := a.sat || t.sat || r.sat }

/-- Stores to a format of `w` bits, `d` fraction bits below the accumulator's: round half up, then saturate. -/
def Sat.store (a : Sat) (d w : Nat) : Sat :=
  let r := clampSat w (roundShift a.v d)
  { v := r.v, sat := a.sat || r.sat }

/-- Round half up of an exact value and saturation. -/
def storeI (x : Int) (d w : Nat) : Int := satS w (roundShift x d)

end Sys2Proof.Machine
end

