-- ==== Sys2Proof/Config.lean ====
section
/-! DEFINITION. What the spec leaves open: free values and uninterpreted functions. None has a body, so no proof can see a value. Each is named in notes/assumptions. -/
namespace Sys2Proof.Config

/-- A free value of `w` bits; State.fresh counts the draws (log entry 1). -/
opaque freeBits : (w : Nat) → Nat → BitVec w

/-- The catalogue that the sections of an image spell (R367). The spec gives no octet layouts of the sections, which are Plajan's (log entry 3). -/
opaque sectionsOf : Octets → Machine.Catalogue

/-- Maelengo's firmware key in the boot ROM (R373; log entry 4). -/
opaque firmwareKey : BitVec 512

/-- Whether a catalogue image passes the schedule checks that rest on worst cases known to Plajan alone (R368 CONTENT; log entry 21). -/
opaque contentGood : Octets → Bool

/-- Versions that a firmware image carries, for VC_REG_STAT (R322; log entry 4). -/
opaque firmwareVersion : Octets → BitVec 16

/-- Sine of an angle in Q8.24 rad, in Q2.30, as Warden's coprocessor forms it (R208; log entry 5). -/
opaque wardenSin : Int → Int

/-- Cosine, as `wardenSin` (R208; log entry 5). -/
opaque wardenCos : Int → Int

/-- The fraction bits that a solver accumulator keeps below its result's least mantissa bit (R153; log entry 6). -/
opaque solverGuard : Nat

/-- The exponent at which a column's products L[j,k] × d[k] are stored as an operand (R163; log entry 6). -/
opaque solverProductExp : Nat → Int

/-- Whether a REFCLK count between ±800 and ±1,200 ppm declares the fault (R47; log entry 7). -/
opaque refclkDeclares : BitVec 16 → Bool

end Sys2Proof.Config
end

