-- ==== Sys2Proof/Machine/Types/Cell.lean ====
section
/-! DEFINITION. The state of the cell, the time bases, the plant ports, the events, the host interface, the store, the power block and the pair. Field defaults are the reset values; INVENTORY.md names the rule of each. -/
namespace Sys2Proof.Machine

/-- Cell states (R36). -/
inductive CellState where
  | uncatalogued
  | loaded
  | integrating
  | parked
  | hold
  | run
  | stopping
  | fault
  deriving DecidableEq, Repr

/-- Arm states (R40, R45). -/
inductive ArmState where
  | unused
  | enabled
  | stopping
  | halted
  deriving DecidableEq, Repr

/-- Where a controlled stop ends (R37). -/
inductive StopGoal where
  | hold
  | parked
  | fault
  deriving DecidableEq, Repr

/-- What a reply of a command in progress needs (R347, R351): the packet's echo, the span of its acceptance and the lots it names. -/
structure ReplyCtx where
  opcode : W16 := 0
  tag : Byte := 0
  notify : Bool := false
  seq : W32 := 0
  span : W32 := 0
  lots : List Nat := []
  deriving DecidableEq, Repr

/-- An accepted command that waits for the span instant (R39). -/
structure CellCmd where
  queue : Option (BitVec 4) := none
  opcode : W16 := 0
  arg : Byte := 0
  deriving DecidableEq, Repr

/-- Pace, slack and overruns of an engine class (R33 to R35, R45). `dones` holds the completions not yet published: the span in which each fell and its slack. -/
structure EngineClass where
  pace : BitVec 24 := 0
  slack : W32 := 0x80000000
  slackMin : W32 := 0x7FFFFFFF
  overruns : W16 := 0
  paceLow : W16 := 0
  low : Bool := false
  dones : List (Nat × Int) := []
  deriving DecidableEq, Repr

/-- The DEV block and the cell's own state (R36 to R45). `cellAt` and `armsAt` are the states at the last span instant (R127). `heldStop` is the event of a CELL_STOP reaction that waits for the span instant (R431), `stopSpan` the first whole span of a controlled stop, and `armStopSpan` that of each arm's. -/
structure DevState where
  stepping : W32 := 0
  serialLo : W32 := 0
  serialHi : W32 := 0
  cell : CellState := .uncatalogued
  previous : CellState := .uncatalogued
  causeKind : Byte := 0
  transitions : W16 := 0
  causeEvent : W16 := 0
  causeOpcode : W16 := 0
  arms : Table ArmState := []
  cellAt : CellState := .uncatalogued
  armsAt : Table ArmState := []
  accepted : List CellCmd := []
  heldStop : Option W16 := none
  stopGoal : StopGoal := .hold
  stopEvent : W16 := 0
  stopOpcode : W16 := 0
  stopSpan : W64 := 0
  armStopSpan : Table W64 := []
  vc : EngineClass := {}
  za : EngineClass := {}
  le : EngineClass := {}
  deadlineVc : BitVec 20 := 0
  vcMissed : Byte := 0
  integrationFailed : Bool := false
  deriving DecidableEq, Repr

/-- States of a time base (R51). -/
inductive TbMode where
  | free
  | acquiring
  | locked
  | holdover
  | monotonic
  deriving DecidableEq, Repr

/-- A time base (R50 to R52, R69). -/
structure TimeBase where
  ns : W64 := 0
  frac : W32 := 0
  rate : W32 := 0
  mode : TbMode := .free
  clamped : Bool := false
  offset : W32 := 0
  step : W64 := 0
  hostSteps : W16 := 0
  steps : W16 := 0
  deriving DecidableEq, Repr

/-- A captured value of a time base (R53). -/
structure TbValue where
  ns : W64 := 0
  frac : W32 := 0
  deriving DecidableEq, Repr

/-- Compares that wait on a time base (R31, R56): the instants of the decks, of the field die and the cross-link, the deadlines, and the two instants for which the table has no command: the completion of a loop run and an item's deadline. -/
inductive CompareKind where
  | deadlineLe
  | deadlineVc
  | wardenDeadline
  | template (t : BitVec 6)
  | gatherDeparture (r : BitVec 4)
  | gatherCutoff (r : BitVec 4)
  | deliverCutoff (r : BitVec 4)
  | deliverDeparture (r : BitVec 4)
  | outputFreeze
  | inPublish
  | heartbeat
  | solveTrigger (slot : BitVec 7)
  | solveDeadline (slot : BitVec 7)
  | leComplete
  | itemDeadline (d : BitVec 10)
  deriving DecidableEq, Repr

structure Compare where
  tb : BitVec 2 := 0
  instant : W64 := 0
  what : CompareKind := .deadlineLe
  deriving DecidableEq, Repr

/-- A raw frame that waits for transmission (R66, R353); `queue` is owed the reply. -/
structure RawTx where
  queue : BitVec 4 := 0
  octets : Octets := []
  deriving DecidableEq, Repr

/-- The frame on the wire (R66): its class with its octets. -/
inductive Wire where
  | idle
  | ptp (octets : Octets)
  | psl (octets : Octets)
  | raw (f : RawTx)
  deriving DecidableEq, Repr

/-- The best master that a port has heard announced (R67, R68): its data set as a number to compare, its grandmaster and its port identity. -/
structure MasterSet where
  key : Nat := 0
  grandmaster : W64 := 0
  parent : Octets := []
  deriving DecidableEq, Repr

/-- What the PTP engine keeps of its exchanges on a port, in 2^-16 ns of PTP time (R67, R68): the Sync whose Follow_Up is due (sequenceId, receive stamp, correction), the last difference from master to slave, the delay request in flight and its transmission, the peer delay request likewise, the peer response whose Follow_Up is due, and the mean path delay. -/
structure PtpPort where
  sync : Option (W16 × Int × Int) := none
  diff : Int := 0
  request : Option (W16 × Option Int) := none
  peer : Option (W16 × Option Int) := none
  peerResp : Option (W16 × Int) := none
  delay : Int := 0
  announce : Option MasterSet := none
  seqs : Table W16 := []
  deriving DecidableEq, Repr

/-- A plant port (R63 to R69). `ptpIn` holds the accepted PTP frames with their receive stamps until the PTP engine takes them. -/
structure PlantPort where
  rxOk : W32 := 0
  txOk : W32 := 0
  fcs : W16 := 0
  length : W16 := 0
  filter : W16 := 0
  pause : W16 := 0
  nobuf : W16 := 0
  txDrop : W16 := 0
  portState : BitVec 4 := 0
  pathDelay : W32 := 0
  ptpIn : List (Octets × FrameStamps) := []
  ptp : PtpPort := {}
  ptpQueue : List Octets := []
  pslQueue : List Octets := []
  rawQueue : List RawTx := []
  wire : Wire := .idle
  lastSent : Octets := []
  pslUnknown : W16 := 0
  pslBad : W16 := 0
  deriving DecidableEq, Repr

/-- The TB block, the PTP instance and REFCLK (R46 to R69). `snaps` is keyed by requester and time base, `latches` by requester and register. `lockRing` is the ring through which TB0 took its step last (R110). `refPending` is the TB2 value of a fault that the Parapet declared while the core die was down (R449). -/
structure TbState where
  tb0 : TimeBase := {}
  tb1 : TimeBase := {}
  tb2 : TimeBase := { mode := .monotonic }
  tb3 : TimeBase := {}
  source : BitVec 2 := 0
  srcOffset : W64 := 0
  snaps : Table TbValue := []
  latches : Table W32 := []
  snapAll : Table TbValue := []
  compares : List Compare := []
  fired : List Compare := []
  lockRing : Option Nat := none
  refFault : Bool := false
  refCount : W16 := 0
  refBad : Nat := 0
  refGoodSince : Option W64 := none
  refPending : Option W64 := none
  rxAlign : Table (BitVec 4) := []
  ports : Table PlantPort := []
  grandmaster : Option W64 := none
  bigOffsets : Nat := 0
  master : Bool := false
  parent : Octets := []
  lastSync : W64 := 0
  deriving DecidableEq, Repr

/-- An event record (R423). -/
structure Record where
  seq : W32 := 0
  span : W32 := 0
  ns32 : W32 := 0
  tb2 : W64 := 0
  code : W16 := 0
  source : Byte := 0
  flags : Byte := 0
  data : W32 := 0
  cause : W32 := 0xFFFFFFFF
  deriving DecidableEq, Repr

/-- The event unit and the log (R425 to R435). `log` is keyed by sequence number. -/
structure EvtState where
  queue : List Record := []
  buffer : List Record := []
  log : Table Record := []
  nextSeq : W32 := 1
  oldestSeq : W32 := 1
  lost : W16 := 0
  lostDue : Nat := 0
  reactions : W16 := 0
  last : Record := { cause := 0 }
  reference : W32 := 1
  raised : Bool := false
  deriving DecidableEq, Repr

/-- A reply as it stands in host memory (R351). -/
structure Reply where
  opcode : W16 := 0
  tag : Byte := 0
  phase : Bool := false
  status : W16 := 0
  seq : W32 := 0
  span : W32 := 0
  r0 : W32 := 0
  r1 : W32 := 0
  r2 : W32 := 0
  r3 : W32 := 0
  deriving DecidableEq, Repr

/-- A command queue (R344 to R351, R361). `busy` is the command in progress; `lastReply` the reply last written to host memory. -/
structure Queue where
  enable : Bool := false
  active : Bool := false
  rqLog2 : BitVec 4 := 0
  sqLog2 : BitVec 4 := 0
  sqLo : W32 := 0
  sqHi : W32 := 0
  rqLo : W32 := 0
  rqHi : W32 := 0
  sqHead : W16 := 0
  sqTail : W16 := 0
  rqTail : W16 := 0
  rqHead : W16 := 0
  next : W32 := 0
  replies : W16 := 0
  badSeq : Byte := 0
  badDoorbell : Byte := 0
  phase : Bool := false
  busy : Option ReplyCtx := none
  discard : Bool := false
  lastReply : Reply := {}
  deriving DecidableEq, Repr

/-- An MSI-X table entry; the PCIe default masks it (R342, R343). -/
structure MsixEntry where
  addrLo : W32 := 0
  addrHi : W32 := 0
  data : W32 := 0
  masked : Bool := true
  deriving DecidableEq, Repr

/-- The host interface (R340 to R362). `sent` counts the MSI-X messages sent per vector and `readValue` is what the last read returned: both are what the host sees. -/
structure HqState where
  hostReady : Bool := false
  linkUp : Bool := false
  service : Bool := false
  stopped : Bool := false
  regRefused : BitVec 15 := 0
  queues : Table Queue := []
  lots : Table (BitVec 2) := []
  hostWrites : W16 := 0
  hostReads : W16 := 0
  badFlag : W16 := 0
  fabricRefused : W16 := 0
  lastValid : Bool := false
  lastWrite : Bool := false
  lastLot : W16 := 0
  msix : Table MsixEntry := []
  pba : W32 := 0
  sent : Table Nat := []
  pool0 : List Nat := []
  pool1 : List Nat := []
  readValue : Octets := []
  turn : Nat := 15
  deriving DecidableEq, Repr

/-- The state of an owner-key slot (R372). -/
inductive KeyState where
  | empty
  | active
  | revoked
  deriving DecidableEq, Repr

structure OwnerKey where
  state : KeyState := .empty
  key : BitVec 512 := 0
  deriving DecidableEq, Repr

/-- CAT_COPYc and CAT_FWi registers (R374). -/
structure CopyStat where
  valid : Bool := false
  complete : Bool := false
  reason : Byte := 0
  keySlot : BitVec 4 := 0
  seq : W32 := 0
  length : W32 := 0
  crc : W32 := 0
  deriving DecidableEq, Repr

/-- The store die and the CAT block (R363 to R374). Copies 0 and 1 are catalogue A and B, 2 and 3 firmware A and B. -/
structure CatState where
  store : Table Byte := []
  loaded : Bool := false
  copy : Bool := false
  targetOpen : Bool := false
  target : Bool := false
  busy : Bool := false
  fwFallback : Bool := false
  fwTargetOpen : Bool := false
  formatMax : W16 := 1
  curSeq : W32 := 0
  curCrc : W32 := 0
  copies : Table CopyStat := []
  keys : Table OwnerKey := []
  commits : W16 := 0
  rejected : Byte := 0
  storeErrors : Byte := 0
  deriving DecidableEq, Repr

/-- A rail's monitor (R436 to R438, R450). -/
structure Rail where
  minMv : W16 := 0xFFFF
  nowMv : W16 := 0
  warnings : W16 := 0
  dwells : Byte := 0
  resets : Byte := 0
  deriving DecidableEq, Repr

/-- The sources of a core-die reset (R439, R440). -/
inductive ResetSource where
  | powerOn
  | brownOut
  | rstN
  | watchdog
  | warm
  | wake
  deriving DecidableEq, Repr

/-- The PWR block and the reset state (R436 to R450). `inReset` holds while the core die is in reset; `causes` collects the sources of that reset. `dwelled` marks the dips whose dwell has run out (R438). -/
structure PwrState where
  coreEn : Bool := true
  entering : Bool := false
  dormant : Bool := false
  dips : BitVec 12 := 0
  dwelled : BitVec 12 := 0
  aboveReset : BitVec 12 := 0xFFF
  wdArmed : Bool := true
  wdTimeoutMs : BitVec 10 := 1000
  causeRails : BitVec 12 := 0
  causeResetHeld : Bool := false
  causeParapet : Bool := false
  causeWake : Bool := false
  causeWarm : Bool := false
  causeWatchdog : Bool := false
  causeRstN : Bool := false
  causeBrownOut : Bool := false
  causePowerOn : Bool := true
  brownOuts : Byte := 0
  rstNs : Byte := 0
  watchdogs : Byte := 0
  warms : Byte := 0
  dormants : W16 := 0
  parapets : W16 := 0
  hostReadyMs : W16 := 0
  loadedMs : W16 := 0
  releasedAt : W64 := 0
  snapValid : Bool := false
  snapRestored : Bool := false
  rails : Table Rail := []
  inReset : Bool := true
  causes : List ResetSource := [.powerOn]
  pendingRails : BitVec 12 := 0
  warmPrepared : Bool := false
  resetHeld : Bool := false
  deriving DecidableEq, Repr

/-- Roles in a pair (R375). -/
inductive PairRole where
  | single
  | active
  | standby
  | passive
  deriving DecidableEq, Repr

/-- A replicated command that waits for its effect span (R382); `ctx` is the queue whose reply is owed, in the active unit. -/
structure ReplPending where
  effect : W32 := 0
  cmd : ReplCommand := { opcode := 0, params := 0, list := [] }
  queue : Option (BitVec 4) := none
  onTrunk : Bool := false
  deriving DecidableEq, Repr

/-- The verdict the active unit sent for a gather deck (R380). -/
structure Verdict where
  span : W32 := 0
  good : Bool := false
  answers : W16 := 0
  given : Bool := false
  deriving DecidableEq, Repr

/-- The RED and HIER block (R375 to R401). `outbox` holds the records sent in the span, `ahead18` and `ahead19` those that one lane has brought and the other not yet, with their spans. `evalSpan` is the span in which the unit evaluated its health, `judged` that the outcome of R386 has been drawn, `withdrawn` that this unit withdrew, `transferDue` that a transfer waits to be named, `declared` that the partner is declared failed and `declaredAt` when on TB0, `imaged` that the state image has been sent. -/
structure RedState where
  role : PairRole := .single
  partnerAlive : Bool := false
  healthy : Bool := true
  partnerHealthy : Bool := false
  diverged : Bool := false
  stateAligned : Bool := false
  partnerRole : BitVec 2 := 0
  mismatched : W16 := 0
  matchRun : BitVec 9 := 0
  takeovers : W16 := 0
  transfers : Byte := 0
  withdrawals : Byte := 0
  lane18 : Bool := false
  lane19 : Bool := false
  recordErrors : W16 := 0
  run : Byte := 0
  divergences : W16 := 0
  spanCmp : CmpResult := .notCompared
  transferAt : Option W32 := none
  repl : List ReplPending := []
  verdicts : Table Verdict := []
  silent : Bool := false
  outbox : List XRecord := []
  fieldImage : Option (BitVec 48) := none
  trunkOk : Bool := false
  slewing : Bool := false
  present : Byte := 0
  lostRun : Byte := 0
  trunkLosses : W16 := 0
  stopsRelayed : W16 := 0
  holders : Table Byte := []
  workerPanels : Table Octets := []
  heldRequest : W64 := 0
  evalSpan : Option W32 := none
  judged : Bool := false
  withdrawn : Bool := false
  transferDue : Bool := false
  declared : Bool := false
  declaredAt : W64 := 0
  imaged : Bool := false
  ahead18 : List (W32 × XRecord) := []
  ahead19 : List (W32 × XRecord) := []
  deriving DecidableEq, Repr

end Sys2Proof.Machine
end

