-- ==== Sys2Proof/Machine/Types/Compute.lean ====
section
/-! DEFINITION. The state of the vector cores (R296 to R322), the dispatcher (R323 to R339), the stored-data integrity and the check-value units (R402 to R422). Field defaults are the reset values. -/
namespace Sys2Proof.Machine

/-- An active level of LOOP (R312). -/
structure LoopLevel where
  first : BitVec 14 := 0
  last : BitVec 14 := 0
  left : Nat := 0
  deriving DecidableEq, Repr

/-- Where a control transfer goes after its delay slots (R310). `ends` marks a branch, which can end loop levels (R312). -/
structure Transfer where
  ends : Bool := false
  slots : Nat := 0
  taken : Bool := false
  target : BitVec 14 := 0
  deriving DecidableEq, Repr

/-- A value on its way from XM or YM into the bits of a V register that `mask` names (R309). -/
structure Load where
  v : BitVec 5 := 0
  value : W128 := 0
  mask : W128 := 0
  deriving DecidableEq, Repr

/-- A vector core (R296 to R322). `loads` are the moves whose values land at the end of the next step (R309); `rpt` the repetitions the next instruction makes (R311) and `rptTail` the step after the last of them (R313); `item` the running item's descriptor index and `due` the TB0 instant of its deadline; `buffer` the operand buffer of the next item (R329). -/
structure Core where
  v : Table W128 := []
  a : Table W32 := []
  o : Table W32 := []
  ac : Table (BitVec 320) := []
  pc : BitVec 14 := 0
  loads : List Load := []
  transfer : Option Transfer := none
  rpt : Option Nat := none
  rptTail : Bool := false
  loops : List LoopLevel := []
  returns : List (BitVec 14) := []
  halted : Bool := false
  hung : Bool := false
  accSat : Bool := false
  sat : Bool := false
  haltCause : BitVec 3 := 0
  item : Option Nat := none
  due : Option W64 := none
  itemSteps : Nat := 0
  overBudget : Bool := false
  faultCause : BitVec 4 := 0
  faultPc : BitVec 14 := 0
  faultAddr : BitVec 40 := 0
  faults : W16 := 0
  items : W16 := 0
  holdMax : BitVec 11 := 0
  steps : W64 := 0
  haltReq : Bool := false
  stepping : Bool := false
  stepDone : Bool := false
  breakHit : Bool := false
  watchHit : Bool := false
  sigAt : Option W64 := none
  breaks : Table W32 := []
  watches : Table W32 := []
  dbgSel : W32 := 0
  dbgData : Table W32 := []
  buffer : Bool := false
  deriving DecidableEq, Repr

/-- The VC debug block and the cores. -/
structure VcState where
  cores : Table Core := []
  regRunning : Bool := false
  regImage : Bool := false
  regMajor : Byte := 0
  regMinor : Byte := 0
  haltRefused : W16 := 0
  writesRefused : W16 := 0
  deriving DecidableEq, Repr

/-- An entry of the matching store (R324). -/
structure Entry where
  full : Bool := false
  operand : W128 := 0
  deriving DecidableEq, Repr

/-- A token on its way (R325). `lane` and `core` name the sender whose handshake is held while the input queue is full. -/
structure Token where
  entry : BitVec 12 := 0
  operand : W128 := 0
  lane : Option (BitVec 5) := none
  core : Option (BitVec 4) := none
  deriving DecidableEq, Repr

/-- A filled prefetch slot (R328, R331); `order` counts the fillings. -/
structure Slot where
  desc : Nat := 0
  order : Nat := 0
  deriving DecidableEq, Repr

/-- The TS block (R323 to R339). `held` are tokens whose senders' handshakes are held by a full input queue; `ready` is keyed by priority, `dues` holds the TB0 instant of the deadline of each item that is ready or in a slot, `vcDone` the items with vc_deadline that have completed in the span in progress and `vcMissed` those that have missed it (R32). -/
structure TsState where
  entries : Table Entry := []
  queue : List Token := []
  held : List Token := []
  ready : Table (List Nat) := []
  slots : Table (Option Slot) := []
  order : Nat := 0
  tokens : W32 := 0
  collisions : W16 := 0
  unrouted : W16 := 0
  recalls : W16 := 0
  budgetOverruns : W16 := 0
  stale : W16 := 0
  skipped : W16 := 0
  dues : Table W64 := []
  vcDone : List Nat := []
  vcMissed : List Nat := []
  deriving DecidableEq, Repr

/-- A tracked address of a domain (R411), newest first in its list. -/
structure Tracker where
  word : W32 := 0
  count : Nat := 0
  deriving DecidableEq, Repr

/-- A domain (R403, R409 to R413). `writeBacks` are corrected words that wait for an idle cycle (R408). -/
structure Domain where
  remaps : List W32 := []
  exhausted : Bool := false
  trackers : List Tracker := []
  pos : W32 := 0
  lapStart : W64 := 0
  lapUs : W32 := 0
  slow : Bool := false
  writeBacks : List W32 := []
  deriving DecidableEq, Repr

/-- A region's registers (R421). -/
structure Region where
  lapUs : W32 := 0
  slowDomain : BitVec 10 := 0
  laps : W32 := 0
  scrubCe : W16 := 0
  scrubUe : W16 := 0
  deriving DecidableEq, Repr

/-- The MEM block (R402 to R415, R421). `poison` is keyed by domain × 2^23 + word; `granules` lists the LPDDR granules written before the background reached them; `unrecorded` the remap entries not yet in the store, `records` those in it. -/
structure MemState where
  sramReady : Bool := false
  lpddrReady : Bool := false
  remapExhausted : Bool := false
  granules : Table Bool := []
  corrected : W32 := 0
  uncorrectable : W16 := 0
  poisoned : W16 := 0
  aborted : W16 := 0
  rmwCorrected : W16 := 0
  lastWord : W32 := 0
  lastKind : BitVec 2 := 0
  lastScrub : Bool := false
  lastDomain : BitVec 10 := 0
  exhausted : W16 := 0
  regions : Table Region := []
  domains : Table Domain := []
  poison : Table Bool := []
  unrecorded : List (BitVec 10 × W32) := []
  records : List (BitVec 10 × W32) := []
  deriving DecidableEq, Repr

/-- A check-value context (R416 to R420, R422). -/
structure CrcCtx where
  poly : BitVec 2 := 0
  fold : BitVec 2 := 0
  compare : Bool := false
  tokenEn : Bool := false
  entry : BitVec 12 := 0
  value : W32 := 0
  foldLo : W32 := 0
  foldHi : W32 := 0
  expect : W32 := 0
  tail : BitVec 2 := 0
  mismatch : Bool := false
  poisoned : Bool := false
  queued : Bool := false
  result : W32 := 0
  src : BitVec 40 := 0
  len : BitVec 25 := 0
  finishes : W16 := 0
  mismatches : W16 := 0
  deriving DecidableEq, Repr

/-- The CRC block; `units` holds the contexts whose blocks are queued on each unit, the running one first. -/
structure CrcState where
  refused : Byte := 0
  busyRefused : Byte := 0
  ctxs : Table CrcCtx := []
  units : Table (List Nat) := []
  deriving DecidableEq, Repr

end Sys2Proof.Machine
end

