-- ==== Sys2Proof/Machine/Types/Field.lean ====
section
/-! DEFINITION. The state of the auxiliary-axis block (R262 to R283) and of the field inputs and outputs (R284 to R295). Field defaults are the reset values. -/
namespace Sys2Proof.Machine

/-- What a module does with its outputs in a carrier period (R264, R272). -/
inductive OutMode where
  | idle
  | fault
  | wave
  deriving DecidableEq, Repr

/-- The on intervals of a pair in a period, in ticks after dead time and minimum pulse (R268). -/
structure PairWave where
  high : Nat := 0
  low : Nat := 0
  deriving DecidableEq, Repr

/-- A module's pulse-width side (R263 to R277, R283). `shadow` holds PW_n_PAIRp, `staged` a staged set of the four pairs, `active` the pairs that the period drives, `force` the force in effect, `forceReg` the register, `forceNew` a force that waits. `high` is the high phase of BLDC. `target` is the coarse target of a STEPPER and the step target of STEP_DIR, `mBase` the microstep position at the last span instant, `zeros` the zero events since, `still` the spans without a change of m. `emitted` counts the steps out; `left` of them, `spacing` ticks apart, remain in the span. `stepAt` and `stepEvery` are the last external step and the interval before it. -/
structure PwState where
  count : BitVec 17 := 0
  down : Bool := false
  flt : Bool := false
  cut : Bool := false
  faultCuts : W16 := 0
  ocCuts : Byte := 0
  forceConflict : Byte := 0
  shadow : Table W32 := []
  staged : Option (List W32) := none
  active : List W32 := []
  forceReg : W32 := 0
  forceNew : Bool := false
  force : W16 := 0
  out : OutMode := .idle
  waves : List PairWave := []
  high : Nat := 3
  m : W32 := 0
  target : W32 := 0
  mBase : W32 := 0
  zeros : Nat := 0
  still : Nat := 0
  held : Bool := false
  emitted : W32 := 0
  left : Nat := 0
  spacing : Nat := 0
  dir : Bool := false
  overflow : W16 := 0
  stepAt : Option W64 := none
  stepEvery : Option Nat := none
  deriving DecidableEq, Repr

/-- A module's feedback side (R278 to R283). `holding` marks pins whose edge spacing runs, `reference` the last valid state of the filtered levels. `window` holds the counts at the last span instants newest first, `samples` the torque-producing current samples of the span; `devRun` and `laRun` are the spans in a row that meet a stall condition, `laOver` that the last load angle of the span lies beyond its limit. -/
structure FbState where
  count : BitVec 48 := 0
  window : List (BitVec 48) := []
  pins : BitVec 3 := 0
  filtered : BitVec 3 := 0
  holding : BitVec 3 := 0
  reference : Option (BitVec 3) := none
  idxValid : Bool := false
  expected : BitVec 24 := 0
  idxErr : Bool := false
  glitch : W16 := 0
  illegal : Byte := 0
  idxMismatch : Byte := 0
  is0 : W16 := 0x8000
  is1 : W16 := 0x8000
  samples : List Int := []
  velocity : W32 := 0
  load : W16 := 0
  active : Bool := false
  laStalls : Byte := 0
  devStalls : Byte := 0
  devRun : Nat := 0
  laRun : Nat := 0
  laOver : Bool := false
  deriving DecidableEq, Repr

/-- A module: AXn (R262 to R283). `next` is the set-point posted by the earliest deliver cut-off, `latched` the one latched at the last span instant, `missRun` the spans without a set-point in a row (R90), `warn` a cut or feedback fault of the span. -/
structure AxModule where
  pw : PwState := {}
  fb : FbState := {}
  next : Option SetPoint := none
  latched : SetPoint := {}
  started : Bool := false
  missRun : Nat := 0
  warn : Bool := false
  deriving DecidableEq, Repr

/-- The AX block (R270, R283). `acceptedAt` is the TB2 tick of the last load-all, `cutoff` marks a span whose earliest deliver cut-off has passed. -/
structure AxState where
  acceptedAt : W64 := 0
  cutoff : Bool := false
  pending : Bool := false
  loadOverrun : W16 := 0
  mods : Table AxModule := []
  deriving DecidableEq, Repr

/-- An exchange frame on its way to the field die (R285): the output image, whether the catalogue's pin configuration rides on it, its requests, its sequence number and the span instant that opened it. -/
structure ExFrame where
  image : BitVec 48 := 0
  catalogued : Bool := false
  clear : Bool := false
  faultSafe : Bool := false
  cntClear : Bool := false
  seq : Byte := 0
  span : W32 := 0
  ns32 : W32 := 0
  tb2 : W64 := 0
  deriving DecidableEq, Repr

/-- The field die's side of the DIO (R284 to R294). `image` is the commanded state of the last valid frame, `hold` and `faultHold` the commanded state when the watchdog ran out and when the cell entered FAULT, `runs` the consecutive samples of a new level, `atInstant` the filtered levels at the span instant that opened the frame, `goodFrames` the valid frames in a row since the watchdog ran out. `frameErr`, `faultDue` and `expiryDue` count what no answer has reported yet. -/
structure FieldDie where
  image : BitVec 48 := 0
  pins : Table PinCfg := []
  outputs : BitVec 48 := 0
  latchedOff : BitVec 48 := 0
  filtered : BitVec 48 := 0
  runs : Table Nat := []
  atInstant : BitVec 48 := 0
  safe : Bool := false
  hold : BitVec 48 := 0
  faultSafe : Bool := false
  faultHold : BitVec 48 := 0
  goodFrames : Nat := 0
  lastSeq : Option Byte := none
  frameErr : Nat := 0
  faultDue : Nat := 0
  expiryDue : Nat := 0
  answerDue : Bool := false
  deriving DecidableEq, Repr

/-- The DIO block (R285 to R295). `frozen` is the image for the frame of the next span instant, `frame` the last frame sent, `received` the input image that waits for publication. -/
structure DioState where
  fault : Bool := false
  wdExpired : Bool := false
  safeActive : Bool := false
  inputs : BitVec 48 := 0
  out : BitVec 48 := 0
  frozen : BitVec 48 := 0
  vfieldOk : BitVec 6 := 0
  frameErr : W16 := 0
  faults : Byte := 0
  wdExpiries : BitVec 4 := 0
  refused : BitVec 4 := 0
  frame : ExFrame := {}
  clearReq : Bool := false
  cntClearReq : Bool := false
  received : Option (BitVec 48) := none
  die : FieldDie := {}
  deriving DecidableEq, Repr

end Sys2Proof.Machine
end

