-- ==== Sys2Proof/Machine/Types/Ring.lean ====
section
/-! DEFINITION. The state of the link ports, the rings, the mailboxes and the nodes (R70 to R124). Field defaults are the reset values. -/
namespace Sys2Proof.Machine

/-- A link port (R71, R72, R95, R107 to R109). `cleanFrom` is the TB2 value from which code groups have arrived without an invalid one, `disparity` the transmitter's running disparity, set for positive, and `line` what it last transmitted, in code groups of which bit 9 goes first. `results` holds the valid probe results newest first, twice the delay in 2^-16 ns; `request` the seq of the probe request in flight; `silentRaised` that the probe silent event has been raised since the last valid result. -/
structure Port where
  linkUp : Bool := false
  pcsSync : Bool := false
  idleErr : W16 := 0
  deckErr : W16 := 0
  deckOk : W32 := 0
  damaged : W16 := 0
  poisoned : W16 := 0
  malformed : W16 := 0
  unknown : W16 := 0
  delay : W32 := 0
  linkDowns : W16 := 0
  syncLosses : W16 := 0
  nextSeq : Byte := 0
  request : Option Byte := none
  results : List Int := []
  silentRaised : Bool := false
  cleanFrom : W64 := 0
  disparity : Bool := false
  line : List (BitVec 10) := []
  deriving DecidableEq, Repr

/-- LR_RINGr_STAT.state (R95). -/
inductive RingPhase where
  | silent
  | cold
  | integrate
  | running
  | line
  deriving DecidableEq, Repr

/-- What this device does while a ring starts (R96 to R101). -/
inductive StartRole where
  | idle
  | listening
  | originating
  | node
  | backoff
  | keystone
  deriving DecidableEq, Repr

/-- A host message on its way to a node (R84, R85). `decks` counts the decks since the segment was last sent. -/
structure MailTx where
  queue : BitVec 4 := 0
  dest : Byte := 0
  data : Octets := []
  offset : Nat := 0
  seq : Byte := 0
  sent : Bool := false
  decks : Nat := 0
  tries : Nat := 0
  retransmissions : W16 := 0
  deriving DecidableEq, Repr

/-- A node message that is whole or still arriving (R84). -/
structure MailRx where
  src : Byte := 0
  total : W16 := 0
  data : Octets := []
  deriving DecidableEq, Repr

/-- Which end of a broken ring this device is (R119). -/
inductive LineEnd where
  | none
  | east
  | west
  deriving DecidableEq, Repr

/-- A ring as this device keeps it (R70 to R124). Tables are keyed by position. `gather` and `deliver` are the decks as sent or frozen, `inputs` the gather deck as held (R91), `copy` a standby's copy of the gather deck (R380), `copyLost` that it came damaged. `sentAt` is the stamp of the last deck start in 2^-16 ns, `coldLap` the lap of the last COLD deck in 1/256 ns. `frozen` marks a span whose deliver deck is frozen, `frozenWord` its stop word, `owed` the stop bits posted after it (R25). `hops` is the node count of the COLD decks, `mismatch` that the count event has been raised, `phaseSpan` the INTEGRATE decks sent in the phase, `clashed` that this device has raised a claim clash. `goodDecks` counts the good decks of the span in progress, `goodSpans` the spans of R37; `clearRun` and `exclRun` count the decks in a row with a clear answer bit, and of those with the missed bit set. `q` is the first eligible position of R84. -/
structure Ring where
  phase : RingPhase := .silent
  start : StartRole := .idle
  keystoneClaim : Byte := 0
  maxClaim : Byte := 0
  weakSync : Bool := false
  glap : W32 := 0
  dlap : W32 := 0
  depart : BitVec 20 := 0
  lostGather : W16 := 0
  lostDeliver : W16 := 0
  ringLoss : W16 := 0
  consecutive : Byte := 0
  stopSent : W64 := 0
  retries : W16 := 0
  failures : W16 := 0
  noAnswer : Table W16 := []
  missed : Table W16 := []
  clearRun : Table Nat := []
  exclRun : Table Nat := []
  goodDecks : Nat := 0
  goodSpans : Nat := 0
  gatherSent : Bool := false
  gatherDone : Bool := false
  gatherLost : Bool := false
  deliverSent : Bool := false
  deliverDone : Bool := false
  frozen : Bool := false
  frozenWord : W64 := 0
  owed : W64 := 0
  sentAt : Nat := 0
  gather : Octets := []
  deliver : Octets := []
  inputs : Octets := []
  copy : Option Octets := none
  copyLost : Bool := false
  coldLeft : Byte := 0
  coldLap : W32 := 0
  hops : Option Byte := none
  mismatch : Bool := false
  lineStart : Bool := false
  lineEnd : LineEnd := .none
  clashes : Nat := 0
  clashed : Bool := false
  phaseNo : Byte := 0
  phaseSpan : Byte := 0
  ready : W16 := 0
  q : BitVec 5 := 1
  tx : Option MailTx := none
  txSeq : Table Byte := []
  acks : List (Byte × Byte) := []
  rxSeq : Table W16 := []
  rxPart : Table MailRx := []
  rxDone : List MailRx := []
  deriving DecidableEq, Repr

/-- What a node has counted (R87, R89). -/
structure NodeCount where
  damaged : W16 := 0
  poisoned : W16 := 0
  malformed : W16 := 0
  unknown : W16 := 0
  layout : W16 := 0
  claim : W16 := 0
  span : W16 := 0
  late : W16 := 0
  missing : W16 := 0
  lateSample : W16 := 0
  deriving DecidableEq, Repr

/-- The servo of a node's TB0 (R112). `base` and `off` count 2^-40 ns per ns; `avgPrev` counts 2^-16 ns. -/
structure Servo where
  base : Int := 0
  off : Int := 0
  avgPrev : Int := 0
  kPrev : W32 := 0
  havePrev : Bool := false
  deriving DecidableEq, Repr

/-- A joint of a node (R79, R82, R90, R94): its last accepted control word, that it has stopped for a stop bit and waits to resume, that it brakes and disables for a halt bit or the cell stop, that it is in its loss reaction, and the spans in a row without an accepted panel. -/
structure JointState where
  control : Option W16 := none
  missRun : Nat := 0
  stopped : Bool := false
  halted : Bool := false
  loss : Bool := false
  deriving DecidableEq, Repr

/-- A node of a ring: its table entry and what the duties of R79 to R116 make it keep. `panel` is the deliver panel the node has latched, `next` the deck it has accepted, which waits for its span instant; `arrived` says that a deliver deck of the span has come. `sample` and `given` are the gather panel and the containers of the span before, `taken` the containers of the last applied deck. `missRun` counts the spans in a row without an applied deck. `seen` holds the subscribed stop bits that are set; `stopped`, `halted` and `loss` are the reactions of a node without joints, and `joints` holds those of its joints by the offset in its deliver panel. `passed` names the RECOVER decks of the span that have passed (R89). `phase` is the integration phase of the last verified INTEGRATE deck, 255 for none. -/
structure Node where
  position : Byte := 0
  spanCode : BitVec 3 := 0
  entry : NodeEntry := {}
  tag : W16 := 0
  configured : Bool := false
  phase : Byte := 255
  ready : Bool := false
  within : Nat := 0
  mode : TbMode := .free
  rate : W32 := 0
  clock : Int := 0
  servo : Servo := {}
  stepped : Bool := false
  excluded : Bool := false
  exRun : Nat := 0
  exSpans : Nat := 0
  started : Bool := false
  next : Option Octets := none
  arrived : Bool := false
  panel : Octets := []
  taken : List Octets := []
  sample : Octets := []
  given : List Octets := []
  missRun : Nat := 0
  missedFlag : Bool := false
  loss : Bool := false
  seen : W64 := 0
  stopped : Bool := false
  halted : Bool := false
  joints : Table JointState := []
  passed : List (W32 × Bool) := []
  counts : NodeCount := {}
  mailSeq : W16 := 0x100
  mailIn : Octets := []
  acks : List Byte := []
  deriving DecidableEq, Repr

/-- The LR block and the nodes (keyed by 32 × ring + position). `stopWord` holds the bits of the gather decks of the span, `posted` what Warden posts in it, `returned` the bits of the deliver decks of the span in progress and `carried` those of the span before (R93). `devs` are the deviations of R114 in the span, 2^-16 ns. `forwarded` is what the last node passage transmitted and `forwardedEast` on which side; `relayed` the deck the keystone last relayed to its standby (R377). -/
structure LrState where
  ports : Table Port := []
  rings : Table Ring := []
  nodes : Table Node := []
  stopWord : W64 := 0
  posted : W64 := 0
  returned : W64 := 0
  carried : W64 := 0
  devs : List Int := []
  forwarded : Octets := []
  forwardedEast : Bool := true
  relayed : Octets := []
  deriving DecidableEq, Repr

end Sys2Proof.Machine
end

