-- ==== Sys2Proof/Machine/State.lean ====
section
/-! DEFINITION. The state of the SKN-8064, its reset value, and the reasons for which a step could stop. State is plain data; the types of the blocks stand in Machine/Types. -/
namespace Sys2Proof.Machine

/-- The faults of a step. No rule of the spec stops the block, so there is none: an exception of the spec is an event, a reply status or a core fault (R315, R352, R423), each an effect on State. -/
inductive Fault where
  deriving DecidableEq, Repr

/-- The refusals of a step. -/
inductive Refusal where
  /-- A command that has no meaning in the model; raised by an arm of exec that is not modelled yet. Safe. -/
  | notModelled (mnemonic : String)
  deriving DecidableEq, Repr

/-- A counter snapshot in the store (R444, R446): the blocks as they stood. -/
structure Snapshot where
  dev : DevState := {}
  tb : TbState := {}
  pwr : PwrState := {}
  hq : HqState := {}
  lr : LrState := {}
  le : LeState := {}
  za : ZaState := {}
  pg : PgState := {}
  ax : AxState := {}
  dio : DioState := {}
  saf : SafState := {}
  memc : MemState := {}
  crc : CrcState := {}
  ts : TsState := {}
  cat : CatState := {}
  red : RedState := {}
  evt : EvtState := {}
  vc : VcState := {}
  deriving DecidableEq, Repr

/-- The state. `mem` holds the octets of LPDDR, cell memory, core and lane windows by internal address (R42), an unlisted octet reads 0 (R414, R415). `cfg` is the catalogue in force. `fresh` counts the free values drawn and `pending` holds the commands that wait: both are the model's own. -/
structure State where
  dev : DevState := {}
  tb : TbState := {}
  pwr : PwrState := {}
  hq : HqState := {}
  lr : LrState := {}
  le : LeState := {}
  za : ZaState := {}
  pg : PgState := {}
  ax : AxState := {}
  dio : DioState := {}
  saf : SafState := {}
  par : ParState := {}
  memc : MemState := {}
  mem : Table Byte := []
  crc : CrcState := {}
  ts : TsState := {}
  vc : VcState := {}
  cat : CatState := {}
  cfg : Catalogue := {}
  red : RedState := {}
  evt : EvtState := {}
  snap : Option Snapshot := none
  fresh : Nat := 0
  pending : List Instr := []
  deriving DecidableEq, Repr

/-- The machine at power-on, before the core-die reset is released (R45 to R450, R446). Nothing has been read from the store and no command waits. -/
def State.reset : State := {}

end Sys2Proof.Machine
end

