-- ==== Sys2Proof/Machine/Ops.lean ====
section
/-! DEFINITION. The named operations that every family shares: the entries of the tables of State, time (R50 to R58), interrupt vectors (R343), events and their reactions (R423 to R432, R469), and the cell and arm states (R36 to R40). -/
namespace Sys2Proof.Machine

def State.ring (s : State) (r : Nat) : Ring := Table.get {} s.lr.rings r
def State.setRing (s : State) (r : Nat) (v : Ring) : State := { s with lr := { s.lr with rings := Table.put {} s.lr.rings r v } }
def State.port (s : State) (n : Nat) : Port := Table.get {} s.lr.ports n
def State.setPort (s : State) (n : Nat) (v : Port) : State := { s with lr := { s.lr with ports := Table.put {} s.lr.ports n v } }
def nodeKey (r pos : Nat) : Nat := 32 * r + pos
def State.node (s : State) (r pos : Nat) : Node := Table.get {} s.lr.nodes (nodeKey r pos)
def State.setNode (s : State) (r pos : Nat) (v : Node) : State := { s with lr := { s.lr with nodes := Table.put {} s.lr.nodes (nodeKey r pos) v } }
def State.chan (s : State) (c : Nat) : LeChan := Table.get {} s.le.chans c
def State.setChan (s : State) (c : Nat) (v : LeChan) : State := { s with le := { s.le with chans := Table.put {} s.le.chans c v } }
def State.armSet (s : State) (a : Nat) : LeSet := Table.get {} s.le.sets a
def State.setArmSet (s : State) (a : Nat) (v : LeSet) : State := { s with le := { s.le with sets := Table.put {} s.le.sets a v } }
def State.slot (s : State) (i : Nat) : ZaSlot := Table.get {} s.za.slots i
def State.setSlot (s : State) (i : Nat) (v : ZaSlot) : State := { s with za := { s.za with slots := Table.put {} s.za.slots i v } }
def State.lane (s : State) (n : Nat) : Lane := Table.get {} s.za.lanes n
def State.setLane (s : State) (n : Nat) (v : Lane) : State := { s with za := { s.za with lanes := Table.put {} s.za.lanes n v } }
def State.prof (s : State) (c : Nat) : PgChan := Table.get {} s.pg.chans c
def State.setProf (s : State) (c : Nat) (v : PgChan) : State := { s with pg := { s.pg with chans := Table.put {} s.pg.chans c v } }
def State.pgSet (s : State) (a : Nat) : PgSet := Table.get {} s.pg.sets a
def State.setPgSet (s : State) (a : Nat) (v : PgSet) : State := { s with pg := { s.pg with sets := Table.put {} s.pg.sets a v } }
def State.axm (s : State) (n : Nat) : AxModule := Table.get {} s.ax.mods n
def State.setAxm (s : State) (n : Nat) (v : AxModule) : State := { s with ax := { s.ax with mods := Table.put {} s.ax.mods n v } }
def State.core (s : State) (n : Nat) : Core := Table.get {} s.vc.cores n
def State.setCore (s : State) (n : Nat) (v : Core) : State := { s with vc := { s.vc with cores := Table.put {} s.vc.cores n v } }
def State.ctx (s : State) (c : Nat) : CrcCtx := Table.get {} s.crc.ctxs c
def State.setCtx (s : State) (c : Nat) (v : CrcCtx) : State := { s with crc := { s.crc with ctxs := Table.put {} s.crc.ctxs c v } }
def State.queue (s : State) (q : Nat) : Queue := Table.get {} s.hq.queues q
def State.setQueue (s : State) (q : Nat) (v : Queue) : State := { s with hq := { s.hq with queues := Table.put {} s.hq.queues q v } }
def State.warm (s : State) (a : Nat) : WArm := Table.get {} s.saf.arms a
def State.setWarm (s : State) (a : Nat) (v : WArm) : State := { s with saf := { s.saf with arms := Table.put {} s.saf.arms a v } }
def State.parm (s : State) (a : Nat) : PArm := Table.get {} s.par.arms a
def State.setParm (s : State) (a : Nat) (v : PArm) : State := { s with par := { s.par with arms := Table.put {} s.par.arms a v } }
def State.plant (s : State) (n : Nat) : PlantPort := Table.get {} s.tb.ports n
def State.setPlant (s : State) (n : Nat) (v : PlantPort) : State := { s with tb := { s.tb with ports := Table.put {} s.tb.ports n v } }
def State.rail (s : State) (r : Nat) : Rail := Table.get {} s.pwr.rails r
def State.setRail (s : State) (r : Nat) (v : Rail) : State := { s with pwr := { s.pwr with rails := Table.put {} s.pwr.rails r v } }
def State.dom (s : State) (d : Nat) : Domain := Table.get {} s.memc.domains d
def State.setDom (s : State) (d : Nat) (v : Domain) : State := { s with memc := { s.memc with domains := Table.put {} s.memc.domains d v } }
def State.arm (s : State) (a : Nat) : ArmState := Table.get .unused s.dev.arms a
def State.setArm (s : State) (a : Nat) (v : ArmState) : State := { s with dev := { s.dev with arms := Table.put .unused s.dev.arms a v } }
def State.lot (s : State) (l : Nat) : BitVec 2 := Table.get 0 s.hq.lots l
def State.setLot (s : State) (l : Nat) (v : BitVec 2) : State := { s with hq := { s.hq with lots := Table.put 0 s.hq.lots l v } }
def State.ringCfg (s : State) (r : Nat) : RingCfg := Table.get {} s.cfg.rings r
def State.chanCfg (s : State) (c : Nat) : ChanCfg := Table.get {} s.cfg.chans c
def State.slotCfg (s : State) (i : Nat) : SlotCfg := Table.get {} s.cfg.slots i
def State.profCfg (s : State) (c : Nat) : ProfCfg := Table.get {} s.cfg.profs c
def State.axCfg (s : State) (n : Nat) : AxCfg := Table.get {} s.cfg.ax n
def State.pinCfg (s : State) (n : Nat) : PinCfg := Table.get {} s.cfg.pins n
def State.descCfg (s : State) (d : Nat) : Desc := Table.get {} s.cfg.descs d

/-- A free value, and the counter advanced (log entry 1). -/
def State.draw (s : State) (w : Nat) : BitVec w × State := (Config.freeBits w s.fresh, { s with fresh := s.fresh + 1 })

/-- A host write that has no effect (R341). -/
def State.hostRefused (s : State) : State := { s with hq := { s.hq with regRefused := inc s.hq.regRefused } }

/-- Keys of the requesters that keep snapshots of their own (R53, R341). -/
def requesterKey : Requester → Nat
  | .host => 0
  | .registrar => 1
  | .core n => 2 + n.toNat
  | .engine => 18
  | .debug => 19

/-- What a register read returned. -/
def State.returned (s : State) (v : W32) : State := { s with hq := { s.hq with readValue := leBytes 4 v.toNat } }

/-- Latches the high half of a register pair for a requester; `k` names the register. -/
def State.latch (s : State) (by_ : Requester) (k : Nat) (v : W32) : State :=
  { s with tb := { s.tb with latches := Table.put 0 s.tb.latches (4096 * requesterKey by_ + k) v } }

def State.latched (s : State) (by_ : Requester) (k : Nat) : W32 := Table.get 0 s.tb.latches (4096 * requesterKey by_ + k)

/-- Applies `f` for each of a list of numbers. -/
def State.each (s : State) (l : List Nat) (f : State → Nat → State) : State := l.foldl f s

/-- Span lengths in ns by DEV_SPAN_CFG.span_code (R45, R58). -/
def spanLength (code : BitVec 3) : Nat :=
  match code.toNat with
  | 0 => 31250
  | 1 => 62500
  | 2 => 125000
  | 3 => 250000
  | 4 => 500000
  | _ => 1000000

def State.spanNs (s : State) : Nat := spanLength s.cfg.spanCode

def State.tb0 (s : State) : TimeBase := s.tb.tb0

/-- TB0_SPAN (R58). -/
def State.span (s : State) : W64 := BitVec.ofNat 64 (s.tb.tb0.ns.toNat / s.spanNs)

def State.span32 (s : State) : W32 := s.span.setWidth 32

/-- ns since the span instant. -/
def State.inSpan (s : State) : Nat := s.tb.tb0.ns.toNat % s.spanNs

/-- Enters a completion into the slack of a class, under the span in which it falls (R35). -/
def EngineClass.complete (e : EngineClass) (span : Nat) (slack : Int) : EngineClass := { e with dones := e.dones ++ [(span, slack)] }

/-- A completion stamp on TB0 in units of its 125 ps resolution (R31). -/
def State.stamp125 (s : State) : Nat := s.tb.tb0.ns.toNat * 8 + s.tb.tb0.frac.toNat / 2 ^ 29

/-- Deadline minus completion stamp in whole ns, rounded towards minus infinity (R35). -/
def slackAt (deadline stamp : Nat) : Int := ((deadline * 8 : Nat) - (stamp : Int)) / 8

/-- The slack to a TB0 instant of what completes now. -/
def State.slackTo (s : State) (deadline : Nat) : Int := slackAt deadline s.stamp125

/-- The span instant of the span in progress. -/
def State.spanStart (s : State) : Nat := s.tb.tb0.ns.toNat / s.spanNs * s.spanNs

/-- The slack to an offset in the span in progress. -/
def State.slackOf (s : State) (offset : Nat) : Int := s.slackTo (s.spanStart + offset)

def State.timeBase (s : State) (n : Nat) : TimeBase :=
  match n with
  | 0 => s.tb.tb0
  | 1 => s.tb.tb1
  | 2 => s.tb.tb2
  | _ => s.tb.tb3

def State.setTimeBase (s : State) (n : Nat) (t : TimeBase) : State :=
  match n with
  | 0 => { s with tb := { s.tb with tb0 := t } }
  | 1 => { s with tb := { s.tb with tb1 := t } }
  | 2 => { s with tb := { s.tb with tb2 := t } }
  | _ => { s with tb := { s.tb with tb3 := t } }

/-- The greatest rate correction (R50). -/
def rateMax : Int := 858993

/-- Sets a rate, saturating at ±858,993 with rate_clamped (R50). -/
def TimeBase.withRate (t : TimeBase) (r : Int) : TimeBase :=
  if -rateMax ≤ r ∧ r ≤ rateMax then { t with rate := BitVec.ofInt 32 r }
  else { t with rate := BitVec.ofInt 32 (clampInt (-rateMax) rateMax r), clamped := true }

/-- One 1 GHz tick: 1 ns + rate × 2^-32 ns (R50). -/
def TimeBase.tick (t : TimeBase) : TimeBase :=
  let v := ((t.ns.toNat * 2 ^ 32 + t.frac.toNat : Nat) : Int) + 2 ^ 32 + t.rate.toInt
  let u := v.toNat
  { t with ns := BitVec.ofNat 64 (u / 2 ^ 32), frac := BitVec.ofNat 32 (u % 2 ^ 32) }

/-- A step of a time base by `d` ns and `f` units of the fraction (R54, R55): the value and the registers of the last step, whose ns leave out the fraction (log entry 29). -/
def TimeBase.stepped (t : TimeBase) (d : W64) (f : W32) (host : Bool) : TimeBase :=
  { t with ns := t.ns + d + (if 2 ^ 32 ≤ t.frac.toNat + f.toNat then 1 else 0), frac := t.frac + f, step := d, steps := inc t.steps, hostSteps := if host then inc t.hostSteps else t.hostSteps }

/-- Sets the state of time base 0 or 1; TB3 follows its source (R57), and a change of TB1 raises vector 22 in `State.setMode`. -/
def TbState.withMode (t : TbState) (n : Nat) (m : TbMode) : TbState :=
  let t := if n = 0 then { t with tb0 := { t.tb0 with mode := m } } else { t with tb1 := { t.tb1 with mode := m } }
  if t.source.toNat = n + 1 then { t with tb3 := { t.tb3 with mode := m } } else t

/-- Raises an MSI-X vector: a message, or a pending bit while the entry is masked or the link is down (R343). -/
def State.vector (s : State) (v : Nat) : State :=
  let e := Table.get {} s.hq.msix v
  if e.masked || !s.hq.linkUp then { s with hq := { s.hq with pba := bitSet s.hq.pba v true } }
  else { s with hq := { s.hq with sent := Table.upd 0 s.hq.sent v (· + 1) } }

/-- A state of time base 0 or 1. While a REFCLK fault is present both stay FREE (R48). -/
def State.setMode (s : State) (n : Nat) (m : TbMode) : State :=
  let m : TbMode := if s.tb.refFault then .free else m
  let t := { s with tb := s.tb.withMode n m }
  if n = 1 ∧ s.tb.tb1.mode ≠ m then t.vector 22 else t

/-- Event codes in the order of R432 with their default classes. 0x0C06 shows CELL_STOP, its class for category 1; 0x1301 its class for an item with an arm. -/
def eventTable : List (W16 × BitVec 3) :=
  [(0x0101, 1), (0x0102, 2), (0x0103, 1), (0x0104, 1), (0x0105, 4), (0x0106, 1), (0x0201, 4), (0x0301, 1),
   (0x0302, 3), (0x0601, 4), (0x0602, 1), (0x0603, 4), (0x0604, 1), (0x0605, 1), (0x0606, 2), (0x0607, 3),
   (0x0608, 1), (0x0609, 1), (0x060A, 1), (0x0701, 2), (0x0702, 2), (0x0703, 2), (0x0704, 2), (0x0705, 2),
   (0x0901, 1), (0x0A01, 1), (0x0B01, 1), (0x0B02, 1), (0x0C01, 1), (0x0C02, 1), (0x0C03, 1), (0x0C04, 4)] ++
  [(0x0C05, 4), (0x0C06, 3), (0x0C07, 1), (0x0C08, 1), (0x0C09, 1), (0x0C0A, 1), (0x0D01, 0), (0x0D02, 1),
   (0x0D03, 1), (0x0D04, 1), (0x0D05, 1), (0x0E01, 1), (0x0F01, 1), (0x0F02, 1), (0x1001, 1), (0x1002, 1),
   (0x1101, 1), (0x1102, 3), (0x1103, 1), (0x1201, 1), (0x1301, 2), (0x1302, 3)]

def lookupClass (l : List (W16 × BitVec 3)) (code : W16) : Option (BitVec 3) :=
  match l with
  | [] => none
  | e :: t => if e.1 = code then some e.2 else lookupClass t code

/-- The class in force for a code (R432, R435). -/
def Catalogue.classOf (c : Catalogue) (code : W16) : BitVec 3 :=
  match lookupClass c.eventClasses code with
  | some k => k
  | none => (lookupClass eventTable code).getD 1

/-- An event as its chapter raises it. `arm` is the arm named in data (8 names the free set); `cls` the class of a code with more than one; `parapet` and `coarse` as R424. -/
structure Ev where
  code : W16
  source : Byte
  data : W32 := 0
  cause : W32 := 0xFFFFFFFF
  arm : Option Nat := none
  cls : Option (BitVec 3) := none
  parapet : Bool := false
  coarse : Bool := false
  span : Option W32 := none
  ns32 : Option W32 := none
  tb2 : Option W64 := none
  locked : Option Bool := none

/-- Sources of R423: block rows of R44 in order, the Parapet and the field die. -/
def srcDev : Byte := 0
def srcTb : Byte := 1
def srcPwr : Byte := 2
def srcHq : Byte := 3
def srcLot : Byte := 4
def srcLr : Byte := 5
def srcLe : Byte := 6
def srcZa : Byte := 7
def srcPg : Byte := 8
def srcAx : Byte := 9
def srcDio : Byte := 10
def srcSaf : Byte := 11
def srcMem : Byte := 12
def srcCrc : Byte := 13
def srcTs : Byte := 14
def srcCat : Byte := 15
def srcRed : Byte := 16
def srcEvt : Byte := 17
def srcVc : Byte := 18
def srcPar : Byte := 0x20
def srcField : Byte := 0x21

def CellState.code : CellState → Nat
  | .uncatalogued => 0
  | .loaded => 1
  | .integrating => 2
  | .parked => 3
  | .hold => 4
  | .run => 5
  | .stopping => 6
  | .fault => 7

def ArmState.code : ArmState → Nat
  | .unused => 0
  | .enabled => 1
  | .stopping => 2
  | .halted => 3

/-- The cell states in which loops are closed (R264). -/
def CellState.closed (c : CellState) : Bool := c == .hold || c == .run || c == .stopping

def State.armUsed (s : State) (a : Nat) : Bool := s.cfg.armsUsed.getLsbD a

def arms8 : List Nat := [0, 1, 2, 3, 4, 5, 6, 7]
def sets9 : List Nat := [0, 1, 2, 3, 4, 5, 6, 7, 8]
def rings14 : List Nat := upto 14
def chans72 : List Nat := upto 72

/-- The channels of an arm set (R125). -/
def State.setChans (s : State) (a : Nat) : List Nat :=
  chans72.filter (fun c => (s.chanCfg c).used && (s.chanCfg c).arm.toNat == a)

/-- The profile channels of a set that the catalogue uses (R178). -/
def State.profChans (s : State) (a : Nat) : List Nat := (s.setChans a).filter (fun c => (s.profCfg c).enabled)

/-- A stop asks for the hand-over of a set of source SOLVER (R193, R196); one to PROFILE that is under way goes on. -/
def State.stopHandover (s : State) (a : Nat) : State :=
  let h := s.pgSet a
  if (s.armSet a).source then s
  else if h.req && !h.toSolver && (h.take || h.boundary.isSome) then s
  else s.setPgSet a { h with req := true, toSolver := false, take := true, boundary := none }

/-- A controlled stop reaches a set: every used profile channel takes a stop plan at the next generator run; a set of source SOLVER that has such a channel first takes the hand-over (R193). -/
def State.stopSet (s : State) (a : Nat) : State :=
  let cs := s.profChans a
  if cs.isEmpty then s
  else (s.each cs (fun s c => s.setProf c { s.prof c with stopDue := true })).stopHandover a

/-- Whether a ring carries GATHER and DELIVER or RECOVER decks. -/
def RingPhase.runs (p : RingPhase) : Bool := p == .running || p == .line

/-- This device is the keystone of a ring that runs. -/
def State.leads (s : State) (r : Nat) : Bool := (s.ring r).phase.runs && (s.ring r).start == .keystone

/-- Whether this device shares a ring with its partner (R375). -/
def State.shared (s : State) (r : Nat) : Bool := s.cfg.pair.pair && s.cfg.pair.sharedRings.getLsbD r

/-- The standby of a pair works on a shared ring beside the keystone (R377, R380). -/
def State.shadows (s : State) (r : Nat) : Bool :=
  s.shared r && s.red.role == .standby && (s.ring r).phase.runs && (s.ring r).start == .node

/-- Rings for which the joint-loop engine waits (R28). -/
def driveRing (r : Nat) : Bool := decide (r < 8) || r == 11 || r == 12

/-- Every ring falls silent and leads nothing (R37 CELL_RINGS_OFF, LOADED). -/
def State.ringsOff (s : State) : State :=
  s.each rings14 (fun s r => s.setRing r { s.ring r with phase := .silent, start := .idle, gatherSent := false, gatherDone := false, deliverSent := false, deliverDone := true, goodSpans := 0 })

/-- Rings that are not integrated cease at FAULT from INTEGRATING (R101, R105: until the integration timeout). -/
def State.ringsCease (s : State) : State :=
  s.each rings14 (fun s r =>
    match (s.ring r).phase with
    | .running => s
    | .line => s
    | _ => s.setRing r { s.ring r with phase := .silent, start := .idle })

/-- Whether the rings of this device may begin to listen: a worker waits for its TB0 on the trunk (R124). -/
def State.mayListen (s : State) (r : Nat) : Bool :=
  (s.ringCfg r).configured && (r == 13 || s.cfg.pair.hierRole != 2 || s.tb.tb0.mode == .locked)

/-- Ports of a ring: east and west (R70). -/
def eastPort (r : Nat) : Nat := if r < 8 then 2 * r else if r < 10 then 20 + 2 * (r - 8) else if r < 13 then 26 + 2 * (r - 10) else 16
def westPort (r : Nat) : Nat := eastPort r + 1

/-- Which end this device is once the ring integrates anew (R119): an end whose port is down still turns the decks. -/
def State.renewedEnd (s : State) (r : Nat) : LineEnd :=
  match (s.ring r).lineEnd with
  | .none => .none
  | .east => if (s.port (eastPort r)).linkUp then .none else .east
  | .west => if (s.port (westPort r)).linkUp then .none else .west

/-- A ring listens from now on (R96). From its start on, weak_sync is set (R113). -/
def State.listen (s : State) (r : Nat) : State :=
  s.setRing r { s.ring r with
    start := .listening, phase := .silent, goodSpans := 0, goodDecks := 0, coldLeft := 0, hops := none, mismatch := false
    weakSync := true, lineStart := false, lineEnd := s.renewedEnd r, gatherSent := false, deliverSent := false }

/-- Used arms take a state; unused arms stay UNUSED. -/
def State.allArms (s : State) (v : ArmState) : State :=
  s.each arms8 (fun s a => if s.armUsed a then s.setArm a v else s.setArm a .unused)

/-- A solver compare (R159, R160). -/
def CompareKind.isSolve : CompareKind → Bool
  | .solveTrigger _ => true
  | .solveDeadline _ => true
  | _ => false

/-- Octets of a result (R172). -/
def SlotCfg.resultLen (k : SlotCfg) : Nat := 36 + 4 * k.n.toNat + 8 * k.m.toNat

/-- A result's octets (R172). -/
def ZaResult.octets (r : ZaResult) : Octets :=
  let m := fun (x : Int) => leBytes 4 (BitVec.ofInt 32 x).toNat
  leBytes 4 r.seq.toNat ++ [r.status.setWidth 8, r.iterations] ++ leBytes 2 r.flags.toNat ++ leBytes 4 r.span.toNat
    ++ leBytes 4 r.doneNs.toNat ++ leBytes 4 r.tag.toNat ++ leBytes 4 r.residP.toNat ++ leBytes 4 r.residD.toNat ++ leBytes 4 r.repairs.toNat
    ++ r.x.flatMap m ++ r.z.flatMap m ++ r.y.flatMap m ++ leBytes 4 r.seq.toNat

/-- The octets of a slot's result buffer without a result (R161): seq 0 and IDLE; its other octets are the model's choice (log entry 18). -/
def SlotCfg.idleOctets (k : SlotCfg) : Octets :=
  { ZaResult.idle with
    x := List.replicate k.n.toNat 0, z := List.replicate k.m.toNat 0, y := List.replicate k.m.toNat 0 : ZaResult }.octets

/-- Internal address of an offset in a slot's region (R42, R149). -/
def State.zaAddr (s : State) (i off : Nat) : Nat := 0x01C0000000 + i / 4 * 0x100000 + (s.slotCfg i).base.toNat + off

/-- The result buffers in lane memory without a result. -/
def State.zaClear (s : State) : State :=
  s.cfg.slots.foldl (fun s e =>
    s.each [s.zaAddr e.1 e.2.result0At, s.zaAddr e.1 e.2.result1At] (fun s a =>
      { s with mem := (e.2.idleOctets.zipIdx a).foldl (fun m x => Table.put 0 m x.2 x.1) s.mem })) s

/-- Entering LOADED: every solver result is IDLE with sequence 0, every factor invalid, no start waits, and the problems take their initial data (R150, R161). -/
def State.zaLoad (s : State) : State :=
  let s := s.zaClear
  let s := { s with tb := { s.tb with
    compares := s.tb.compares.filter (fun c => !c.what.isSolve), fired := s.tb.fired.filter (fun c => !c.what.isSolve) } }
  let lanes := s.za.lanes.foldl (fun t e => Table.put {} t e.1 { e.2 with queue := [], run := none }) ([] : Table Lane)
  let slots := s.cfg.slots.foldl (fun t e =>
    let k := e.2
    let o := Table.get {} s.za.slots e.1
    Table.put {} t e.1 { o with
      p := k.p0, a := k.a0, q := k.q0, l := k.l0, u := k.u0, rho := k.rho, factor0 := {}, factor1 := {}, active := false
      refactorPending := true, result0 := .idle, result1 := .idle, buffer := false, posted := false, activity := 0 }) s.za.slots
  { s with za := { lanes := lanes, slots := slots } }

/-- A cell-state transition with its cause (R37, R45) and what the new state brings: vector 16, the arm states of R40 and R45, TB0's state (R51) and the rings. PARKED and FAULT override every arm state; that they leave the arms of the catalogue ENABLED is the model's choice, as is ENABLED from LOADED on (DESIGN CHOICE, log entry 30). TB0 reads ACQUIRING during INTEGRATING as R51 states, also in an originator, whose TB0 R99 calls FREE (DESIGN CHOICE, log entry 31). -/
def State.setCell (s : State) (goal : CellState) (kind : Byte) (event opcode : W16) : State :=
  let old : CellState := s.dev.cell
  let s := { s with dev := { s.dev with
    cell := goal, previous := old, causeKind := kind, causeEvent := event, causeOpcode := opcode
    transitions := inc s.dev.transitions } }
  let s := match goal with
    | .parked => s.allArms .enabled
    | .fault => let s := s.allArms .enabled; if old = CellState.integrating then s.ringsCease else s
    | .loaded =>
      let s := { s with saf := { s.saf with firstRun := true }
                        ts := { s.ts with entries := [], ready := [], slots := [], dues := [] } }
      ((s.zaLoad.ringsOff).setMode 0 .free).allArms .enabled
    | .integrating =>
      let s := s.setMode 0 .acquiring
      s.each rings14 (fun s r => if s.mayListen r then (s.listen r).setRing r { (s.listen r).ring r with clashes := 0, clashed := false } else s)
    | _ => s
  s.vector 16

/-- The first span that a stop begun now lies in from its instant on: a stop lasts a whole span at least (R37). -/
def State.wholeSpan (s : State) : W64 := if s.inSpan = 0 ∧ s.tb.tb0.frac = 0 then s.span else s.span + 1

/-- A controlled stop of the cell: STOPPING towards `goal` and stop plans of every set (R37, R193). -/
def State.beginStop (s : State) (goal : StopGoal) (kind : Byte) (event opcode : W16) : State :=
  let s := s.setCell .stopping kind event opcode
  let s := { s with dev := { s.dev with stopGoal := goal, stopEvent := event, stopOpcode := opcode, stopSpan := s.wholeSpan } }
  s.each sets9 State.stopSet

/-- A reaction that has begun to act: counted, vector 17 (R343, R435). -/
def State.reacted (s : State) : State :=
  { s with evt := { s.evt with reactions := inc s.evt.reactions } }.vector 17

/-- An arm controlled stop: ENABLED to STOPPING (R40). In other arm states, and where no loops are closed, it changes nothing. -/
def State.armStop (s : State) (a : Nat) : State :=
  if s.dev.cell.closed && s.arm a == .enabled then
    let s := s.setArm a .stopping
    let s := { s with dev := { s.dev with armStopSpan := Table.put 0 s.dev.armStopSpan a s.wholeSpan } }
    (s.stopSet a).reacted
  else s

/-- The cell controlled stop reaction (R37, R431). -/
def State.cellStopReaction (s : State) (event : W16) : State :=
  match s.dev.cell with
  | .run => (s.beginStop .fault 0xFF event 0).reacted
  | .hold => (s.beginStop .fault 0xFF event 0).reacted
  | .stopping =>
    if s.dev.stopGoal = .fault then s
    else { s with dev := { s.dev with stopGoal := .fault, stopEvent := event } }.reacted
  | .integrating =>
    if s.dev.heldStop.isSome then s else { s with dev := { s.dev with heldStop := some event } }.reacted
  | .parked =>
    if s.dev.heldStop.isSome then s else { s with dev := { s.dev with heldStop := some event } }.reacted
  | _ => s

/-- The STO-class transition to FAULT (R37, R431). -/
def State.stoReaction (s : State) (event : W16) : State :=
  match s.dev.cell with
  | .uncatalogued => s
  | .loaded => s
  | .fault => s
  | _ => (s.setCell .fault 0xFF event 0).reacted

/-- R431 holds reactions back in UNCATALOGUED and LOADED. -/
def CellState.holdsBack (c : CellState) : Bool := c == .uncatalogued || c == .loaded

/-- The class under which a reaction acts (R430, R469): ARM_STOP without an arm acts as CELL_STOP. -/
def actingClass (cls : BitVec 3) (arm : Option Nat) : BitVec 3 :=
  if cls = 2 then (match arm with | some a => if a < 8 then 2 else 3 | none => 3) else cls

/-- The reaction of a class (R430); the cell states of R431 hold it back. -/
def State.react (s : State) (cls : BitVec 3) (event : W16) (arm : Option Nat) : State :=
  if s.dev.cell.holdsBack then s
  else if cls = 2 then s.armStop (arm.getD 0)
  else if cls = 3 then s.cellStopReaction event
  else if cls = 4 then s.stoReaction event
  else s

/-- The arm controlled stop that a chapter prescribes outright, whatever the class of its event (R432); for the free set it is the cell controlled stop (R468). -/
def State.prescribedStop (s : State) (set : Nat) (event : W16) : State :=
  if s.dev.cell.holdsBack then s
  else if set < 8 then s.armStop set else s.cellStopReaction event

/-- The record of an event (R423, R424, R469). -/
def State.record (s : State) (e : Ev) (cls : BitVec 3) : Record :=
  { span := e.span.getD s.span32
    ns32 := e.ns32.getD (s.tb.tb0.ns.setWidth 32)
    tb2 := e.tb2.getD s.tb.tb2.ns
    code := e.code, source := e.source, data := e.data, cause := e.cause
    flags := BitVec.ofNat 8 (cls.toNat + 8 * b2n (e.locked.getD (s.tb.tb0.mode == .locked)) + 16 * b2n e.parapet
      + 32 * b2n e.coarse + 64 * b2n (s.dev.cell.holdsBack && decide (2 ≤ cls.toNat))) }

/-- The events whose causes make a unit of a pair unhealthy until the next matched span (R386): lockstep, uncorrectable error, overruns, with which TRUNCATED and STALE results come. -/
def unhealthyCodes : List W16 := [0x0C04, 0x0D02, 0x0102, 0x0103, 0x0104, 0x0C03]

/-- Raises an event: the record joins the queue to the event unit unless its class is COUNT, and the reaction acts (R425, R430). -/
def State.raise (s : State) (e : Ev) : State :=
  let cls := actingClass (e.cls.getD (s.cfg.classOf e.code)) e.arm
  let s : State := if s.cfg.pair.pair && unhealthyCodes.contains e.code then { s with red := { s.red with healthy := false } } else s
  if cls = 0 then s
  else
    let s := { s with evt := { s.evt with queue := s.evt.queue ++ [s.record e cls] } }
    s.react cls e.code e.arm

/-- The Parapet's copy of TB0 NS32 (R252): 31.25 ns for each whole cycle of its oscillator since the copy was set. -/
def State.parNow (s : State) : Option W32 :=
  s.par.ns32.map (fun v => v + BitVec.ofNat 32 ((s.par.clock - s.par.copyAt).toNat * 4 / 125 * 125 / 4))

/-- The Parapet's time for a stamp; a copy that holds no time yet gives a free value. -/
def State.parStamp (s : State) : W32 × State :=
  match s.parNow with
  | some v => (v, s)
  | none => s.draw 32

/-- An event that the Parapet detects, with the NS32 of its copy of TB0 (R424). -/
def State.raisePar (s : State) (e : Ev) : State :=
  let d := s.parStamp
  d.2.raise { e with source := srcPar, parapet := true, ns32 := some d.1 }

/-- The seq that the record last raised will take, as the cause of a consequence (R423): the records ahead of it in the queue are sequenced first, and before them one that tells of lost records. -/
def State.lastCause (s : State) : W32 := s.evt.nextSeq + BitVec.ofNat 32 (s.evt.queue.length - 1 + (if s.evt.lostDue = 0 then 0 else 1))

/-- Whether a time base's pending compare lies in what a forward step from `a` to `b` passes (R56). -/
def passed (a b t : W64) : Bool := decide (a.toNat < t.toNat) && decide (t.toNat ≤ b.toNat)

/-- The pending compares on time base `n` that a move from `a` to `b` passes fire, once each (R31, R56). -/
def TbState.fire (t : TbState) (n : Nat) (a b : W64) : TbState :=
  let hit := fun (c : Compare) => c.tb.toNat == n && passed a b c.instant
  { t with compares := t.compares.filter (fun c => !hit c), fired := t.fired ++ t.compares.filter hit }

/-- A step of time base `n`: pending compares that a forward step passes fire at its tick (R56), and TB3 takes its source's step, fraction included (R57). -/
def State.stepTb (s : State) (n : Nat) (d : W64) (host : Bool) (f : W32 := 0) : State :=
  let old := (s.timeBase n).ns
  let t := (s.timeBase n).stepped d f host
  let s := s.setTimeBase n t
  let s := if 0 ≤ d.toInt then { s with tb := s.tb.fire n old t.ns } else s
  if s.tb.source.toNat = n + 1 ∧ n < 2 then
    let old3 := s.tb.tb3.ns
    let t3 := s.tb.tb3.stepped d f false
    let s := { s with tb := { s.tb with tb3 := t3 } }
    if 0 ≤ d.toInt then { s with tb := s.tb.fire 3 old3 t3.ns } else s
  else s

/-- The tick of an idle block: the four time bases advance (R50), TB3 slaved takes its source's rate (R57), compares whose instant is reached fire (R31), and the Parapet's own clock runs on (R18). -/
def State.tick (s : State) : State :=
  let o := s.tb
  let t3 := if o.source = 1 then { o.tb3 with rate := o.tb0.rate }
    else if o.source = 2 then { o.tb3 with rate := o.tb1.rate } else o.tb3
  let t := { o with tb0 := o.tb0.tick, tb1 := o.tb1.tick, tb2 := o.tb2.tick, tb3 := t3.tick }
  let t := (t.fire 0 o.tb0.ns t.tb0.ns).fire 1 o.tb1.ns t.tb1.ns
  { s with tb := (t.fire 2 o.tb2.ns t.tb2.ns).fire 3 o.tb3.ns t.tb3.ns
           par := { s.par with clock := s.par.clock + 1 } }

/-- A compare has done its work: neither pending nor fired. -/
def State.disarm (s : State) (what : CompareKind) : State :=
  { s with tb := { s.tb with compares := s.tb.compares.filter (fun x => !(x.what == what))
                             fired := s.tb.fired.filter (fun x => !(x.what == what)) } }

/-- Whether a compare has fired: its instant has come, and what waits for it acts once (R31, R56). -/
def State.came (s : State) (what : CompareKind) : Bool := s.tb.fired.any (fun x => x.what == what)

/-- Waits for an instant of TB0 beside compares of the same kind; one that TB0 has reached fires at once. -/
def State.armMore (s : State) (instant : Nat) (what : CompareKind) : State :=
  let c : Compare := { tb := 0, instant := BitVec.ofNat 64 instant, what := what }
  if instant ≤ s.tb.tb0.ns.toNat then { s with tb := { s.tb with fired := s.tb.fired ++ [c] } }
  else { s with tb := { s.tb with compares := s.tb.compares ++ [c] } }

/-- Waits for an instant of TB0 (R31) in place of any before. -/
def State.arm0 (s : State) (instant : Nat) (what : CompareKind) : State := (s.disarm what).armMore instant what

/-- Takes the first compare of a kind that has fired: its instant, and the state without it. -/
def State.takeFired (s : State) (what : CompareKind) : Option (Nat × State) :=
  (s.tb.fired.find? (fun x => x.what == what)).map (fun c =>
    (c.instant.toNat, { s with tb := { s.tb with fired := s.tb.fired.erase c } }))

/-- The instant of a compare that is pending or has fired. -/
def State.instantOf (s : State) (what : CompareKind) : Option Nat :=
  ((s.tb.compares ++ s.tb.fired).find? (fun x => x.what == what)).map (fun x => x.instant.toNat)

/-- Whether a completion now lies after the instant of a compare (R31). -/
def State.passedBy (s : State) (what : CompareKind) : Bool :=
  match s.instantOf what with
  | some t => decide (t * 8 < s.stamp125)
  | none => false

/-- A successful step to `s`. -/
def done (s : State) : Host.Outcome State Fault Refusal := .next s

end Sys2Proof.Machine
end

