-- ==== Sys2Proof/Machine/Operands.lean ====
section
/-! DEFINITION. The operand forms: the parameters of a command packet (R349, R350) and the runs of lots that they name. -/
namespace Sys2Proof.Machine

/-- The parameter of `len` octets at an offset of p0 to p55, least significant octet first (R349). -/
def param (p : BitVec 448) (off len : Nat) : Nat := p.toNat / 2 ^ (8 * off) % 2 ^ (8 * len)

/-- Whether the octets outside the given fields (offset, length) are 0 (R349, R350). -/
def unusedZero (p : BitVec 448) (used : List (Nat × Nat)) : Bool :=
  (upto 56).all (fun i => used.any (fun f => decide (f.1 ≤ i) && decide (i < f.1 + f.2)) || param p i 1 == 0)

/-- A run of lots. -/
def lotRun (first n : Nat) : List Nat := (upto n).map (first + ·)

end Sys2Proof.Machine
end

