-- ==== Sys2Proof/Machine/Queues.lean ====
section
/-! DEFINITION. The registrar takes a packet, checks it, acts and replies (R344 to R354), and the replicated commands of a pair (R382). -/
namespace Sys2Proof.Machine

/-- Status values (R352). -/
def stOk : W16 := 0x0000
def stBadOpcode : W16 := 0x0001
def stBadPacket : W16 := 0x0002
def stBadSequence : W16 := 0x0003
def stWrongState : W16 := 0x0004
def stCausePresent : W16 := 0x0005
def stNotAtRest : W16 := 0x0006
def stLimitActive : W16 := 0x0007
def stCheckMismatch : W16 := 0x0008
def stKeyAbsent : W16 := 0x0009
def stLotNotOwned : W16 := 0x000A
def stPending : W16 := 0x000B
def stNoResource : W16 := 0x000C
def stNoData : W16 := 0x000D
def stFailed : W16 := 0x000E
def stBadSignature : W16 := 0x000F
def stStoreError : W16 := 0x0010

/-- A status with the result words (R351). -/
structure Answer where
  status : W16 := 0
  r0 : W32 := 0
  r1 : W32 := 0
  r2 : W32 := 0
  r3 : W32 := 0
  deriving DecidableEq, Repr

/-- What a command leaves: a reply, or a command in progress whose reply comes later (R348). -/
inductive Served where
  | answer (s : State) (a : Answer)
  | later (s : State)

def reject (s : State) (st : W16) : Served := .answer s { status := st }

def Queue.entries (k : BitVec 4) : Nat := 2 ^ k.toNat

/-- Whether a queue has a packet to take: the host interface serves, the queue is enabled with a packet waiting, no command of it is in progress and a reply entry is free (R344, R347). -/
def State.waits (s : State) (q : Nat) : Bool :=
  let u := s.queue q
  s.hq.hostReady && s.hq.linkUp && !s.hq.stopped && !s.pwr.inReset && !s.pwr.dormant
    && u.enable && u.busy.isNone && u.sqHead != u.sqTail
    && (u.rqTail.toNat + 1) % Queue.entries u.rqLog2 != u.rqHead.toNat

/-- How many turns of the round robin over CQ4 to CQ15 lie before queue `q` (R347). -/
def State.turnsTo (s : State) (q : Nat) : Nat := (q + 23 - s.hq.turn) % 12

/-- Whether the registrar takes a packet of queue `q` now: it has one to take, and no queue that is served before it has (R347). CQ0 to CQ3 go first in order, then CQ4 to CQ15 in turn (DESIGN CHOICE, log entry 39: after reset the turns begin at CQ4). -/
def State.canTake (s : State) (q : Nat) : Bool :=
  s.waits q && (upto 4).all (fun k => decide (q ≤ k) || !s.waits k)
    && (decide (q < 4) || (upto 12).all (fun k => decide (s.turnsTo q ≤ s.turnsTo (k + 4)) || !s.waits (k + 4)))

/-- The registrar has fetched a packet of queue `q`: the submission head moves on, and the round robin's turn is over (R344, R347). -/
def State.fetched (s : State) (q : Nat) : State :=
  let u := s.queue q
  ({ s with hq := { s.hq with turn := if q < 4 then s.hq.turn else q } } : State).setQueue q
    { u with sqHead := BitVec.ofNat 16 ((u.sqHead.toNat + 1) % Queue.entries u.sqLog2) }

/-- Writes a reply: one entry of the reply ring, the phase inverted on each wrap, then the vector if notify is set (R351). Lots of the command that are DEVICE go to HOST before it (R354); a discarded reply (R342) is not written. -/
def State.reply (s : State) (q : Nat) (c : ReplyCtx) (a : Answer) : State :=
  let s := s.each c.lots (fun s l => if s.lot l = 2 then s.setLot l 1 else s)
  let u := s.queue q
  let u := { u with busy := none, discard := false, active := u.enable }
  if (s.queue q).discard then s.setQueue q u
  else
    let e : Reply := { opcode := c.opcode, tag := c.tag, phase := u.phase, status := a.status, seq := c.seq, span := c.span
                       r0 := a.r0, r1 := a.r1, r2 := a.r2, r3 := a.r3 }
    let t := (u.rqTail.toNat + 1) % Queue.entries u.rqLog2
    let u := { u with rqTail := BitVec.ofNat 16 t, phase := if t = 0 then !u.phase else u.phase
                      replies := inc u.replies, lastReply := e }
    let s := s.setQueue q u
    if c.notify then s.vector q else s

/-- A command in progress of queue `q` ends with an answer; nothing where the queue has none. -/
def State.replyLater (s : State) (q : Nat) (a : Answer) : State :=
  match (s.queue q).busy with
  | none => s
  | some c => s.reply q c a

/-- The reply of an accepted command of type S (R348, R351): its span is that of the effect. -/
def State.replyAtEffect (s : State) (q : Nat) (a : Answer) : State :=
  match (s.queue q).busy with
  | none => s
  | some c => s.reply q { c with span := s.span32 } a

/-- Whether a command is replicated in a pair (R382); `tb` is the time base of a TIME command. -/
def replicated (opcode : W16) (tb : Nat) : Bool :=
  let g := opcode.toNat / 256
  g == 2 || g == 3 || g == 4 || opcode == 0x0601 || opcode == 0x0602
    || ((opcode == 0x0501 || opcode == 0x0502) && tb == 0) || opcode == 0x0A04 || opcode == 0x0A05

/-- The commands that the boot ROM serves without a valid firmware image (R373). -/
def bootServes (opcode : W16) : Bool :=
  opcode == 0x0001 || opcode == 0x0002 || opcode == 0x0003 || opcode == 0x0105 || opcode == 0x0106

/-- Whether this unit replicates its commands to a partner or to workers (R382, R395). -/
def State.replicates (s : State) : Bool :=
  (s.cfg.pair.pair && s.red.role == .active) || s.cfg.pair.hierRole == 1

/-- A standby, and a worker for the manager's commands, takes replicated commands from its partner only (R382, R395). -/
def State.refusesReplicated (s : State) : Bool :=
  (s.cfg.pair.pair && (s.red.role == .standby || s.red.role == .passive)) || s.cfg.pair.hierRole == 2

/-- The effect span: the first whose instant lies at least 8 µs after acceptance (R382). -/
def State.effectSpan (s : State) : W32 :=
  let l := s.spanNs
  BitVec.ofNat 32 ((s.tb.tb0.ns.toNat + 8000 + l - 1) / l)

/-- The registrar takes packet `p` of a command from its queue in the order of service: sequence, flags and octets are checked first (R350), then whether this unit serves it, then its lots (R354); then `body` acts. A packet whose number is right returns its lots with the reply, whatever the status. Where no packet can be taken nothing happens. -/
def serve (s : State) (p : Packet) (opcode : W16) (good : Bool) (lots : List Nat) (body : State → Served) : State :=
  let q := p.queue.toNat
  if !s.canTake q then s
  else
    let u := s.queue q
    let s := s.fetched q
    let c : ReplyCtx := { opcode := opcode, tag := p.tag, notify := p.flags.getLsbD 0, seq := p.seq, span := s.span32 }
    if p.seq ≠ u.next then
      let s := s.setQueue q { s.queue q with badSeq := inc (s.queue q).badSeq }
      s.reply q c { status := stBadSequence, r0 := u.next }
    else
      let s := s.setQueue q { s.queue q with next := u.next + 1 }
      let c := { c with lots := lots }
      if 2 ≤ p.flags.toNat ∨ !good then s.reply q c { status := stBadPacket }
      else if !s.vc.regRunning && !bootServes opcode then s.reply q c { status := stWrongState }
      else if lots.any (fun l => s.lot l != 2) then s.reply q c { status := stLotNotOwned }
      else
        let s := s.setQueue q { s.queue q with busy := some c }
        match body s with
        | .answer s' a => s'.reply q c a
        | .later s' => s'

/-- Whether the registrar takes packet `p` now and finds its number and its flags right, with the firmware that serves every opcode (R347, R350, R373). -/
def State.takes (s : State) (p : Packet) : Bool :=
  s.canTake p.queue.toNat && p.seq == (s.queue p.queue.toNat).next && decide (p.flags.toNat < 2) && s.vc.regRunning

/-- The reply context of a packet that the registrar takes now (R351, R354). -/
def State.ctxFor (s : State) (p : Packet) (opcode : W16) (lots : List Nat) : ReplyCtx :=
  { opcode := opcode, tag := p.tag, notify := p.flags.getLsbD 0, seq := p.seq, span := s.span32, lots := lots }

/-- The state in which the command of a packet acts: the packet is consumed, the number advanced and the command in progress (R347, R350). -/
def State.taken (s : State) (p : Packet) (opcode : W16) (lots : List Nat) : State :=
  let t := s.fetched p.queue.toNat
  let u := t.queue p.queue.toNat
  t.setQueue p.queue.toNat { u with next := u.next + 1, busy := some (s.ctxFor p opcode lots) }

/-- The state after a packet's command has acted and answered (R351, R354). -/
def State.replied (s : State) (p : Packet) (opcode : W16) (lots : List Nat) (f : State → State × Answer) : State :=
  let r := f (s.taken p opcode lots)
  r.1.reply p.queue.toNat (s.ctxFor p opcode lots) r.2

/-- A command of the replicated groups (R382): alone, it acts at once; in an active unit it is answered by what it would do now, recorded for the partner and applied at its effect span; a standby or a worker rejects it. `list` is what a ZA_POST carries. -/
def replicate (s : State) (opcode : W16) (params : BitVec 448) (list : Octets) (tb : Nat)
    (effect : State → State × Answer) : Served :=
  if replicated opcode tb && s.refusesReplicated then reject s stWrongState
  else
    let (t, a) := effect s
    if replicated opcode tb && s.replicates then
      let cmd : ReplCommand := { opcode := opcode, params := params, list := list }
      let e : ReplPending := { effect := s.effectSpan, cmd := cmd }
      if a.status = stOk then
        .answer { s with red := { s.red with repl := s.red.repl ++ [e], outbox := s.red.outbox ++ [.command e.effect cmd] } } a
      else .answer t a
    else .answer t a

/-- Packets whose opcode is not in the table are answered BAD_OPCODE after the sequence check (R350, R352). -/
def serveUnknown (s : State) (q : BitVec 4) (p : UnknownPacket) : State :=
  let n := q.toNat
  if !s.canTake n then s
  else
    let u := s.queue n
    let s := s.fetched n
    let c : ReplyCtx := { opcode := p.opcode, tag := p.tag, notify := p.flags.getLsbD 0, seq := p.seq, span := s.span32 }
    if p.seq ≠ u.next then
      let s := s.setQueue n { s.queue n with badSeq := inc (s.queue n).badSeq }
      s.reply n c { status := stBadSequence, r0 := u.next }
    else
      let s := s.setQueue n { s.queue n with next := u.next + 1 }
      s.reply n c { status := stBadOpcode }

end Sys2Proof.Machine
end

