-- ==== Sys2Proof/Machine/Stamps.lean ====
section
/-! DEFINITION. Time stamps: the instant at the PCS boundary, the corrections to the ball, the fraction and the PTP message point (R60 to R62). A stamp counts 2^-16 ns mod 2^80. -/
namespace Sys2Proof

/-- A stamp modulo the 64-bit ns (R61). -/
def Machine.wrapStamp (x : Int) : Nat := (BitVec.ofInt 80 x).toNat

/-- The instant at the PCS boundary in 2^-32 ns: the last tick and the interpolated part (R61). -/
def RawStamp.fine (x : RawStamp) : Int := ((x.ns.toNat * 2 ^ 32 + x.frac.toNat + x.eighths.toNat * 2 ^ 29 : Nat) : Int)

/-- The transmit stamp: 36 ns added, truncated to 2^-16 ns (R60, R61). -/
def RawStamp.sent (x : RawStamp) : Nat := Machine.wrapStamp ((x.fine + 36 * 4294967296) / 65536)

/-- The receive stamp: 52 ns + 0.8 ns × alignment subtracted, truncated to 2^-16 ns (R60, R61). -/
def RawStamp.arrived (x : RawStamp) (alignment : Nat) : Nat := Machine.wrapStamp ((5 * x.fine - ((260 + 4 * alignment : Nat) : Int) * 4294967296) / 327680)

/-- A stamp that needs no correction: a node outside gives it at its own ball. -/
def RawStamp.plain (x : RawStamp) : Nat := Machine.wrapStamp (x.fine / 65536)

end Sys2Proof

namespace Sys2Proof.Machine

/-- The 64 ns of R62, for a PTP event message. -/
def eventPoint (t : Nat) : Nat := wrapStamp ((t + 64 * 65536 : Nat) : Int)

/-- The comma alignment of a port, as measured at its last link-up (R60). -/
def State.alignment (s : State) (port : Nat) : Nat := (Table.get 0 s.tb.rxAlign port).toNat

/-- TB0 at this tick (R61). -/
def State.rawNow (s : State) : RawStamp := { ns := s.tb.tb0.ns, frac := s.tb.tb0.frac, eighths := 0 }

/-- The transmit stamp of what the device sends now. -/
def State.stamp (s : State) : Nat := s.rawNow.sent

/-- ns of a stamp. -/
def stampNs (t : Nat) : W64 := BitVec.ofNat 64 (t / 65536)

/-- A timing-bay entry: 48 bits of ns and a fraction of 16 bits (R61, R77). -/
def stampOctets (t : Nat) : Octets := leBytes 6 (t / 65536 % 2 ^ 48) ++ leBytes 2 (t % 65536)

/-- The difference of two stamps of a timing bay, mod 2^64 as signed, in 2^-16 ns. -/
def stampDiff (a b : Nat) : Int := (BitVec.ofInt 64 ((a : Int) - b)).toInt

/-- The difference of two whole stamps, mod 2^80 as signed, in 2^-16 ns. -/
def wideDiff (a b : Nat) : Int := (BitVec.ofInt 80 ((a : Int) - b)).toInt

end Sys2Proof.Machine
end

