-- ==== Sys2Proof/Machine/Time.lean ====
section
/-! DEFINITION. The time-base commands, snapshots and REFCLK (R46 to R58). -/
namespace Sys2Proof.Machine

/-- The stamp of the tick that a time command replies: the time base it names (R353). -/
def State.stampOf (s : State) (n : Nat) (st : W16) : Answer :=
  { status := st, r0 := (s.timeBase n).ns.setWidth 32, r1 := (s.timeBase n).ns.extractLsb' 32 32 }

/-- Whether the island carries out TIME_STEP or TIME_RATE (R55). -/
def State.timeFree (s : State) (n : Nat) : Bool := n != 2 && (s.timeBase n).mode == .free

def State.timeStep (n : Nat) (d : W64) (s : State) : State × Answer :=
  if s.timeFree n then let t := s.stepTb n d true; (t, t.stampOf n stOk) else (s, s.stampOf n stWrongState)

def State.timeRate (n : Nat) (r : W32) (s : State) : State × Answer :=
  if s.timeFree n then
    let t := s.setTimeBase n ((s.timeBase n).withRate r.toInt)
    (t, t.stampOf n stOk)
  else (s, s.stampOf n stWrongState)

/-- Selects TB3's source: slaved, TB3 steps once to the source + the offset and takes its rate and state; free, it keeps value and rate and reads FREE (R57). -/
def State.tb3Mode (src : Nat) (off : W64) (s : State) : State × Answer :=
  let s := { s with tb := { s.tb with source := BitVec.ofNat 2 src, srcOffset := off } }
  if src = 0 then
    let t := s.setTimeBase 3 { s.tb.tb3 with mode := .free }
    (t, t.stampOf 3 stOk)
  else
    let o := s.timeBase (src - 1)
    let f := o.frac - s.tb.tb3.frac
    let d := o.ns + off - s.tb.tb3.ns - (if o.frac.toNat < s.tb.tb3.frac.toNat then 1 else 0)
    let t := s.stepTb 3 d false f
    let t := t.setTimeBase 3 { t.tb.tb3 with rate := o.rate, mode := o.mode }
    (t, t.stampOf 3 stOk)

/-- TIME_STEP (R55). -/
def execTimeStep (p : Packet) (s : State) : Host.Outcome State Fault Refusal :=
  let n := param p.params 0 1
  done (serve s p 0x0501 (unusedZero p.params [(0, 1), (8, 8)] && decide (n < 4)) [] fun s =>
    replicate s 0x0501 p.params [] n (State.timeStep n (BitVec.ofNat 64 (param p.params 8 8))))

/-- TIME_RATE (R50, R55). -/
def execTimeRate (p : Packet) (s : State) : Host.Outcome State Fault Refusal :=
  let n := param p.params 0 1
  done (serve s p 0x0502 (unusedZero p.params [(0, 1), (4, 4)] && decide (n < 4)) [] fun s =>
    replicate s 0x0502 p.params [] n (State.timeRate n (BitVec.ofNat 32 (param p.params 4 4))))

/-- TIME_TB3_MODE (R57). -/
def execTimeTb3Mode (p : Packet) (s : State) : Host.Outcome State Fault Refusal :=
  let n := param p.params 0 1
  done (serve s p 0x0503 (unusedZero p.params [(0, 1), (8, 8)] && decide (n < 3)) [] fun s =>
    let r := s.tb3Mode n (BitVec.ofNat 64 (param p.params 8 8))
    .answer r.1 r.2)

/-- TB_SNAP.go: the four time bases at one tick (R53). -/
def execTbSnapGo (_by : Requester) (s : State) : Host.Outcome State Fault Refusal :=
  let v := fun (n : Nat) => ({ ns := (s.timeBase n).ns, frac := (s.timeBase n).frac } : TbValue)
  let t := (upto 4).foldl (fun t n => Table.put {} t n (v n)) s.tb.snapAll
  done { s with tb := { s.tb with snapAll := t } }

/-- A read of TBn_NS_LO latches time base n for the requester (R53). -/
def State.readNsLo (s : State) (by_ : Requester) (n : Nat) : State :=
  let t := s.timeBase n
  { s with tb := { s.tb with snaps := Table.put {} s.tb.snaps (4 * requesterKey by_ + n) { ns := t.ns, frac := t.frac } } }

def execTbNsLoRead (by_ : Requester) (n : BitVec 2) (s : State) : Host.Outcome State Fault Refusal :=
  done ((s.readNsLo by_ n.toNat).returned ((s.timeBase n.toNat).ns.setWidth 32))

/-- The latches of R69, R145, R283, R295 and R322 by register. -/
def latchSpan : Nat := 0
def latchPtime (a : Nat) : Nat := 16 + a
def latchPos (n : Nat) : Nat := 32 + n
def latchDio : Nat := 1
def latchSteps (n : Nat) : Nat := 48 + n

/-- A read of TB0_SPAN_LO latches TB0_SPAN_HI (R69). -/
def State.readSpanLo (s : State) (by_ : Requester) : State := s.latch by_ latchSpan (s.span.extractLsb' 32 32)

def execTb0SpanLoRead (by_ : Requester) (s : State) : Host.Outcome State Fault Refusal :=
  done ((s.readSpanLo by_).returned s.span32)

/-- How a window's count lies about the nominal 25,600 (R47): within 800 ppm, or bad; a count between the bounds is bad as the uninterpreted Config.refclkDeclares says (log entry 7). -/
def refclkGood (count : W16) : Bool := decide (25580 ≤ count.toNat) && decide (count.toNat ≤ 25620)

def refclkBad (count : W16) : Bool :=
  decide (count.toNat < 25570) || decide (25630 < count.toNat) || (!refclkGood count && Config.refclkDeclares count)

/-- The core die takes a declared REFCLK fault (R48): the STO-class event with the TB2 value before it, and every time base but TB2 FREE. -/
def State.refclkTaken (s : State) (tb2 : W64) : State :=
  let s := s.raisePar { code := 0x0201, source := srcPar, tb2 := some tb2 }
  let s := { s with tb := { s.tb with refPending := none, grandmaster := none } }
  let s := (s.setMode 0 .free).setMode 1 .free
  s.setTimeBase 3 { s.tb.tb3 with mode := .free }

/-- A REFCLK fault is declared (R48): the Parapet records it; a core die in reset or DORMANT takes it later (R449). -/
def State.refclkFault (s : State) : State :=
  let v := s.tb.tb2.ns
  let s := { s with par := { s.par with log := s.par.log ++ [ParEntry.refclk v] }
                    tb := { s.tb with refFault := true, refPending := some v } }
  if s.pwr.inReset || s.pwr.dormant then s else s.refclkTaken v

/-- The end of a REFCLK fault (R48): TB1 waits for the master that PTP has selected meanwhile (R51, R68). -/
def State.refclkOver (s : State) : State :=
  let s := { s with tb := { s.tb with refFault := false } }
  if s.tb.grandmaster.isSome then s.setMode 1 .acquiring else s

/-- A counting window of the Parapet ends (R47). The fault is over once REFCLK has stayed good for 1 s of TB2 (R48); the Parapet declares during DORMANT and the core die takes it at wake (R449). -/
def execRefclkWindow (count : W16) (s : State) : Host.Outcome State Fault Refusal :=
  let bad := if refclkBad count then s.tb.refBad + 1 else 0
  let since := if refclkGood count then (match s.tb.refGoodSince with | some t => some t | none => some s.tb.tb2.ns) else none
  let s := { s with tb := { s.tb with refCount := count, refBad := bad, refGoodSince := since } }
  let good1s := match since with | some t => decide (1000000000 ≤ (s.tb.tb2.ns - t).toNat) | none => false
  if s.tb.refFault then done (if good1s then s.refclkOver else s)
  else if 2 ≤ bad then done s.refclkFault
  else done s

end Sys2Proof.Machine
end

