-- ==== Sys2Proof/Machine/Memory.lean ====
section
/-! DEFINITION. The address map (R42, R43), words with poison (R402 to R407), LPDDR granules (R415), lot checks of fabric accesses (R360) and spare words (R411, R412). -/
namespace Sys2Proof.Machine

def cellBase : Nat := 0x0100000000
def regBase : Nat := 0x0140000000
def vcBase : Nat := 0x0180000000
def registrarBase : Nat := 0x0180C00000
def laneBase : Nat := 0x01C0000000
def windowBase : Nat := 0x00F0000000
def imOff : Nat := 0
def xmOff : Nat := 0x40000
def ymOff : Nat := 0x80000

/-- What lies at an internal address (R42). -/
inductive Area where
  | lpddr
  | cell
  | registers
  | im
  | xmym
  | registrar
  | lane
  | none
  deriving DecidableEq, Repr

def vcArea (off : Nat) : Area :=
  if off < 0x20000 then .im
  else if xmOff ≤ off ∧ off < 0x60000 then .xmym
  else if ymOff ≤ off ∧ off < 0xA0000 then .xmym
  else .none

def areaOf (a : Nat) : Area :=
  if a < cellBase then .lpddr
  else if a < 0x0101000000 then .cell
  else if regBase ≤ a ∧ a < 0x0140100000 then .registers
  else if vcBase ≤ a ∧ a < registrarBase then vcArea ((a - vcBase) % 0x100000)
  else if registrarBase ≤ a ∧ a < registrarBase + 0x80000 then .registrar
  else if laneBase ≤ a ∧ a < 0x01C2000000 then (if (a - laneBase) % 0x100000 < 0x80000 then .lane else .none)
  else .none

/-- The domain and the 128-bit word of an internal address (R403). -/
def domainOf (a : Nat) : Nat × Nat :=
  match areaOf a with
  | .lpddr => (640 + a / 0x8000000, a % 0x8000000 / 16)
  | .cell => ((a - cellBase) / 65536, (a - cellBase) % 65536 / 16)
  | .im => let o := a - vcBase; (256 + 6 * (o / 0x100000) + o % 0x100000 / 65536, o % 65536 / 16)
  | .xmym =>
    let o := a - vcBase
    let i := o % 0x100000
    (256 + 6 * (o / 0x100000) + (if i < ymOff then 2 + (i - xmOff) / 65536 else 4 + (i - ymOff) / 65536), o % 65536 / 16)
  | .registrar => (584 + (a - registrarBase) / 65536, (a - registrarBase) % 65536 / 16)
  | .lane => let o := a - laneBase; (328 + 8 * (o / 0x100000) + o % 0x100000 / 65536, o % 65536 / 16)
  | _ => (0, 0)

/-- The region of a domain (R403). -/
def regionOf (d : Nat) : Nat :=
  if d < 256 then 0 else if d < 328 then 1 else if d < 584 then 2 else if d < 592 then 3
  else if d < 608 then 4 else if d < 640 then 5 else 6

/-- The words of a domain. -/
def domainWords (d : Nat) : Nat := if d < 640 then 4096 else 8388608

def poisonKey (d w : Nat) : Nat := d * 8388608 + w

def State.wordPoisoned (s : State) (a : Nat) : Bool :=
  let dw := domainOf a
  Table.get false s.memc.poison (poisonKey dw.1 dw.2)

def State.setPoison (s : State) (a : Nat) (v : Bool) : State :=
  let dw := domainOf a
  { s with memc := { s.memc with poison := Table.put false s.memc.poison (poisonKey dw.1 dw.2) v } }

/-- The first addresses of the words that a run of octets touches. -/
def wordsOf (a len : Nat) : List Nat :=
  if len = 0 then [] else (upto ((a + len - 1) / 16 - a / 16 + 1)).map (fun i => 16 * (a / 16 + i))

/-- The octets from an internal address, as stored. -/
def State.octets (s : State) (a len : Nat) : Octets := (upto len).map (fun i => Table.get 0 s.mem (a + i))

/-- Stores octets from an internal address. -/
def State.storeOctets (s : State) (a : Nat) (o : Octets) : State :=
  { s with mem := (o.zipIdx a).foldl (fun m x => Table.put 0 m x.2 x.1) s.mem }

/-- A write of any kind to LPDDR first initialises its granules (R415). -/
def State.touchGranules (s : State) (a len : Nat) : State :=
  if s.memc.lpddrReady || areaOf a != .lpddr then s
  else { s with memc := { s.memc with granules :=
    ((wordsOf a len).map (· / 65536)).foldl (fun g k => Table.put false g k true) s.memc.granules } }

/-- Fills a remap entry of a domain within the handshake (R412). Beyond eight entries the word stays unmapped and the domain raises remap exhausted. -/
def State.remap (s : State) (d : Nat) (w : W32) : State :=
  let m := s.dom d
  if m.remaps.contains w then s
  else if m.remaps.length < 8 then
    let full := m.remaps.length = 7
    let s := s.setDom d { m with remaps := m.remaps ++ [w], exhausted := full || m.exhausted }
    let s := { s with memc := { s.memc with unrecorded := s.memc.unrecorded ++ [(BitVec.ofNat 10 d, w)] } }
    if full then { s with memc := { s.memc with exhausted := inc s.memc.exhausted } } else s
  else
    let s := { s with memc := { s.memc with remapExhausted := true } }
    s.raise { code := 0x0D03, source := srcMem, data := BitVec.ofNat 32 d }

/-- Whether the stored bits of the word at an address hold a single-bit error: a read has found it, and neither a write-back nor a write has mended it (R408). -/
def State.errorAt (s : State) (a : Nat) : Bool :=
  let dw := domainOf a
  (s.dom dw.1).writeBacks.contains (BitVec.ofNat 32 dw.2)

/-- Whether every word of a run decodes without an error: no poison marker and no single-bit error (R402). -/
def State.sound (s : State) (a len : Nat) : Bool := (wordsOf a len).all (fun w => !s.wordPoisoned w && !s.errorAt w)

/-- A correctable error at a word: the tracker's new list and whether it is the third of the lap (R411). -/
def track (l : List Tracker) (w : W32) : List Tracker × Bool :=
  let n := match l.find? (fun t => t.word == w) with | some t => t.count + 1 | none => 1
  (({ word := w, count := n } :: l.filter (fun t => t.word != w)).take 4, decide (3 ≤ n))

/-- A read finds a correctable error in a word (R402, R408, R411, R412): counted and tracked. The third of a lap puts the corrected word into a spare; else it waits to be written back. -/
def State.correctable (s : State) (d w : Nat) (scrub : Bool) : State :=
  let x := BitVec.ofNat 32 w
  let s := { s with memc := { s.memc with
    corrected := inc s.memc.corrected, lastWord := x, lastKind := 1, lastScrub := scrub, lastDomain := BitVec.ofNat 10 d } }
  let m := s.dom d
  let t := track m.trackers x
  let spare := t.2 && !m.remaps.contains x && decide (m.remaps.length < 8)
  let others := m.writeBacks.filter (fun y => y != x)
  let s := s.setDom d { m with trackers := t.1, writeBacks := if spare then others else others ++ [x] }
  let s := s.raise { code := 0x0D01, source := srcMem, data := BitVec.ofNat 32 d }
  if t.2 then s.remap d x else s

/-- The demand reads of words: each that holds a correctable error is one (R411). -/
def State.demand (s : State) (words : List Nat) : State :=
  (words.filter s.errorAt).foldl (fun s w => let dw := domainOf w; s.correctable dw.1 dw.2 false) s

/-- A narrow write that finds poison: word unchanged, counted (R405). -/
def State.countAbort (s : State) (a : Nat) : State :=
  let dw := domainOf a
  { s with memc := { s.memc with
    aborted := inc s.memc.aborted, poisoned := inc s.memc.poisoned
    lastWord := BitVec.ofNat 32 dw.2, lastKind := 3, lastScrub := false, lastDomain := BitVec.ofNat 10 dw.1 } }

/-- A write to a word drops the write-back that waits for it (R408). -/
def State.dropWriteBack (s : State) (a : Nat) : State :=
  let dw := domainOf a
  let d := s.dom dw.1
  s.setDom dw.1 { d with writeBacks := d.writeBacks.filter (fun w => w.toNat != dw.2) }

/-- Writes the part of `o` (stored from `a`) that falls into the word at `w`: a whole word clears poison without a read (R404), a narrow part of a poisoned word is aborted, and of a word with a correctable error is merged into the corrected word (R405). The flag says whether a part was aborted. -/
def State.writeWord (s : State) (a : Nat) (o : Octets) (w : Nat) : State × Bool :=
  let lo := max a w
  let hi := min (a + o.length) (w + 16)
  let part := sliceO o (lo - a) (hi - lo)
  if s.wordPoisoned w then
    if hi - lo = 16 then (((s.setPoison w false).dropWriteBack w).storeOctets lo part, false) else (s.countAbort w, true)
  else if hi - lo < 16 && s.errorAt w then
    let s := s.demand [w]
    (({ s with memc := { s.memc with rmwCorrected := inc s.memc.rmwCorrected } } : State).dropWriteBack w |>.storeOctets lo part, false)
  else ((s.dropWriteBack w).storeOctets lo part, false)

/-- A write to memory, word by word; answers whether a part was aborted. -/
def State.writeMem (s : State) (a : Nat) (o : Octets) : State × Bool :=
  (wordsOf a o.length).foldl (fun r w => let t := r.1.writeWord a o w; (t.1, r.2 || t.2)) (s.touchGranules a o.length, false)

/-- A read of memory: the octets, with correctable errors corrected, and whether a word carried the poison flag, which is counted (R402). -/
def State.readMem (s : State) (a len : Nat) : State × Octets × Bool :=
  let bad := (wordsOf a len).any s.wordPoisoned
  let s := s.demand (wordsOf a len)
  let s' := if bad then { s with memc := { s.memc with poisoned := inc s.memc.poisoned } } else s
  (s', s.octets a len, bad)

/-- Copies octets into memory with the poison marker where the source carried it (R407). -/
def State.copyMem (s : State) (a : Nat) (o : Octets) (bad : Bool) : State :=
  let s := (s.writeMem a o).1
  if bad then (wordsOf a o.length).foldl (fun s w => s.setPoison w true) s else s

/-- An engine whose input carried poison raises an event naming itself (R407). -/
def State.enginePoison (s : State) (source : Byte) : State :=
  s.raise { code := 0x0D02, source := source, data := source.setWidth 32 }

/-- What a fabric access to memory ends with. -/
inductive Access where
  | ok (s : State) (o : Octets)
  | error (s : State)
  | poisoned (s : State) (o : Octets)

/-- An access to what is not populated: counted by its event with the address (R43). -/
def State.unmapped (s : State) (a : Nat) : State :=
  s.raise { code := 0x0106, source := srcDev, data := BitVec.ofNat 32 a }

/-- Whether an address lies in the shared window, and its lot (R357). -/
def lotOf (a : Nat) : Option Nat := if windowBase ≤ a ∧ a < cellBase then some ((a - windowBase) / 4096) else none

/-- The lots that a run of octets touches. -/
def lotsOf (a len : Nat) : List Nat := (wordsOf a len).filterMap lotOf

/-- The device may access DEVICE and LOCKED lots only (R357, R360). -/
def State.lotsOpen (s : State) (a len : Nat) : Bool := (lotsOf a len).all (fun l => s.lot l == 2 || s.lot l == 3)

def State.lotRefused (s : State) : State := { s with hq := { s.hq with fabricRefused := inc s.hq.fabricRefused } }

/-- Whether a requester reaches the area of an address (R42, R298). -/
def reaches (who : Requester) (a : Nat) : Bool :=
  match areaOf a with
  | .none => false
  | .registrar => who == .registrar
  | _ => true

/-- The first address of an access in each 64 KiB that it touches; within 64 KiB the areas of R42 do not change. -/
def blocksOf (a len : Nat) : List Nat :=
  a :: (upto ((a + len - 1) / 65536 - a / 65536)).map (fun i => (a / 65536 + i + 1) * 65536)

/-- The first address of an access that its requester does not reach (R43). -/
def unreached (who : Requester) (a len : Nat) : Option Nat := (blocksOf a len).find? (fun x => !reaches who x)

/-- A fabric read of memory (R43, R360, R402). -/
def State.fabricRead (s : State) (who : Requester) (a len : Nat) : Access :=
  match unreached who a len with
  | some x => .error (s.unmapped x)
  | none =>
  if !s.lotsOpen a len then .error s.lotRefused
  else
    let r := s.readMem a len
    if r.2.2 then .poisoned r.1 r.2.1 else .ok r.1 r.2.1

/-- A fabric write of memory (R43, R360, R405). IM takes writes of the registrar alone: any other has no effect and is counted (R296). -/
def State.fabricWrite (s : State) (who : Requester) (a : Nat) (o : Octets) : Access :=
  match unreached who a o.length with
  | some x => .error (s.unmapped x)
  | none =>
  if areaOf a = .im ∧ who ≠ .registrar then .ok { s with vc := { s.vc with writesRefused := inc s.vc.writesRefused } } []
  else if !s.lotsOpen a o.length then .error s.lotRefused
  else
    let r := s.writeMem a o
    if r.2 then .error r.1 else .ok r.1 []

end Sys2Proof.Machine
end

