-- ==== Sys2Proof/Machine/Work.lean ====
section
/-! DEFINITION. The dispatcher: descriptors, tokens, ready lists, prefetch, start and span templates (R323 to R338). -/
namespace Sys2Proof.Machine

/-- A descriptor from its 32 octets (R323). -/
def Desc.ofOctets (o : Octets) : Desc :=
  { used := true
    code := (u16 o 0).setWidth 14
    priority := (u8 o 2).setWidth 4
    count := (u8 o 3).setWidth 3
    affinity := (u16 o 4).setWidth 12
    firstEntry := (u16 o 6).setWidth 12
    budget := u32 o 8
    doneToken := u16 o 12
    arm := u8 o 14
    vcDeadline := (u8 o 15).getLsbD 0
    ownDeadline := (u8 o 15).getLsbD 1
    deadline := (u32 o 16).setWidth 20 }

/-- The 32 octets of a descriptor (R323). -/
def Desc.octets (d : Desc) : Octets :=
  leBytes 2 d.code.toNat ++ [d.priority.setWidth 8, d.count.setWidth 8] ++ leBytes 2 d.affinity.toNat ++ leBytes 2 d.firstEntry.toNat
    ++ leBytes 4 d.budget.toNat ++ leBytes 2 d.doneToken.toNat ++ [d.arm]
    ++ [BitVec.ofNat 8 (b2n d.vcDeadline + 2 * b2n d.ownDeadline)] ++ leBytes 4 d.deadline.toNat ++ List.replicate 12 0

/-- Internal address of the descriptor table in cell memory. -/
def State.descTable (s : State) : Nat := cellBase + s.cfg.descBase.toNat

/-- Descriptor d as the table in cell memory holds it (R323). -/
def State.desc (s : State) (d : Nat) : Desc := Desc.ofOctets (s.octets (s.descTable + 32 * d) 32)

/-- The indices of the table's descriptors. -/
def State.descs (s : State) : List Nat := s.cfg.descs.map (fun e => e.1)

def Desc.entries (d : Desc) : List Nat := (upto d.count.toNat).map (d.firstEntry.toNat + ·)

/-- The descriptor that owns an entry (R324). -/
def State.ownerOf (s : State) (e : Nat) : Option Nat := s.descs.find? (fun d => (s.desc d).entries.contains e)

def State.entry (s : State) (e : Nat) : Entry := Table.get {} s.ts.entries e
def State.setEntry (s : State) (e : Nat) (v : Entry) : State := { s with ts := { s.ts with entries := Table.put {} s.ts.entries e v } }
def State.ready (s : State) (p : Nat) : List Nat := Table.get [] s.ts.ready p
def State.setReady (s : State) (p : Nat) (l : List Nat) : State := { s with ts := { s.ts with ready := Table.put [] s.ts.ready p l } }
def State.tsSlot (s : State) (n : Nat) : Option Slot := Table.get none s.ts.slots n
def State.setTsSlot (s : State) (n : Nat) (v : Option Slot) : State := { s with ts := { s.ts with slots := Table.put none s.ts.slots n v } }

def cores12 : List Nat := upto 12

/-- Whether the dispatcher may fill the core's slot (R328). -/
def State.coreServed (s : State) (n : Nat) : Bool := !(s.core n).halted && !(s.core n).stepping && !(s.core n).hung

/-- XM word of an operand buffer (R329). -/
def bufferWord (b : Bool) : Nat := if b then 8188 else 8184

def xmAddress (n w : Nat) : Nat := vcBase + n * 0x100000 + xmOff + 16 * w

/-- Fills a core's slot and copies the item's operands into the buffer that the next item will use (R329). -/
def State.fill (s : State) (n d : Nat) : State :=
  let b := bufferWord (s.core n).buffer
  let k := s.desc d
  let s := (upto k.count.toNat).foldl (fun s i =>
    let v := (s.entry (k.firstEntry.toNat + i)).operand
    (s.writeMem (xmAddress n (b + i)) (leBytes 16 v.toNat)).1) s
  let s := s.setTsSlot n (some { desc := d, order := s.ts.order })
  { s with ts := { s.ts with order := s.ts.order + 1 } }

/-- Returns the item in a core's slot to the head of its ready list, counted (R331). -/
def State.unfill (s : State) (n : Nat) : State :=
  match s.tsSlot n with
  | none => s
  | some k =>
    let p := (s.desc k.desc).priority.toNat
    let s := (s.setReady p (k.desc :: s.ready p)).setTsSlot n none
    { s with ts := { s.ts with recalls := inc s.ts.recalls } }

/-- The slot that a new ready item recalls, if any (R331): the lowest priority, among equals the one filled last. -/
def State.victim (s : State) (d : Nat) : Option Nat :=
  let k := s.desc d
  let admits := cores12.filter (fun n => k.affinity.getLsbD n && s.coreServed n)
  if admits.any (fun n => (s.tsSlot n).isNone) then none
  else
    let lower := admits.filterMap (fun n =>
      match s.tsSlot n with
      | none => none
      | some x =>
        let p := (s.desc x.desc).priority.toNat
        if p < k.priority.toNat then some (n, p, x.order) else none)
    let best := lower.foldl (fun b e =>
      match b with
      | none => some e
      | some c => if e.2.1 < c.2.1 || (e.2.1 == c.2.1 && c.2.2 < e.2.2) then some e else some c) (none : Option (Nat × Nat × Nat))
    best.map (fun e => e.1)

/-- The TB0 instant of an item's deadline, as its descriptor and the span in progress give it (R323); DEV_DEADLINE_VC is none until an integration has set it. -/
def State.dueOf (s : State) (k : Desc) : Option Nat :=
  if k.vcDeadline then (if s.dev.deadlineVc = 0 then none else some (s.spanStart + s.dev.deadlineVc.toNat))
  else if k.ownDeadline then some (s.spanStart + k.deadline.toNat)
  else none

/-- A ready item takes its deadline (R31, R323). -/
def State.takeDue (s : State) (d : Nat) : State :=
  let k := s.desc d
  let s := { s with ts := { s.ts with dues := Table.put 0 s.ts.dues d (BitVec.ofNat 64 ((s.dueOf k).getD 0)) } }
  match s.dueOf k with
  | some t => if k.ownDeadline && !k.vcDeadline then s.arm0 t (.itemDeadline (BitVec.ofNat 10 d)) else s
  | none => s

/-- An item becomes ready (R327), with the recall it causes (R331). -/
def State.makeReady (s : State) (d : Nat) : State :=
  let s := s.takeDue d
  match s.victim d with
  | none => let p := (s.desc d).priority.toNat; s.setReady p (s.ready p ++ [d])
  | some n => (s.unfill n).fill n d

/-- A token is offered to the dispatcher: its input queue takes 64 tokens, beyond which the sender's handshake is held (R325). -/
def State.sendToken (s : State) (t : Token) : State :=
  if s.ts.queue.length < 64 then { s with ts := { s.ts with queue := s.ts.queue ++ [t] } }
  else { s with ts := { s.ts with held := s.ts.held ++ [t] } }

/-- The dispatcher takes the first token of its queue: the entry fills, or the token is discarded (R326, R327). -/
def execTokenAccept (s : State) : Host.Outcome State Fault Refusal :=
  match s.ts.queue with
  | [] => done s
  | t :: rest =>
    let s := { s with ts := { s.ts with queue := rest ++ s.ts.held.take 1, held := s.ts.held.drop 1 } }
    let e := t.entry.toNat
    match s.ownerOf e with
    | none => done { s with ts := { s.ts with unrouted := inc s.ts.unrouted } }
    | some d =>
      if (s.entry e).full then
        let s := { s with ts := { s.ts with collisions := inc s.ts.collisions } }
        done (s.raise { code := 0x0F01, source := srcTs, data := BitVec.ofNat 32 e })
      else
        let s := s.setEntry e { full := true, operand := t.operand }
        let s := { s with ts := { s.ts with tokens := inc s.ts.tokens } }
        done (if (s.desc d).entries.all (fun i => (s.entry i).full) then s.makeReady d else s)

/-- The item that a core's empty slot takes: the first admitted one of the highest priority (R328). -/
def State.choose (s : State) (n : Nat) : Option Nat :=
  ((upto 16).reverse.filterMap (fun p => (s.ready p).find? (fun d => (s.desc d).affinity.getLsbD n))).head?

/-- One decision of the dispatcher: the lowest core with an empty slot that an item can take (R328). -/
def execPrefetch (s : State) : Host.Outcome State Fault Refusal :=
  let c := cores12.filterMap (fun n =>
    if (s.tsSlot n).isNone && s.coreServed n then (s.choose n).map (fun d => (n, d)) else none)
  match c.head? with
  | none => done s
  | some x =>
    let p := (s.desc x.2).priority.toNat
    done ((s.setReady p ((s.ready p).erase x.2)).fill x.1 x.2)

/-- The core's next instruction lies at an enabled breakpoint (R320). -/
def Core.atBreak (c : Core) : Bool :=
  (upto 4).any (fun k => let b := Table.get 0 c.breaks k; b.getLsbD 31 && b.setWidth 14 == c.pc)

/-- A core starts the item in its slot (R330): PC is the item's code, A0 the buffer base; the item's entries empty and the slot clears. -/
def execItemStart (n : BitVec 4) (s : State) : Host.Outcome State Fault Refusal :=
  let i := n.toNat
  let c := s.core i
  match s.tsSlot i with
  | none => done s
  | some x =>
    if 12 ≤ i || c.item.isSome || !s.coreServed i then done s
    else
      let k := s.desc x.desc
      let c := { c with
        pc := k.code, a := Table.put 0 c.a 0 (BitVec.ofNat 32 (bufferWord c.buffer)), item := some x.desc, itemSteps := 0
        overBudget := false, buffer := !c.buffer, loops := [], returns := [] }
      let due := Table.get 0 s.ts.dues x.desc
      let hit := c.breakHit || c.atBreak
      let c := { c with breakHit := hit, sigAt := if hit then some (c.sigAt.getD c.steps) else c.sigAt, due := if due = 0 then none else some due }
      let s := (s.setCore i c).setTsSlot i none
      let s := { s with ts := { s.ts with dues := s.ts.dues.drop x.desc } }
      done (s.each k.entries (fun s e => s.setEntry e {}))

/-- A template row releases a count-0 item; one that is already ready or in a slot is skipped (R337). -/
def State.release (s : State) (d : Nat) : State :=
  let p := (s.desc d).priority.toNat
  if (s.ready p).contains d || cores12.any (fun n => match s.tsSlot n with | some x => x.desc == d | none => false) then
    { s with ts := { s.ts with skipped := inc s.ts.skipped } }
  else s.makeReady d

/-- A template row fires (R336). -/
def State.fireRow (s : State) (r : TplRow) (operand : W128) : State :=
  if r.release then s.release r.target.toNat else s.sendToken { entry := r.target, operand := operand }

/-- The rows of a trigger fire in ascending order, from LOADED onwards (R336, R338). -/
def State.fireRows (s : State) (hit : TplRow → Bool) (operand : W128) : State :=
  if s.dev.cell = .uncatalogued then s
  else s.cfg.rows.foldl (fun s e => if e.2.enabled && hit e.2 then s.fireRow e.2 operand else s) s

def spanTrigger : BitVec 3 := 0
def gatherTrigger : BitVec 3 := 1
def wardenTrigger : BitVec 3 := 2
def leTrigger : BitVec 3 := 3

/-- GATHER rows of a ring fire at its gather completion, or at its cut-off when the deck is lost (R336). -/
def State.fireGather (s : State) (r : Nat) (lost : Bool) : State :=
  s.fireRows (fun t => t.trigger == gatherTrigger && t.ring.toNat == r)
    (BitVec.ofNat 128 (s.span32.toNat + r * 2 ^ 32 + b2n lost * 2 ^ 40))

/-- LE rows fire at the completion of the joint-loop run (R336). -/
def State.fireLe (s : State) (count : Nat) (late : Bool) : State :=
  s.fireRows (fun t => t.trigger == leTrigger) (BitVec.ofNat 128 (s.span32.toNat + count * 2 ^ 32 + b2n late * 2 ^ 40))

/-- WARDEN rows fire at Warden's posting of the scales, lane a holding that of arm a (R336). -/
def State.fireWarden (s : State) : State :=
  s.fireRows (fun t => t.trigger == wardenTrigger)
    (BitVec.ofNat 128 (arms8.foldl (fun v a => v + (s.warm a).scale.toNat * 2 ^ (16 * a)) 0))

/-- Whether a SPAN row's period and phase hold in the span in progress (R336). -/
def State.rowInPhase (s : State) (r : TplRow) : Bool :=
  let n := r.period.toNat + 1
  (s.span.toNat + n - r.phase.toNat % n) % n == 0

/-- A SPAN row fires at its offset after the instant of a span of its period and phase, in which its compare was set (R336). -/
def execTemplateSpanTrigger (t : BitVec 6) (s : State) : Host.Outcome State Fault Refusal :=
  let r := Table.get {} s.cfg.rows t.toNat
  let came := s.came (.template t)
  let s := s.disarm (.template t)
  if s.dev.cell = .uncatalogued || !came then done s
  else if r.enabled && r.trigger == spanTrigger then
    done (s.fireRow r (BitVec.ofNat 128 (s.span32.toNat + s.tb.tb0.ns.toNat % 2 ^ 32 * 2 ^ 32)))
  else done s

/-- Every span instant re-arms the template: entries that rows target, or that belong to a descriptor a row releases, are emptied (R337). An item that is ready keeps the operands that made it so (DEDUCED, log entry 14). -/
def State.rearm (s : State) : State :=
  let s := { s with ts := { s.ts with vcDone := [], vcMissed := [] } }
  s.cfg.rows.foldl (fun s e =>
    if !e.2.enabled then s
    else
      let es := if e.2.release then (s.desc e.2.target.toNat).entries else [e.2.target.toNat]
      s.each es (fun s i =>
        if (s.entry i).full then
          let s := s.setEntry i { s.entry i with full := false }
          { s with ts := { s.ts with stale := inc s.ts.stale } }
        else s)) s

/-- Whether the source of a template row runs (R338), and a SPAN row's phase holds. -/
def State.rowRuns (s : State) (r : TplRow) : Bool :=
  if r.trigger = spanTrigger then s.rowInPhase r
  else if r.trigger = gatherTrigger then (s.ring r.ring.toNat).phase == .running || (s.ring r.ring.toNat).phase == .line
  else if r.trigger = wardenTrigger then s.saf.loadedA && !s.saf.halted
  else r.trigger == leTrigger

/-- Whether the span template has an item run in the span in progress: a row whose source runs releases it or fills an entry of it (R28, R336). -/
def State.itemDue (s : State) (d : Nat) : Bool :=
  s.cfg.rows.any (fun e =>
    e.2.enabled && s.rowRuns e.2 && (if e.2.release then e.2.target.toNat == d else s.ownerOf e.2.target.toNat == some d))

/-- Whether an item is under way for the deadline of the span in progress: ready, in a slot or running under it, or with an operand that has arrived. -/
def State.itemOpen (s : State) (d : Nat) : Bool :=
  let t := BitVec.ofNat 64 (s.spanStart + s.dev.deadlineVc.toNat)
  Table.get 0 s.ts.dues d == t || cores12.any (fun n => (s.core n).item == some d && (s.core n).due == some t)
    || (s.desc d).entries.any (fun e => (s.entry e).full)

/-- The items with vc_deadline that DEV_DEADLINE_VC finds not complete (R32): those of the span template, whether or not they have begun, and those under way (log entry 14). -/
def State.vcLate (s : State) : List Nat :=
  s.descs.filter (fun d =>
    (s.desc d).vcDeadline && !s.ts.vcDone.contains d && !s.ts.vcMissed.contains d && (s.itemDue d || s.itemOpen d))

/-- Marks the arm of an item as one whose items missed the deadline (R32, R316). -/
def State.missArm (s : State) (a : Byte) : State :=
  if a.toNat < 8 then { s with dev := { s.dev with vcMissed := bitSet s.dev.vcMissed a.toNat true } } else s

/-- A VC overrun: counted, with its event naming the descriptor (R32). -/
def State.vcOverrun (s : State) (d : Nat) : State :=
  let s := { s with dev := { s.dev with vc := { s.dev.vc with overruns := inc s.dev.vc.overruns } } }
  s.raise { code := 0x0103, source := srcTs, data := BitVec.ofNat 32 d }

/-- An item with vc_deadline has missed it (R32): its overrun, and its arm's references are extrapolated in the next loop run. -/
def State.vcMiss (s : State) (d : Nat) : State :=
  let s := (s.vcOverrun d).missArm (s.desc d).arm
  { s with ts := { s.ts with vcMissed := s.ts.vcMissed ++ [d] } }

/-- DEV_DEADLINE_VC passes (R31, R32): one overrun for each item that missed it. -/
def execDeadlineVcExpiry (s : State) : Host.Outcome State Fault Refusal :=
  if s.came .deadlineVc then
    let s := s.disarm .deadlineVc
    done (s.each s.vcLate State.vcMiss)
  else done s

/-- An own deadline has passed (R31, R32): the item that has not completed is an overrun. The table has no command for it, so it acts as TB0 reaches it (log entry 8). -/
def State.itemDeadlines (s : State) : State :=
  s.each (s.descs.filter (fun d => s.came (.itemDeadline (BitVec.ofNat 10 d)))) (fun s d =>
    (s.disarm (.itemDeadline (BitVec.ofNat 10 d))).vcOverrun d)

end Sys2Proof.Machine
end

