-- ==== Sys2Proof/Machine/Loops.lean ====
section
/-! DEFINITION. The joint-loop engine (R125 to R144, R468) and its deadlines (R31, R32). -/
namespace Sys2Proof.Machine

def ChanCfg.shift (c : ChanCfg) (i : Nat) : Int := (c.shifts.getD i 0).toInt
def ChanCfg.q1 (c : ChanCfg) (i : Nat) : Int := (c.bq1.getD i 0).toInt
def ChanCfg.q2 (c : ChanCfg) (i : Nat) : Int := (c.bq2.getD i 0).toInt

/-- Effective modes of LE_CHc_STAT (R126, R145). -/
def effOff : BitVec 3 := 0
def effTorque : BitVec 3 := 1
def effVelocity : BitVec 3 := 2
def effHold : BitVec 3 := 4
def effFollow : BitVec 3 := 5
def effTracking : BitVec 3 := 7

/-- Shift of LE_SPAN_RATE (R145); its mantissa is 0x7D00_0000 at every span length. -/
def State.rateShift (s : State) : Int := 15 - (min s.cfg.spanCode.toNat 5 : Nat)

def spanRate : Int := 0x7D000000

/-- Whether a set counts as ENABLED or STOPPING; the free set always does (R127, R131). -/
def State.setMoves (s : State) (a : Nat) : Bool :=
  a == 8 || Table.get .unused s.dev.armsAt a == .enabled || Table.get .unused s.dev.armsAt a == .stopping

def State.setEnabled (s : State) (a : Nat) : Bool := a == 8 || Table.get .unused s.dev.armsAt a == .enabled

/-- Whether path time advances (R131). -/
def State.cellMoves (c : CellState) : Bool := c == .run || c == .stopping

/-- The effective mode (R127), under the states at the span's instant. -/
def State.effMode (s : State) (c : ChanCfg) : BitVec 3 :=
  let a := c.arm.toNat
  if State.cellMoves s.dev.cellAt && s.setMoves a then BitVec.ofNat 3 c.mode.toNat
  else if s.dev.cellAt == .hold && s.setEnabled a then
    (if 2 ≤ c.mode.toNat then effHold else BitVec.ofNat 3 c.mode.toNat)
  else effTracking

/-- The scale as the engine takes it, a Q1.15 value (R131). -/
def takeScale (v : W16) : W16 := if v.toInt ≤ 0 then 0 else v

/-- p + s, with 0x7FFF as exactly 1.0 (R131). -/
def pathNext (p : W64) (v : W16) : W64 := if v = 0x7FFF then p + 0x100000000 else p + (v.setWidth 64 <<< 17)

/-- The scale as a coefficient: mantissa and shift (R133). -/
def scaleCoef (v : W16) : Int × Int := if v = 0x7FFF then (0x40000000, 1) else ((v.toNat * 65536 : Nat), 0)

/-- s² as a coefficient. -/
def scaleCoef2 (v : W16) : Int × Int :=
  if v = 0x7FFF then (0x40000000, 1) else (storeI ((scaleCoef v).1 * (scaleCoef v).1) 31 32, 0)

/-- s² in Q1.15 for LE_ARMa_SCALE, its bits below Q1.15 discarded (log entry 10). -/
def scaleSquare (v : W16) : W16 := if v = 0x7FFF then 0x7FFF else BitVec.ofInt 16 ((scaleCoef2 v).1 / 65536)

/-- The path time of a set at the start of a run (R131). -/
def State.advance (s : State) (a : Nat) : State :=
  let u := s.armSet a
  let moving := State.cellMoves s.dev.cellAt && s.setMoves a
  let raw := if a = 8 then 0x7FFF else u.scale
  let v := if moving then takeScale raw else 0
  let bad := if moving && decide (raw.toInt < 0) then inc u.badScale else u.badScale
  let p := if u.engage then 0 else if moving then pathNext u.ptime v else u.ptime
  let s := s.setArmSet a { u with
    ptime := p, frozen := !u.engage && !moving, s := v, s2 := scaleSquare v, badScale := bad, zeroRef := true }
  if u.engage then s.each (s.setChans a) (fun s c => s.setChan c { s.chan c with knotLast := 0xFFFFFFFF }) else s

/-- What the interpolation gives: position, velocity and acceleration, with the saturations of the reference and the velocity stages (R133, R137). -/
structure Ref where
  r : Int := 0
  v : Int := 0
  a : Int := 0
  satRef : Bool := false
  satVel : Bool := false
  underrun : Bool := false
  lost : Bool := false
  deriving DecidableEq, Repr

/-- Velocity and acceleration from H_t and H_tt (R133). -/
def refRates (rs : Int) (g : Nat) (v : W16) (ht htt : Int) : Ref :=
  let vp := (({} : Sat).add (ht * spanRate) (rs - (g : Int) - 15)).store 32 32
  let am := (({} : Sat).add (htt * spanRate) (rs - (g : Int) - 19)).store 28 48
  let ap := (({} : Sat).add (am.v * spanRate) (rs - (g : Int) - 3)).store 32 32
  let sc := scaleCoef v
  let s2 := scaleCoef2 v
  let vr := (({} : Sat).add (vp.v * sc.1) (1 + sc.2)).store 32 32
  let ar := (({} : Sat).add (ap.v * s2.1) (1 + s2.2)).store 32 32
  { v := vr.v, a := ar.v, satRef := am.sat || ap.sat || ar.sat, satVel := vp.sat || vr.sat }

/-- The fraction of a segment, Q1.31 (R133). -/
def segTau (p : W64) (g : Nat) : Int := ((p.toNat % 2 ^ (32 + g) / 2 ^ (g + 1) : Nat) : Int)

/-- The cubic of a segment (R133). -/
def hermite (rs : Int) (g : Nat) (v : W16) (p : W64) (k0 k1 : Knot) : Ref :=
  let tau := segTau p g
  let one : Int := 2147483648
  let t2 := storeI (tau * tau) 31 32
  let t3 := storeI (t2 * tau) 31 32
  let dx := clampSat 48 (k1.x.toInt - k0.x.toInt)
  let d0 := clampSat 48 k0.d.toInt
  let d1 := clampSat 48 k1.d.toInt
  let h := fun (x : Int) => storeI x 1 32
  let q := fun (x : Int) => storeI x 3 32
  let h01 := h (3 * t2 - 2 * t3)
  let h10 := h (t3 - 2 * t2 + tau)
  let h11 := h (t3 - t2)
  let g01 := h (6 * tau - 6 * t2)
  let g10 := h (3 * t2 - 4 * tau + one)
  let g11 := h (3 * t2 - 2 * tau)
  let q01 := q (6 * one - 12 * tau)
  let q10 := q (6 * tau - 4 * one)
  let q11 := q (6 * tau - 2 * one)
  let sum := fun (a b c : Int) => ((({} : Sat).add (a * dx.v) 0).add (b * d0.v) 0).add (c * d1.v) 0
  let rp := (sum h01 h10 h11).store 30 64
  let r := clampSat 64 (k0.x.toInt + rp.v)
  let ht := (sum g01 g10 g11).store 30 48
  let htt := (sum q01 q10 q11).store 32 48
  let w := refRates rs g v ht.v htt.v
  { w with r := r.v, satRef := w.satRef || dx.sat || d0.sat || d1.sat || rp.sat || r.sat || ht.sat || htt.sat }

def LeChan.knot (c : LeChan) (i : Nat) : Knot := Table.get {} c.knots (i % 4)

/-- The reference of a channel at its set's path time (R133, R134). -/
def reference (rs : Int) (g : Nat) (v : W16) (p : W64) (c : LeChan) : Ref :=
  let i := p.toNat / 2 ^ (32 + g)
  let d := (BitVec.ofNat 32 i - c.knotLast).toInt
  let last := c.knot c.knotLast.toNat
  let dl := clampSat 48 last.d.toInt
  if c.knotLast = 0xFFFFFFFF then { r := c.holdPos.toInt, underrun := true }
  else if d < -3 then { r := c.ref.toInt, lost := true }
  else if d < 0 then hermite rs g v p (c.knot i) (c.knot (i + 1))
  else if d = 0 then
    let t := (({} : Sat).add (segTau p g * dl.v) (-1)).store 30 64
    let r := clampSat 64 (last.x.toInt + t.v)
    let w := refRates rs g v dl.v 0
    { w with r := r.v, satRef := w.satRef || dl.sat || t.sat || r.sat, underrun := true }
  else
    let ahead : Int := (p - BitVec.ofNat 64 (c.knotLast.toNat * 2 ^ (32 + g))).toNat
    let r := clampSat 64 (last.x.toInt + roundShift (dl.v * ahead) (32 + g))
    let w := refRates rs g v dl.v 0
    { w with r := r.v, a := 0, satRef := w.satRef || dl.sat || r.sat, underrun := true }

/-- The reference of a follower (R135): from its leader's, first rounded to Q24.24. -/
def followRef (c : ChanCfg) (ldr : Ref) : Ref :=
  let ratio := c.ratio.toInt
  let sh := c.shift 6
  let x := clampSat 48 (roundShift ldr.r 16)
  let p := (({} : Sat).add (x.v * ratio) (1 + sh)).store 16 64
  let r := clampSat 64 (c.followOffset.toInt + p.v)
  let v := (({} : Sat).add (ldr.v * ratio) (1 + sh)).store 32 32
  let a := (({} : Sat).add (ldr.a * ratio) (1 + sh)).store 32 32
  { r := r.v, v := v.v, a := a.v, satRef := x.sat || p.sat || r.sat || a.sat, satVel := v.sat }

def followSkew (c : ChanCfg) (ldrX x : Int) : Sat :=
  let l := clampSat 48 (roundShift ldrX 16)
  let p := (({} : Sat).add (l.v * c.ratio.toInt) (1 + c.shift 6)).store 16 64
  let r := clampSat 48 (c.followOffset.toInt + p.v - x)
  { v := r.v, sat := l.sat || p.sat || r.sat }

/-- A biquad in direct form I (R140); `i` is its first coefficient in the shift table. -/
def biquad (q : Nat → Int) (sh : Nat → Int) (b : BqState) (x : Int) : Sat × BqState :=
  let a := (({} : Sat).add (q 0 * x) (1 + sh 0)).add (q 1 * b.x1.toInt) (1 + sh 1)
  let a := a.add (q 2 * b.x2.toInt) (1 + sh 2)
  let a := (a.sub (q 3 * b.y1.toInt) (1 + sh 3)).sub (q 4 * b.y2.toInt) (1 + sh 4)
  let y := a.store 32 32
  (y, { x1 := BitVec.ofInt 32 x, x2 := b.x1, y1 := BitVec.ofInt 32 y.v, y2 := b.y1 })

/-- What a channel's cascade leaves besides its state. -/
structure Cascade where
  chan : LeChan
  u : Int := 0
  ref : Ref := {}
  following : Bool := false
  deriving DecidableEq, Repr

def LeChan.mark (c : LeChan) (f : LeFlags → LeFlags) : LeChan := { c with flags := f c.flags }

/-- The cascade of R138 for VELOCITY, POSITION, HOLD and FOLLOW. -/
def cascade (k : ChanCfg) (c : LeChan) (eff : BitVec 3) (ref : Ref) (skew : Int) : Cascade :=
  let x := c.measured.x.toInt
  let ep := clampSat 48 (ref.r - x)
  let err := ref.r - x
  let pos := eff != effVelocity
  let fe := pos && decide (k.perrMax.toInt * 65536 < (if err < 0 then -err else err))
  let a0 : Sat := if pos then ({} : Sat).add (k.kp.toInt * ep.v) (k.shift 0 - 15) else {}
  let a1 := a0.add (k.kvff.toInt * ref.v) (1 + k.shift 1)
  let a2 := if eff = effFollow then a1.add (k.kc.toInt * skew) (k.shift 5 - 15) else a1
  let vs := a2.store 32 32
  let vc := clampInt (-k.vLim.toInt) k.vLim.toInt vs.v
  let ev := clampSat 32 (vc - c.measured.v.toInt)
  let is := ((({} : Sat).add c.integ.toInt 32).add (k.ki.toInt * ev.v) (8 + k.shift 3)).store 32 32
  let iv := clampInt k.iMin.toInt k.iMax.toInt is.v
  let u0 := ((((({} : Sat).add (k.kv.toInt * ev.v) (8 + k.shift 2)).add iv 32).add (k.ka.toInt * ref.a) (16 + k.shift 4)).add c.tff.toInt 32).store 32 32
  let r1 := if k.flags.getLsbD 1 then biquad k.q1 (fun i => k.shift (7 + i)) c.bq1 u0.v else ({ v := u0.v }, c.bq1)
  let r2 := if k.flags.getLsbD 2 then biquad k.q2 (fun i => k.shift (12 + i)) c.bq2 r1.1.v else ({ v := r1.1.v }, c.bq2)
  let f := c.flags
  { chan := { c with
      integ := BitVec.ofInt 32 iv, bq1 := r1.2, bq2 := r2.2
      flags := { f with
        followingError := f.followingError || fe
        vLimited := f.vLimited || vc != vs.v
        iClamped := f.iClamped || iv != is.v
        satVel := f.satVel || (pos && ep.sat) || vs.sat || ev.sat || ref.satVel
        satRef := f.satRef || ref.satRef
        satTorque := f.satTorque || is.sat || u0.sat || r1.1.sat || r2.1.sat } }
    u := r2.1.v, ref := ref, following := fe }

/-- Bits of the control and status words (R82, R83). -/
def ctlEnable : W16 := 1
def ctlReset : W16 := 0x10
def statusEnabled (w : W16) : Bool := w.getLsbD 1
def statusFault (w : W16) : Bool := w.getLsbD 3
def statusSto (w : W16) : Bool := w.getLsbD 7

/-- Whether R143 takes a channel into tracking. -/
def LeChan.driveOff (c : LeChan) : Bool :=
  statusFault c.measured.status || statusSto c.measured.status
    || (!statusEnabled c.measured.status && !statusEnabled c.statusPrev
      && (c.controls.getD 2 0).getLsbD 0 && (c.controls.getD 1 0).getLsbD 0)

/-- Bits of `excursions`: events 0x0701 to 0x0705 (R468). -/
def leEvent (i : Nat) : W16 := BitVec.ofNat 16 (0x0701 + i)

/-- What the channels of a run pass on: leaders' references, sets with an underrun (by their lowest channel) and the new excursions in order. -/
structure Run where
  s : State
  pub : List (Nat × Ref) := []
  tracked : List Nat := []
  under : List (Nat × Nat) := []
  raised : List (Nat × Nat) := []

def findRef : List (Nat × Ref) → Nat → Option Ref
  | [], _ => none
  | e :: t, c => if e.1 = c then some e.2 else findRef t c

/-- Writes a channel's set-point of the run with its control word and seq (R82, R141). -/
def LeChan.posts (c : LeChan) (eff : BitVec 3) (torque pos v : Int) (ctl : W16) (limited : Bool) : LeChan :=
  let seq := c.seq + 1
  let w := ctl ||| (if c.resetRequest then ctlReset else 0) ||| (seq.setWidth 16 <<< 12)
  { c with
    eff := eff, seq := seq, resetRequest := false
    post := { torque := BitVec.ofInt 32 torque, pos := BitVec.ofInt 64 pos, vff := BitVec.ofInt 32 v, control := w }
    controls := w :: c.controls.take 2, ref := BitVec.ofInt 64 pos, statusPrev := c.measured.status
    limited := if limited then inc c.limited else c.limited
    flags := { c.flags with torqueLimited := limited } }

/-- A channel that tracks (R127, R141). -/
def LeChan.tracks (c : LeChan) (off : Bool) : LeChan :=
  let c := { c with
    holdPos := c.measured.x, integ := c.iPreload, bq1 := {}, bq2 := {}
    flags := { c.flags with driveOff := off } }
  c.posts effTracking 0 c.measured.x.toInt 0 0 false

/-- The excursions of a channel as bits, and those that are new. -/
def Run.excurse (r : Run) (c : Nat) (i : Nat) (now : Bool) : Run :=
  let ch := r.s.chan c
  let was := ch.excursions.getLsbD i
  let r := { r with s := r.s.setChan c { ch with excursions := bitSet ch.excursions i now } }
  if now && !was then { r with raised := r.raised ++ [(c, i)] } else r

/-- R90's extrapolation by one span: the position moves by the velocity feedforward, the rest is held. -/
def SetPoint.extrapolated (p : SetPoint) (spanNs : Nat) : SetPoint :=
  { p with pos := bvS 64 (p.pos.toInt + roundDiv (p.vff.toInt * 65536 * (spanNs : Int)) 1000000000) }

/-- Whether items of an arm missed DEV_DEADLINE_VC in the span before (R32). -/
def State.missedVc (s : State) (a : Nat) : Bool := decide (a < 8) && s.dev.vcMissed.getLsbD a

/-- The reference of the run before, extrapolated by one span, for an arm whose items missed the deadline (R32, log entry 10). -/
def State.extrapolatedRef (s : State) (c : LeChan) : Ref :=
  { r := (c.post.extrapolated s.spanNs).pos.toInt, v := c.post.vff.toInt }

/-- The feedforward that a run uses: that of the run before for an arm whose items missed the deadline (R32). -/
def State.tffUsed (s : State) (a : Nat) (c : LeChan) : W32 := if s.missedVc a then c.tffPrev else c.tff

/-- A channel in a mode that runs (R138, R141, R142). -/
def Run.cascadeChan (r : Run) (c : Nat) (k : ChanCfg) (eff : BitVec 3) : Run :=
  let s := r.s
  let u := s.armSet k.arm.toNat
  let ch := s.chan c
  let x := ch.measured.x
  let ch := if eff = effHold && ch.eff ≠ effHold then
      { ch with holdPos := if ch.eff = effVelocity || ch.eff = 3 || ch.eff = effFollow then ch.ref else x }
    else ch
  let follows := k.mode.toNat = 5
  let ldr := (findRef r.pub k.leader.toNat).getD {}
  let sk : Sat := if follows then followSkew k (s.chan k.leader.toNat).measured.x.toInt x.toInt else {}
  let g := if u.source then 0 else (Table.get {} s.cfg.sets k.arm.toNat).knotLog2.toNat
  let ref : Ref := if eff = effHold then { r := ch.holdPos.toInt }
    else if follows then followRef k ldr
    else if s.missedVc k.arm.toNat then s.extrapolatedRef ch
    else reference s.rateShift g u.s u.ptime ch
  let o := cascade k { ch with tff := s.tffUsed k.arm.toNat ch } eff ref sk.v
  let skewed := follows && decide (k.skewMax.toInt * 65536 < (if sk.v < 0 then -sk.v else sk.v))
  let t := clampInt k.tqMin.toInt k.tqMax.toInt o.u
  let ch := { o.chan with tff := ch.tff }.mark (fun f => { f with skew := f.skew || skewed, satRef := f.satRef || sk.sat, driveOff := false })
  let ctl : W16 := if eff = effVelocity then 3 else 3 ||| (if k.flags.getLsbD 0 then 4 else 0)
  let ch := ch.posts eff t ref.r ref.v ctl (t != o.u)
  let s := s.setChan c ch
  let z := s.armSet k.arm.toNat
  let s := s.setArmSet k.arm.toNat { z with
    zeroRef := z.zeroRef && decide (ref.v = 0) && decide (ref.a = 0)
    lostKnots := if ref.lost then inc z.lostKnots else z.lostKnots }
  let r := { r with
    s := s, pub := (c, ref) :: r.pub
    under := if ref.underrun && !r.under.any (fun e => e.1 == k.arm.toNat) then r.under ++ [(k.arm.toNat, c)] else r.under }
  ((r.excurse c 1 ref.lost).excurse c 2 o.following).excurse c 3 skewed

/-- A channel of a run: tracking by the states of R127, by its own drive (R143), or because its leader tracks (R135). -/
def Run.chan (r : Run) (c : Nat) : Run :=
  let s := r.s
  let k := s.chanCfg c
  if !k.used then r
  else
    let ch := s.chan c
    let ch := { ch with extrap := if ch.measured.status.getLsbD 6 then inc ch.extrap else ch.extrap }
    let s := s.setChan c ch
    let r := { r with s := s }
    let e1 := s.effMode k
    let idle := { r with s := s.setChan c { (s.chan c).tracks false with excursions := 0 }, tracked := c :: r.tracked }
    if e1 = effTracking then idle
    else if ch.driveOff then
      let t := (s.chan c).tracks true
      let t := { t with excursions := bitSet 0 4 (t.excursions.getLsbD 4) }
      let r := { r with s := s.setChan c t, tracked := c :: r.tracked }
      r.excurse c 4 true
    else if k.mode.toNat = 5 && r.tracked.contains k.leader.toNat then idle
    else
      let r := r.excurse c 4 false
      if e1 = effOff then
        let ch := (r.s.chan c).mark (fun f => { f with driveOff := false })
        { r with s := r.s.setChan c (ch.posts effOff 0 ch.measured.x.toInt 0 0 false) }
      else if e1 = effTorque then
        let ch := (r.s.chan c).mark (fun f => { f with driveOff := false })
        let f := r.s.tffUsed k.arm.toNat ch
        let t := clampInt k.tqMin.toInt k.tqMax.toInt f.toInt
        { r with s := r.s.setChan c (ch.posts effTorque t ch.measured.x.toInt 0 3 (t != f.toInt)) }
      else r.cascadeChan c k e1

/-- An event of R468: channel, set and its reaction; the reactions that R134 and R135 prescribe outright. -/
def State.leExcursion (s : State) (c i : Nat) : State :=
  let a := (s.chanCfg c).arm.toNat
  let code := leEvent i
  let s := s.raise { code := code, source := srcLe, data := BitVec.ofNat 32 (c + 256 * a), arm := some a }
  if i = 1 then s.prescribedStop a code
  else if i = 3 then
    let l := (s.chanCfg (s.chanCfg c).leader.toNat).arm.toNat
    (s.prescribedStop a code).prescribedStop l code
  else s

/-- Underrun limit of a set: 2 where the catalogue gives none (R134). -/
def State.underrunLimit (s : State) (a : Nat) : Nat :=
  let l := (Table.get {} s.cfg.sets a).underrunLimit.toNat
  if l = 0 then 2 else l

/-- The underrun runs of the sets (R134). The event names the lowest channel with an underrun. -/
def Run.underruns (r : Run) : State :=
  r.s.each sets9 (fun s a =>
    let u := s.armSet a
    match r.under.find? (fun e => e.1 == a) with
    | none => s.setArmSet a { u with run := 0 }
    | some e =>
      let s := s.setArmSet a { u with run := u.run + 1, underruns := inc u.underruns }
      if u.run + 1 = s.underrunLimit a then
        (s.leExcursion e.2 0).prescribedStop a (leEvent 0)
      else s)

/-- LE overrun (R32): one event per set with a late channel, the overrun counted once. -/
def State.leOverrun (s : State) (late : List Nat) : State :=
  if late.isEmpty then s
  else
    let s := { s with dev := { s.dev with le := { s.dev.le with overruns := inc s.dev.le.overruns } } }
    s.each sets9 (fun s a =>
      let n := (late.filter (fun c => (s.chanCfg c).arm.toNat == a)).length
      if n = 0 then s
      else s.raise { code := 0x0102, source := srcLe, data := BitVec.ofNat 32 (0xFF + 256 * a + 65536 * n), arm := some a })

/-- Whether the engine's run of the span can start (R28): no drive ring that carries its cycle still awaits its gather deck. -/
def State.leReady (s : State) : Bool :=
  !s.le.ran && (rings14.filter driveRing).all (fun r => !(s.leads r || s.shadows r) || (s.ring r).gatherDone)

/-- Whether a channel had completed at a TB0 instant by its stamp (R31). -/
def State.chanDone (s : State) (c instant : Nat) : Bool := s.le.ran && decide (s.le.ends.getD c 0 ≤ instant * 8)

/-- The completion stamps of channels 0 to 71 from the stamp of the start and what each takes, in 125 ps (R31, R144). -/
def endStamps (start : Nat) (took : List Nat) : List Nat := chans72.map (fun c => start + (took.take (c + 1)).foldl (· + ·) 0)

/-- LE_STAT.done and LE_STAT.busy (R145) by the stamps: the channels completed in the current or last run. -/
def State.leDone (s : State) : Nat := (s.le.ends.filter (fun t => decide (t ≤ s.stamp125))).length

def State.leBusy (s : State) : Bool := decide (s.leDone < s.le.ends.length)

def State.usedChans (s : State) : List Nat := chans72.filter (fun c => (s.chanCfg c).used)

/-- The stamp of a run's last used channel. -/
def State.lastEnd (s : State) : Nat := s.usedChans.foldl (fun m c => max m (s.le.ends.getD c 0)) (s.le.ends.headD 0)

/-- The run is complete: its LE rows fire (R336). -/
def State.leComplete (s : State) : State :=
  if s.came .leComplete then
    (s.disarm .leComplete).fireLe 72 (s.usedChans.any (fun c => decide (s.le.due * 8 < s.le.ends.getD c 0)))
  else s

/-- The times of channels 0 to 71 from those of the joints and of the axes, 0 where a list ends. -/
def runTimes (joints axes : List Nat) : List Nat := (upto 64).map (fun c => joints.getD c 0) ++ axes

/-- A run of the engine (R130, R144): path times first, then channels 0 to 71. `joints` and `axes` give what each channel takes, in 125 ps: the completion stamps by which R31 judges it. -/
def execLeRun (joints axes : List Nat) (s : State) : Host.Outcome State Fault Refusal :=
  if !s.leReady then done s
  else
    let s := s.each sets9 State.advance
    let r := chans72.foldl Run.chan { s := s }
    let s := r.underruns
    let s := s.each sets9 (fun s a =>
      let u := s.armSet a
      let g := if u.source then 0 else (Table.get {} s.cfg.sets a).knotLog2.toNat
      s.setArmSet a { u with iSeg := BitVec.ofNat 32 (u.ptime.toNat / 2 ^ (32 + g)) })
    let s := r.raised.foldl (fun s e => s.leExcursion e.1 e.2) s
    let s := { s with le := { s.le with
      ran := true, ends := endStamps s.stamp125 (runTimes joints axes), due := s.spanStart + s.cfg.deadlineLe.toNat } }
    let s := s.each s.usedChans (fun s c => let ch := s.chan c; s.setChan c { ch with tffPrev := s.tffUsed (s.chanCfg c).arm.toNat ch })
    let last := s.lastEnd
    let s := { s with dev := { s.dev with
      vcMissed := 0, le := s.dev.le.complete (last / 8 / s.spanNs) (slackAt s.le.due last) } }
    done (s.arm0 ((last + 7) / 8) .leComplete).leComplete

/-- DEV_DEADLINE_LE passes (R31, R32): an LE overrun for the channels whose stamps lie after it, or that the run has not reached. -/
def execDeadlineLeExpiry (s : State) : Host.Outcome State Fault Refusal :=
  if s.came .deadlineLe then
    let t := (s.instantOf .deadlineLe).getD 0
    let s := s.disarm .deadlineLe
    done (s.leOverrun (s.usedChans.filter (fun c => !s.chanDone c t)))
  else done s

/-- The octets of a joint record that the fabric may write: runtime and profile fields (R128, R129). -/
def recordWritable (o : Nat) : Bool := decide (0x90 ≤ o) && decide (o < 0xDC)

/-- The joint record of a channel as octets (R128). -/
def State.leRecord (s : State) (c : Nat) : Octets :=
  let k := s.chanCfg c
  let ch := s.chan c
  let w4 := fun (x : W32) => leBytes 4 x.toNat
  let w8 := fun (x : W64) => leBytes 8 x.toNat
  let five := fun (l : List W32) => (upto 5).flatMap (fun i => w4 (l.getD i 0))
  [k.mode, k.arm, k.ring, k.leader] ++ leBytes 2 k.gatherOff.toNat ++ leBytes 2 k.deliverOff.toNat ++ [k.flags, 0, 0, 0]
    ++ w4 k.kp ++ w4 k.kvff ++ w4 k.kv ++ w4 k.ki ++ w4 k.ka ++ w4 k.kc ++ w4 k.ratio ++ five k.bq1 ++ five k.bq2
    ++ (upto 17).map (fun i => k.shifts.getD i 0) ++ [0, 0, 0]
    ++ w4 k.vLim ++ w4 k.iMin ++ w4 k.iMax ++ w4 k.tqMin ++ w4 k.tqMax ++ w4 k.perrMax ++ w4 k.skewMax ++ w8 k.followOffset
    ++ w8 ch.holdPos ++ w4 ch.tff ++ w4 ch.iPreload ++ w4 ch.knotLast
    ++ (upto 4).flatMap (fun i => w8 (ch.knot i).x ++ w8 (ch.knot i).d)
    ++ w4 ch.integ ++ w4 ch.bq1.x1 ++ w4 ch.bq1.x2 ++ w4 ch.bq1.y1 ++ w4 ch.bq1.y2
    ++ w4 ch.bq2.x1 ++ w4 ch.bq2.x2 ++ w4 ch.bq2.y1 ++ w4 ch.bq2.y2

/-- Takes the runtime and profile fields back from the octets of a record. -/
def LeChan.fromRecord (c : LeChan) (o : Octets) : LeChan :=
  { c with
    tff := u32 o 0x90, iPreload := u32 o 0x94, knotLast := u32 o 0x98
    knots := (upto 4).foldl (fun t i => Table.put {} t i { x := u64 o (0x9C + 16 * i), d := u64 o (0xA4 + 16 * i) }) c.knots }

/-- A fabric write to a joint record (R129): octets that are not runtime or profile fields keep their values, and the write is counted. The host writes none. -/
def State.recordWrite (s : State) (by_ : Requester) (c o : Nat) (w : Octets) : State :=
  if by_ = .host then s.hostRefused
  else
    let places := (upto w.length).map (o + ·)
    let good := places.filter (fun i => recordWritable i && decide (i < 256))
    let rec_ := good.foldl (fun r i => spliceO r i [w.getD (i - o) 0]) (s.leRecord c)
    let s := s.setChan c ((s.chan c).fromRecord rec_)
    if good.length = places.length then s else { s with le := { s.le with refused := inc s.le.refused } }

def execLeRecordWrite (by_ : Requester) (c : BitVec 7) (offset : BitVec 8) (octets : Octets) (s : State) :
    Host.Outcome State Fault Refusal :=
  if c.toNat < 72 then done (s.recordWrite by_ c.toNat offset.toNat octets) else done s

/-- A read of LE_ARMa_PTIME_LO latches PTIME_HI (R145). -/
def State.readPtimeLo (s : State) (by_ : Requester) (a : Nat) : State :=
  s.latch by_ (latchPtime a) ((s.armSet a).ptime.extractLsb' 32 32)

def execLeArmPtimeLoRead (by_ : Requester) (a : BitVec 4) (s : State) : Host.Outcome State Fault Refusal :=
  if a.toNat < 9 then done ((s.readPtimeLo by_ a.toNat).returned ((s.armSet a.toNat).ptime.setWidth 32)) else done s

end Sys2Proof.Machine
end

