-- ==== Sys2Proof/Machine/Planner.lean ====
section
/-! DEFINITION. Jerk-limited plans in fixed point (R180 to R185, R192). Quantities are Q32.64 per span, times Q32.32 spans. -/
namespace Sys2Proof.Machine

def one64 : Int := 18446744073709551616

def sat96 (x : Int) : Int := satS 96 x

/-- A rounded quotient whose divisor may be negative; 0 for a divisor of 0. -/
def divRound (n d : Int) : Int := if d < 0 then roundDiv (-n) (-d) else roundDiv n d

/-- Products and quotients of values that are held to 96 bits, and so held themselves (R185). -/
def mulQ (a b : Int) : Int := sat96 (roundShift (sat96 a * sat96 b) 64)
def divQ (a b : Int) : Int := sat96 (divRound (sat96 a * one64) (sat96 b))

/-- Square root of a Q32.64 value, truncated. -/
def sqrtQ (a : Int) : Int := if a ≤ 0 then 0 else (isqrt 80 ((sat96 a).toNat * 18446744073709551616) : Int)

/-- A time held in Q32.32 (R185). -/
def heldTime (t : Int) : Nat := min t.toNat 18446744073709551615

/-- A duration: a quotient rounded half up to Q32.32, at least 0. -/
def durQ (a b : Int) : Nat := heldTime (divRound (sat96 a * 4294967296) (sat96 b))

/-- The motion `t` (Q32.32) into a phase of jerk `j` (R181). -/
def Motion.after (m : Motion) (j : Int) (t : Nat) : Motion :=
  let t : Int := t
  { x := sat96 (m.x + roundShift (m.v * t) 32 + roundShift (m.a * t * t) 65 + roundDiv (j * t * t * t) 475368975085586025561263702016)
    v := sat96 (m.v + roundShift (m.a * t) 32 + roundShift (j * t * t) 65)
    a := sat96 (m.a + roundShift (j * t) 32) }

/-- The motion at a time from the start of a list of phases; none past the end. -/
def phasesAt (m : Motion) : List Phase → Nat → Option Motion
  | [], _ => none
  | p :: l, t => if t < p.t then some (m.after p.j t) else phasesAt (m.after p.j p.t) l (t - p.t)

def phasesEnd (m : Motion) : List Phase → Motion
  | [] => m
  | p :: l => phasesEnd (m.after p.j p.t) l

def phasesLength : List Phase → Nat
  | [] => 0
  | p :: l => p.t + phasesLength l

/-- The limits of a plan in units per span: caps on gaining and losing speed, and the jerk. -/
structure Caps where
  up : Int := 0
  down : Int := 0
  j : Int := 0
  deriving DecidableEq, Repr

/-- v0 + a0·|a0|/(2j) (R182). -/
def reachV (v0 a0 j : Int) : Int := sat96 (v0 + divQ (mulQ a0 (if a0 < 0 then -a0 else a0)) (2 * j))

/-- Phases 1 to 3 from (v0, a0) to v_p (R182), in normalised signs. -/
def phases13 (v0 a0 vp : Int) (c : Caps) : List Phase :=
  let j := c.j
  let sq := mulQ a0 a0
  if reachV v0 a0 j ≤ vp then
    if c.up < a0 then
      let ap := c.up
      [{ j := -j, t := durQ (a0 - ap) j }, { j := 0, t := durQ (vp - v0 - divQ sq (2 * j)) ap }, { j := -j, t := durQ ap j }]
    else
      let ap := min c.up (sqrtQ (mulQ j (vp - v0) + roundShift sq 1))
      [{ j := j, t := durQ (ap - a0) j }, { j := 0, t := durQ (vp - v0 - divQ (2 * mulQ ap ap - sq) (2 * j)) ap },
       { j := -j, t := durQ ap j }]
  else
    if a0 < -c.down then
      let ap := c.down
      [{ j := j, t := durQ (-a0 - ap) j }, { j := 0, t := durQ (v0 - vp - divQ sq (2 * j)) ap }, { j := j, t := durQ ap j }]
    else
      let ap := min c.down (sqrtQ (mulQ j (v0 - vp) + roundShift sq 1))
      [{ j := -j, t := durQ (ap + a0) j }, { j := 0, t := durQ (v0 - vp - divQ (2 * mulQ ap ap - sq) (2 * j)) ap },
       { j := j, t := durQ ap j }]

/-- Peak deceleration of phases 5 to 7 from v_p. -/
def peakDown (vp : Int) (c : Caps) : Int := min c.down (sqrtQ (mulQ c.j vp))

def phases57 (vp : Int) (c : Caps) : List Phase :=
  let aq := peakDown vp c
  let t5 := durQ aq c.j
  [{ j := -c.j, t := t5 }, { j := 0, t := heldTime (roundShift (sat96 (divQ vp aq - divQ aq c.j)) 32) }, { j := c.j, t := t5 }]

/-- D57 (R182). -/
def dist57 (vp : Int) (c : Caps) : Int :=
  let aq := peakDown vp c
  if aq = 0 then 0 else roundShift (mulQ vp (divQ vp aq + divQ aq c.j)) 1

/-- D13 (R183). -/
def dist13 (v0 a0 vp : Int) (c : Caps) : Int := (phasesEnd { v := v0, a := a0 } (phases13 v0 a0 vp c)).x

/-- v_max × k × 2^-24 (R183). -/
def gridV (vMax : Int) (k : Nat) : Int := roundShift (vMax * (k : Int)) 24

/-- The greatest of 2^n numbers from k on for which `fits` holds, where it holds up to one of them and of none above: by bisection (R183). -/
def bisect (fits : Nat → Bool) : Nat → Nat → Nat
  | 0, k => k
  | n + 1, k => bisect fits n (if fits (k + 2 ^ n) then k + 2 ^ n else k)

/-- The least k whose grid speed is not below `v`, 2^24 + 1 where there is none. -/
def gridFrom (vMax v : Int) : Nat :=
  let low := fun k => decide (gridV vMax k < v)
  if !low 0 then 0 else if low 16777216 then 16777217 else bisect low 24 0 + 1

/-- The greatest k of R183 that fits. From v_r on the distance grows with the speed, below v_r it grows and then falls: where v_r fits the greatest lies from there on, and elsewhere below it. -/
def largestFit (fits : Nat → Bool) (kr : Nat) : Nat :=
  if fits 16777216 then 16777216
  else if kr ≤ 16777216 && fits kr then bisect (fun k => decide (k ≤ kr) || fits k) 24 0
  else bisect (fun k => decide (k < kr) && fits k) 24 0

/-- The phases of a position plan over a distance `d` ≥ 0 (R183). -/
def positionPhases (v0 a0 d vMax : Int) (c : Caps) : List Phase :=
  let fits := fun k => decide (sat96 (dist13 v0 a0 (gridV vMax k) c + dist57 (gridV vMax k) c) ≤ d)
  let k := largestFit fits (gridFrom vMax (reachV v0 a0 c.j))
  if k = 0 then []
  else
    let vp := gridV vMax k
    let t4 := durQ (d - dist13 v0 a0 vp c - dist57 vp c) vp
    phases13 v0 a0 vp c ++ [{ j := 0, t := t4 }] ++ phases57 vp c

/-- The braking leg in the old direction of motion (R184): to rest by the second row, or to the instant the velocity reaches 0. -/
def brakeLeg (v0 a0 : Int) (c : Caps) : List Phase :=
  if a0 < 0 ∧ v0 ≤ divQ (mulQ a0 a0) (2 * c.j) then
    [{ j := c.j, t := durQ (-a0 - sqrtQ (mulQ a0 a0 - 2 * mulQ c.j v0)) c.j }]
  else phases13 v0 a0 0 { c with up := c.down }

/-- Braking distance s_b of a normalised state (R182). -/
def brakeDistance (v0 a0 : Int) (c : Caps) : Int := (phasesEnd { v := v0, a := a0 } (brakeLeg v0 a0 c)).x

def signed (sg : Int) (l : List Phase) : List Phase := l.map (fun p => { p with j := sg * p.j })

/-- Sign of the old direction of motion. -/
def motionSign (m : Motion) : Int := if m.v < 0 ∨ (m.v = 0 ∧ m.a < 0) then -1 else 1

/-- Where a leg that brakes to rest leaves: at rest, but for a leg that ends where the velocity reaches 0. -/
def legEnd (m : Motion) (v0 a0 : Int) (c : Caps) (leg : List Phase) : Motion :=
  let e := phasesEnd m leg
  if a0 < 0 ∧ v0 ≤ divQ (mulQ a0 a0) (2 * c.j) then { e with v := 0 } else { e with v := 0, a := 0 }

/-- A position plan (R183, R184). -/
def planPosition (origin : W64) (m : Motion) (target vMax : Int) (c : Caps) : Plan :=
  let sg : Int := if target < m.x then -1 else 1
  let v0 := sg * m.v
  let a0 := sg * m.a
  let d := sg * (target - m.x)
  let final : Motion := { x := target }
  if v0 < 0 ∨ (v0 = 0 ∧ a0 < 0) ∨ d < brakeDistance v0 a0 c then
    let so := motionSign m
    let leg := signed so (brakeLeg (so * m.v) (so * m.a) c)
    let e := legEnd m (so * m.v) (so * m.a) c leg
    let s2 : Int := if target < e.x then -1 else 1
    { kind := .position, reversal := true, origin := origin, start := m, final := final
      phases := leg ++ signed s2 (positionPhases 0 (s2 * e.a) (s2 * (target - e.x)) vMax c) }
  else
    { kind := .position, origin := origin, start := m, final := final
      phases := signed sg (positionPhases v0 a0 d vMax c) }

/-- A velocity plan (R183, R184): it holds its velocity after phase 3. -/
def planVelocity (origin : W64) (m : Motion) (vt : Int) (c : Caps) : Plan :=
  let sg : Int := if vt < 0 then -1 else if vt = 0 then motionSign m else 1
  let v0 := sg * m.v
  let a0 := sg * m.a
  if v0 < 0 ∨ (v0 = 0 ∧ a0 < 0) then
    let so := motionSign m
    let leg := signed so (brakeLeg (so * m.v) (so * m.a) c)
    let e := legEnd m (so * m.v) (so * m.a) c leg
    let l := leg ++ signed sg (phases13 0 (sg * e.a) (sg * vt) c)
    { kind := .velocity, reversal := true, origin := origin, start := m, phases := l
      final := { phasesEnd m l with v := vt, a := 0 } }
  else
    let l := signed sg (phases13 v0 a0 (sg * vt) c)
    { kind := .velocity, origin := origin, start := m, phases := l, final := { phasesEnd m l with v := vt, a := 0 } }

/-- A stop plan (R182, R193): both rows under d_stop and j_stop. -/
def planStop (origin : W64) (m : Motion) (dStop jStop : Int) : Plan :=
  let so := motionSign m
  let l := signed so (phases13 (so * m.v) (so * m.a) 0 { up := dStop, down := dStop, j := jStop })
  { kind := .stop, origin := origin, start := m, phases := l, final := { x := (phasesEnd m l).x } }

/-- A plan that holds a position. -/
def planHold (kind : PlanKind) (origin : W64) (x : Int) : Plan :=
  { kind := kind, origin := origin, start := { x := x }, final := { x := x } }

/-- Path time since a plan's origin. Only in the 256 spans before it does a difference count as one before the origin: a plan may have ended long ago. -/
def Plan.since (p : Plan) (at_ : W64) : Int :=
  let d := (at_ - p.origin).toNat
  if 18446742974197923840 ≤ d then (d : Int) - 18446744073709551616 else d

/-- Plan time at a path time: the time from the origin, stretched under R192. -/
def Plan.time (p : Plan) (at_ : W64) : Int :=
  if p.stretch = one64 then p.since at_ else roundShift (p.stretch * p.since at_) 64

/-- A motion under the stretch of R192. -/
def Motion.stretched (m : Motion) (l : Int) : Motion :=
  if l = one64 then m else { m with v := roundShift (m.v * l) 64, a := roundShift (roundShift (m.a * l) 64 * l) 64 }

/-- The motion of a plan at a path time (R187). -/
def Plan.motion (p : Plan) (at_ : W64) : Motion :=
  let t := p.time at_
  if t < 0 then { x := p.start.x }
  else match phasesAt p.start p.phases t.toNat with
    | some m => m.stretched p.stretch
    | none =>
      if p.final.v = 0 then p.final
      else ({ p.final with x := sat96 (p.final.x + roundShift (p.final.v * (t - phasesLength p.phases)) 32) } : Motion).stretched p.stretch

/-- A plan that ended long before a path time goes on from an origin 16 spans before it, so that path time's wrap does not reach it (R131, R187). -/
def Plan.renewed (p : Plan) (at_ : W64) : Plan :=
  let o := at_ - 68719476736
  if 9223372036854775808 ≤ p.since at_ ∧ (phasesLength p.phases : Int) ≤ p.time o then
    let m := p.motion o
    { p with origin := o, start := m, phases := [], final := m, stretch := one64 }
  else p

/-- Whether a plan has reached zero velocity and acceleration (R194). -/
def Plan.atRest (p : Plan) (at_ : W64) : Bool :=
  p.final.v == 0 && decide ((phasesLength p.phases : Int) ≤ p.time at_ || p.phases.isEmpty)

end Sys2Proof.Machine
end

