-- ==== Sys2Proof/Machine/Profile.lean ====
section
/-! DEFINITION. Profile channels: targets, start groups, stops, limit inputs, hand-over and the generator run (R178 to R198). -/
namespace Sys2Proof.Machine

/-- A Q8.24 velocity, a Q16.16 acceleration and a Q24.8 jerk in units per span (R185). -/
def State.perSpanV (s : State) (v : Int) : Int := sat96 (roundDiv (v * 1099511627776 * (s.spanNs : Int)) 1000000000)
def State.perSpanA (s : State) (a : Int) : Int := sat96 (roundDiv (a * 281474976710656 * ((s.spanNs ^ 2 : Nat) : Int)) 1000000000000000000)
def State.perSpanJ (s : State) (j : Int) : Int := sat96 (roundDiv (j * 72057594037927936 * ((s.spanNs ^ 3 : Nat) : Int)) 1000000000000000000000000000)

def State.vMax (s : State) (c : Nat) : Int := s.perSpanV (s.profCfg c).vMax.toNat
def State.motionCaps (s : State) (c : Nat) : Caps :=
  let k := s.profCfg c
  { up := s.perSpanA k.aMax.toNat, down := s.perSpanA k.dMax.toNat, j := s.perSpanJ k.jMax.toNat }

/-- The set of a profile channel: that of the loop channel it serves (R178). -/
def State.setOf (s : State) (c : Nat) : Nat := (s.chanCfg c).arm.toNat

/-- Path time at which the plans of a set stand: p(k + 1) of the last run. -/
def State.pathTime (s : State) (a : Nat) : W64 := (s.armSet a).ptime

def State.planRest (s : State) (c : Nat) : Bool := (s.prof c).plan.atRest (s.pathTime (s.setOf c))

/-- Whether an arm is at rest (R194). The scale posted in two spans is that of Warden and the one taken at the last span instant. -/
def State.armRest (s : State) (a : Nat) : Bool :=
  (if (s.armSet a).source then (s.profChans a).all s.planRest else (s.armSet a).zeroRef)
    || (a != 8 && takeScale (s.warm a).scale == 0 && takeScale (s.armSet a).scale == 0)

/-- The field-input image in use: a standby takes the active unit's (R381). -/
def State.inputImage (s : State) : BitVec 48 :=
  match s.red.role, s.red.fieldImage with
  | .standby, some i => i
  | _, _ => s.dio.inputs

/-- The level of a limit input (R195); 0x3F is none. -/
def State.limitInput (s : State) (pin : BitVec 6) : Bool := pin != 0x3F && s.inputImage.getLsbD pin.toNat

/-- An active stall of an auxiliary channel with a limit reaction refuses motion in both directions (R282). -/
def State.stalled (s : State) (c : Nat) : Bool := decide (64 ≤ c) && (s.axm (c - 64)).fb.active

/-- Whether a target moves towards an active limit input or an active stall (R195, R282). -/
def State.limitHit (s : State) (c : Nat) (t : Target) : Bool :=
  let k := s.profCfg c
  let x := ((s.prof c).plan.motion (s.pathTime (s.setOf c))).x
  let dir : Int := match t with
    | .position p => p.toInt * 16777216 - x
    | .velocity v => v.toInt
  s.stalled c || (decide (0 < dir) && s.limitInput k.limitPos) || (decide (dir < 0) && s.limitInput k.limitNeg)

def State.refuse (s : State) (c n : Nat) : State := s.setProf c { s.prof c with refused := satAdd (s.prof c).refused n }

/-- The velocity target of VTGT, bounded to ±v_max (R199). -/
def State.vtarget (s : State) (c : Nat) : W32 :=
  let m : Int := (s.profCfg c).vMax.toNat
  BitVec.ofInt 32 (clampInt (-m) m (s.prof c).vtgt.toInt)

/-- PG_CHc_CMD with go: takes the target of the channel's registers (R188, R190). -/
def State.takeTarget (s : State) (c : Nat) : State :=
  let p := s.prof c
  let t : Target := if p.kind then .velocity (s.vtarget c) else .position p.tgt
  if !(s.profCfg c).enabled then s.refuse c 1
  else if p.grouped then s.setProf c { p with waiting := some (p.group, t), given := true }
  else s.setProf c { p with target := some t, superseded := if p.target.isSome then inc p.superseded else p.superseded }

/-- The fields of a write of PG_CHc_CMD. -/
def State.cmdFields (s : State) (c : Nat) (kind grouped : Bool) (group : BitVec 4) : State :=
  s.setProf c { s.prof c with kind := kind, grouped := grouped, group := group }

/-- A write of PG_CHc_CMD (R188, R199). -/
def State.pgCmd (s : State) (c : Nat) (v : W32) : State :=
  let s := s.cmdFields c (v.getLsbD 30) (v.getLsbD 29) (v.setWidth 4)
  if v.getLsbD 31 then s.takeTarget c else s

/-- A write of PG_CHc_CMD with go (R188); the host writes no PG register (R199, R341). -/
def execPgChCmdGo (by_ : Requester) (c : BitVec 7) (value : W32) (s : State) : Host.Outcome State Fault Refusal :=
  if by_ = .host then done s.hostRefused
  else if c.toNat < 72 then done (s.pgCmd c.toNat (value ||| 0x80000000)) else done s

/-- PG_TARGET on the state it acts on (R188, R195). -/
def State.pgTarget (params : BitVec 448) (s : State) : State × Answer :=
  let c := param params 0 1
  let kind := (param params 1 1) % 2 = 1
  let grouped := (param params 1 1) / 2 % 2 = 1
  let s1 := s.cmdFields c kind grouped (BitVec.ofNat 4 (param params 2 1))
  let s1 := if kind then s1.setProf c { s1.prof c with vtgt := BitVec.ofNat 32 (param params 8 4) }
    else s1.setProf c { s1.prof c with tgt := BitVec.ofNat 64 (param params 8 8) }
  let t : Target := if kind then .velocity (s1.vtarget c) else .position (s1.prof c).tgt
  if !(s.armSet (s.setOf c)).source then (s, { status := stWrongState })
  else if s.limitHit c t then (s.refuse c 1, { status := stLimitActive })
  else (s1.takeTarget c, {})

/-- Whether the octets of PG_TARGET are in range (R188, R350, R353). -/
def State.pgTargetGood (s : State) (p : BitVec 448) : Bool :=
  let c := param p 0 1
  let f := param p 1 1
  unusedZero p [(0, 1), (1, 1), (2, 1), (8, if f % 2 = 1 then 4 else 8)] && decide (f < 4) && decide (param p 2 1 < 16)
    && decide (c < 72) && (s.profCfg c).enabled

def execPgTarget (p : Packet) (s : State) : Host.Outcome State Fault Refusal :=
  done (serve s p 0x0301 (s.pgTargetGood p.params) [] fun s => replicate s 0x0301 p.params [] 0 (State.pgTarget p.params))

/-- The members of a start group: the channels that wait in it (R190). -/
def State.members (s : State) (g : Nat) : List Nat :=
  chans72.filter (fun c => match (s.prof c).waiting with | some w => w.1.toNat == g | none => false)

def groupsOf (m : W16) : List Nat := (upto 16).filter (fun g => m.getLsbD g)

/-- Whether the target that waits for a channel lies beyond an active limit input (R190, R195). -/
def State.waitsAtLimit (s : State) (c : Nat) : Bool := match (s.prof c).waiting with | some w => s.limitHit c w.2 | none => false

/-- Why the start of groups is refused as a whole, if it is (R190). -/
def State.startStatus (s : State) (m : W16) : W16 :=
  let cs := (groupsOf m).flatMap s.members
  let set := fun c => s.dev.cell == .run && (s.armSet (s.setOf c)).source && (s.setOf c == 8 || s.arm (s.setOf c) == .enabled)
  if cs.any (fun c => !s.planRest c) then stNotAtRest
  else if cs.any (fun c => !set c) then stWrongState
  else if cs.any s.waitsAtLimit then stLimitActive
  else stOk

/-- A write of PG_GROUP_GO (R190 to R192). -/
def State.groupGo (start sync : W16) (s : State) : State × Answer :=
  let st := s.startStatus start
  if st = stOk then
    let empty := ((groupsOf start).filter (fun g => (s.members g).isEmpty)).length
    ({ s with pg := { s.pg with emptyStarts := satAdd s.pg.emptyStarts empty, starts := s.pg.starts ++ [(start, sync)] } }, {})
  else if st = stLimitActive then (s.each ((groupsOf start).flatMap s.members) (fun t c => if s.waitsAtLimit c then t.refuse c 1 else t), { status := st })
  else (s, { status := st })

def execPgGroupGo (by_ : Requester) (value : W32) (s : State) : Host.Outcome State Fault Refusal :=
  if by_ = .host then done s.hostRefused else done (s.groupGo (value.setWidth 16) (value.extractLsb' 16 16)).1

def execPgStartGroup (p : Packet) (s : State) : Host.Outcome State Fault Refusal :=
  done (serve s p 0x0302 (unusedZero p.params [(0, 2), (2, 2)]) [] fun s =>
    replicate s 0x0302 p.params [] 0 (State.groupGo (BitVec.ofNat 16 (param p.params 0 2)) (BitVec.ofNat 16 (param p.params 2 2))))

/-- A request for a hand-over (R196, R197). -/
def State.handoverRequest (s : State) (a : Nat) (toSolver : Bool) (q : List (BitVec 4)) : State :=
  let h := s.pgSet a
  s.setPgSet a { h with
    req := true, toSolver := toSolver, take := !toSolver, reply := h.reply ++ q
    boundary := if toSolver || !h.req || h.toSolver then none else h.boundary }

/-- PG_STOP (R193): stop plans for the channels of the mask; a set of source SOLVER first takes its hand-over. -/
def State.pgStop (mask : Nat) (s : State) : State × Answer :=
  let hit := chans72.filter (fun c => mask.testBit c && (s.profCfg c).enabled)
  (s.each hit (fun s c =>
    (s.setProf c { s.prof c with stopDue := true }).stopHandover (s.setOf c)), {})

def execPgStop (p : Packet) (s : State) : Host.Outcome State Fault Refusal :=
  done (serve s p 0x0303 (unusedZero p.params [(0, 9)]) [] fun s =>
    replicate s 0x0303 p.params [] 0 (State.pgStop (param p.params 0 9)))

/-- PG_HANDOVER (R196): to SOLVER it replies at once, to PROFILE at the end of the run that takes it. -/
def execPgHandover (p : Packet) (s : State) : Host.Outcome State Fault Refusal :=
  let a := param p.params 0 1
  let dest := param p.params 1 1
  done (serve s p 0x0304 (unusedZero p.params [(0, 1), (1, 1)] && decide (a < 9) && decide (dest < 2)) [] fun s =>
    if dest = 1 then
      replicate s 0x0304 p.params [] 0 (fun s => (s.handoverRequest a true [], { r0 := 0xFFFFFFFF }))
    else if s.refusesReplicated then reject s stWrongState
    else if s.replicates then
      let cmd : ReplCommand := { opcode := 0x0304, params := p.params, list := [] }
      let e : ReplPending := { effect := s.effectSpan, cmd := cmd, queue := some p.queue }
      .later { s with red := { s.red with repl := s.red.repl ++ [e], outbox := s.red.outbox ++ [.command e.effect cmd] } }
    else .later (s.handoverRequest a false [p.queue]))

def execPgArmHoReq (by_ : Requester) (a : BitVec 4) (value : W32) (s : State) : Host.Outcome State Fault Refusal :=
  if by_ = .host then done s.hostRefused
  else if a.toNat < 9 then done (s.handoverRequest a.toNat (value.getLsbD 30) []) else done s

/-- p_next of a set under the states in force (R186), with a scale of 0 where Warden's deadline has passed without its posting (R131). -/
def State.pNext (s : State) (a : Nat) : W64 :=
  let u := s.armSet a
  let moving := State.cellMoves s.dev.cell && (a == 8 || s.arm a == .enabled || s.arm a == .stopping)
  if !moving then u.ptime else if a = 8 then u.ptime + 0x100000000 else pathNext u.ptime (if s.saf.late then 0 else takeScale (s.warm a).scale)

def State.setPlan (s : State) (c : Nat) (p : Plan) : State :=
  s.setProf c { s.prof c with plan := p, made := true, replans := inc (s.prof c).replans }

/-- A plan to a target from a motion (R183, R188). -/
def State.planTo (s : State) (c : Nat) (origin : W64) (m : Motion) (t : Target) : Plan :=
  match t with
  | .position x => planPosition origin m (x.toInt * 16777216) (s.vMax c) (s.motionCaps c)
  | .velocity v => planVelocity origin m (s.perSpanV v.toInt) (s.motionCaps c)

def State.planStopFor (s : State) (c : Nat) (origin : W64) (m : Motion) : Plan :=
  planStop origin m (s.perSpanA (s.profCfg c).dStop.toNat) (s.perSpanJ (s.profCfg c).jStop.toNat)

/-- Writes knots i0, i0 + 1 and i0 + 2 of the plan in force (R187); the HARD reaction's knots hold one position (R195). -/
def State.writeKnots (s : State) (c : Nat) (pn : W64) : State :=
  let i0 := pn.toNat / 4294967296
  let ch := s.chan c
  let ks := [0, 1, 2].foldl (fun t n =>
    let m := (s.prof c).plan.motion (BitVec.ofNat 64 ((i0 + n) * 4294967296))
    Table.put {} t ((i0 + n) % 4) { x := BitVec.ofInt 64 (storeI m.x 24 64), d := BitVec.ofInt 64 (storeI m.v 24 64) }) ch.knots
  s.setChan c { ch with knots := ks, knotLast := BitVec.ofNat 32 (i0 + 2) }

/-- Whether knot `i` stands in the record. -/
def LeChan.hasKnot (c : LeChan) (i : Nat) : Bool :=
  let d := (c.knotLast - BitVec.ofNat 32 i).toInt
  c.knotLast != 0xFFFFFFFF && decide (0 ≤ d) && decide (d ≤ 3)

/-- The boundary state of solver knot b (R196), with H_tt at τ = 1 as R133 stores it in Q12.36: none where a knot is missing. -/
def LeChan.boundary (c : LeChan) (g b : Nat) : Option Motion :=
  if c.hasKnot b && c.hasKnot (b + 4294967295) then
    let k1 := c.knot b
    let k0 := c.knot (b + 4294967295)
    let d1 := satS 48 k1.d.toInt
    let htt := -6 * satS 48 (k1.x.toInt - k0.x.toInt) + 2 * satS 48 k0.d.toInt + 4 * d1
    some { x := k1.x.toInt * 16777216, v := roundShift (d1 * 16777216) g, a := roundShift (storeI htt 4 48 * 268435456) (2 * g) }
  else none

/-- Targets and group starts that a higher cause refuses in this run (R189). -/
def State.dropLower (s : State) (c : Nat) (start : Bool) : State :=
  let p := s.prof c
  let n := b2n p.target.isSome + b2n start
  (s.setProf c { p with target := none, waiting := if start then none else p.waiting }).refuse c n

/-- A set carries out its hand-over to PROFILE at boundary T (R196, R198). -/
def State.handover (s : State) (a : Nat) (t : W64) (started : Nat → Bool) : State :=
  let g := (Table.get {} s.cfg.sets a).knotLog2.toNat
  let b := t.toNat / 2 ^ (32 + g)
  let cs := s.profChans a
  let gap := cs.any (fun c => ((s.chan c).boundary g b).isNone)
  let s := s.each cs (fun s c =>
    let p := s.prof c
    let m := ((s.chan c).boundary g b).getD { x := (s.chan c).ref.toInt * 16777216 }
    let plan := if p.stopDue then s.planStopFor c t m else planVelocity t m m.v (s.motionCaps c)
    let s := s.setProf c { s.prof c with stopDue := false, hardDue := false }
    ((s.setPlan c plan).refuse c (b2n p.hardDue)).dropLower c (started c))
  let s := s.setArmSet a { s.armSet a with source := true }
  let h := s.pgSet a
  s.setPgSet a { h with req := false, boundary := none, gaps := if gap then inc h.gaps else h.gaps }

/-- Takes the requests of a set in a run: an arm that is at rest passes to SOLVER (R197), a new request to PROFILE gets its boundary (R196), and one at its boundary is carried out. -/
def State.handovers (s : State) (a : Nat) (started : Nat → Bool) : State :=
  let h := s.pgSet a
  let pn := s.pNext a
  let g := (Table.get {} s.cfg.sets a).knotLog2.toNat
  if !h.req then s
  else if h.toSolver then
    if !(s.armSet a).source then s.setPgSet a { h with req := false }
    else if s.armRest a then (s.setArmSet a { s.armSet a with source := false }).setPgSet a { h with req := false }
    else s
  else
    let due := match h.boundary with | some t => decide (0 ≤ (pn - t).toInt) | none => false
    let s := if due && !(s.armSet a).source then s.handover a (h.boundary.getD 0) started else s
    let h := s.pgSet a
    if h.take then
      let b := pn.toNat / 2 ^ (32 + g) + 1
      let h := if (s.armSet a).source then { h with req := false, take := false }
        else { h with take := false, hob := BitVec.ofNat 32 b, boundary := some (BitVec.ofNat 64 (b * 2 ^ (32 + g))) }
      let s := s.setPgSet a { h with reply := [] }
      h.reply.foldl (fun s q => s.replyLater q.toNat { r0 := h.hob }) s
    else s

/-- A limit stop is reported (R195): the channel in bits 7:0 of data, bit 8 set for the negative direction (log entry 11). -/
def State.limitStop (s : State) (c : Nat) (neg : Bool) : State :=
  s.raise { code := 0x0901, source := srcPg, data := BitVec.ofNat 32 (c + 256 * b2n neg) }

/-- Whether the plan in force is a stop or a HARD hold that has not come to rest. -/
def State.stopsNow (s : State) (c : Nat) : Bool :=
  let p := (s.prof c).plan
  (p.kind == .stop || p.kind == .hard) && !p.atRest (s.pathTime (s.setOf c))

/-- The limit reaction that begins in a run whose first knot is at `i0` (R195): none, or the direction, true for negative. -/
def State.limitNew (s : State) (c : Nat) (i0 : W64) : Option Bool :=
  let k := s.profCfg c
  let p := s.prof c
  let m := p.plan.motion i0
  let fwd := decide (0 < m.v) || (m.v == 0 && decide (0 < m.a))
  let bwd := decide (m.v < 0) || (m.v == 0 && decide (m.a < 0))
  let hit := (s.limitInput k.limitPos && fwd) || (s.limitInput k.limitNeg && bwd)
  if hit && !(if k.hard then p.plan.kind == .hard else s.stopsNow c) then some bwd else none

/-- The limit reaction that begins at a channel of a SOLVER set (R195), by the direction of its velocity in the last loop run; a reaction of the catalogue's choice HARD has no plan whose position it could hold and is the stop of R193 (log entry 38). -/
def State.limitSolver (s : State) (c : Nat) : Option Bool :=
  let k := s.profCfg c
  let v := (s.chan c).post.vff.toInt
  let hit := (s.limitInput k.limitPos && decide (0 < v)) || (s.limitInput k.limitNeg && decide (v < 0))
  if hit && !(s.prof c).stopDue then some (decide (v < 0)) else none

/-- The stop of a limit reaction in a SOLVER set: it waits for the hand-over (R193). -/
def State.limitHandover (s : State) (c : Nat) : State :=
  let p := s.prof c
  (s.setProf c { p with stopDue := true, limitStops := inc p.limitStops }).stopHandover (s.setOf c)

/-- A channel of a set whose source is SOLVER: targets given to it since the last run are refused (R188). -/
def State.solverChan (s : State) (c : Nat) (start : Bool) : State :=
  let p := s.prof c
  let s := if p.given && !start then (s.setProf c { p with waiting := none }).refuse c 1 else s
  s.dropLower c start

/-- The path time of the first knot that a run writes (R187). -/
def firstKnot (pn : W64) : W64 := BitVec.ofNat 64 (pn.toNat / 4294967296 * 4294967296)

/-- PG_CHc_STAT.lim_pos and lim_neg as a run sees them (R199). -/
def State.noteLimits (s : State) (c : Nat) : State :=
  s.setProf c { s.prof c with limPos := s.limitInput (s.profCfg c).limitPos, limNeg := s.limitInput (s.profCfg c).limitNeg }

/-- A channel of a PROFILE set in a run: its cause in the order of R189. `start` is its group start with the sync of the group. -/
def State.profileChan (s : State) (c : Nat) (pn : W64) (start : Bool) : State :=
  let k := s.profCfg c
  let p := s.prof c
  let i0 := firstKnot pn
  let m := p.plan.motion i0
  let stopping := s.stopsNow c
  let newHit := (s.limitNew c i0).isSome
  let s := s.setProf c { p with stopDue := false, hardDue := false, limitStops := if newHit then inc p.limitStops else p.limitStops }
  let hard := p.hardDue || (newHit && k.hard)
  let stop := p.stopDue || (newHit && !k.hard)
  if hard then
    let x := (p.plan.motion (s.pathTime (s.setOf c))).x
    ((s.setPlan c (planHold .hard i0 x)).refuse c (b2n p.stopDue + b2n (newHit && !k.hard))).dropLower c start
  else if stop then
    let s := if stopping then s else s.setPlan c (s.planStopFor c i0 m)
    s.dropLower c start
  else if stopping then s.dropLower c start
  else if start then
    match p.waiting with
    | none => s
    | some w =>
      if s.limitHit c w.2 then s.dropLower c true
      else
        let s := s.setPlan c (s.planTo c pn { x := (p.plan.motion pn).x } w.2)
        (s.setProf c { s.prof c with waiting := none }).dropLower c false
  else match p.target with
    | none => s
    | some t =>
      let s := s.setProf c { s.prof c with target := none }
      if s.limitHit c t then s.refuse c 1 else s.setPlan c (s.planTo c i0 m t)

/-- The span of CELL_ENGAGE or ARM_RESUME: no plan in force, at rest at the held position; waiting targets and stop plans are dropped and counted (R188). -/
def State.engageProfile (s : State) (c : Nat) : State :=
  let p := s.prof c
  let stop := p.stopDue || (p.plan.kind == .stop && !s.planRest c)
  let x := (s.chan c).holdPos.toInt * 16777216
  (s.setProf c { p with target := none, stopDue := false, hardDue := false, plan := planHold .idle (s.pathTime (s.setOf c)) x }).refuse c
    (b2n p.target.isSome + b2n stop)

/-- Group g started with sync: every member takes the duration of the slowest (R192). -/
def State.synchronise (s : State) (g : Nat) (cs : List Nat) : State :=
  let len := fun c => phasesLength (s.prof c).plan.phases
  let t := cs.foldl (fun m c => max m (len c)) 0
  let s := { s with pg := { s.pg with tSync := Table.put 0 s.pg.tSync g (BitVec.ofNat 24 (min (t / 16777216) 0xFFFFFF)) } }
  if t = 0 then s
  else s.each cs (fun s c =>
    s.setProf c { s.prof c with plan := { (s.prof c).plan with stretch := divQ (len c) t } })

/-- Steps of a channel (R186). -/
def stepsOf (planned synced : Bool) : Nat := if planned then (if synced then 160 else 120) else 6

/-- A generator run (R186 to R198). Channels from `reached` on are not reached before the next LE snapshot and keep their knots. -/
def execProfileRun (reached : BitVec 7) (s : State) : Host.Outcome State Fault Refusal :=
  let starts := s.pg.starts
  let grp := fun (c : Nat) => match (s.prof c).waiting with | some w => some w.1.toNat | none => none
  let started := fun (c : Nat) => match grp c with | some g => starts.any (fun e => e.1.getLsbD g) | none => false
  let synced := fun (c : Nat) => match grp c with | some g => starts.any (fun e => e.1.getLsbD g && e.2.getLsbD g) | none => false
  let all := chans72.filter (fun c => (s.profCfg c).enabled && (s.chanCfg c).used)
  let old := s
  let s := { s with pg := { s.pg with starts := [] } }
  let s := s.each all (fun s c => if (s.prof c).made then s.setProf c { s.prof c with made := false } else s)
  let wasProfile := fun a => (old.armSet a).source
  let s := s.each sets9 (fun s a => if (s.armSet a).engage then s.each (s.profChans a) State.engageProfile else s)
  let solver := all.filterMap (fun c =>
    if wasProfile (s.setOf c) then none else (s.limitSolver c).map (fun n => (c, n)))
  let s := solver.foldl (fun s e => s.limitHandover e.1) s
  let s := s.each sets9 (fun s a => s.handovers a started)
  let pn := fun c => old.pNext (old.setOf c)
  let hits := solver ++ all.filterMap (fun c =>
    if wasProfile (s.setOf c) && (s.armSet (s.setOf c)).source then (s.limitNew c (firstKnot (pn c))).map (fun n => (c, n)) else none)
  let s := s.each all (fun s c =>
    let s := s.noteLimits c
    let a := s.setOf c
    let src := (s.armSet a).source
    let s := s.setProf c { s.prof c with plan := (s.prof c).plan.renewed (firstKnot (pn c)) }
    let s := if wasProfile a && src then s.profileChan c (pn c) (started c)
      else if src then s
      else s.solverChan c (started c)
    s.setProf c { s.prof c with given := false })
  let s := (upto 16).foldl (fun s g =>
    let cs := all.filter (fun c => grp c == some g && synced c && (s.prof c).waiting.isNone
      && (s.prof c).made)
    if cs.isEmpty then s else s.synchronise g cs) s
  let s := s.each (all.filter (fun c => decide (c < reached.toNat))) (fun s c =>
    if (s.armSet (s.setOf c)).source then s.writeKnots c (pn c) else s)
  let n := all.foldl (fun n c => n + stepsOf (s.prof c).made (synced c)) 24
  let s := hits.foldl (fun s e => s.limitStop e.1 e.2) s
  let sl := s.slackOf s.dev.deadlineVc.toNat
  let e := s.dev.le.complete s.span.toNat sl
  done { s with
    pg := { s.pg with busy := false, steps := BitVec.ofNat 15 (min n 32767) }
    dev := { s.dev with le := { e with overruns := if sl < 0 then inc e.overruns else e.overruns } } }

end Sys2Proof.Machine
end

