-- ==== Sys2Proof/Machine/Axes.lean ====
section
/-! DEFINITION. The auxiliary axes (R262 to R283): carriers, duty, load-all, forces, cuts, current sensing, steps, feedback and stalls. -/
namespace Sys2Proof.Machine

/-- sin(2πi / 1024) in Q1.15, rounded half up, for i from 0 to 256 (R275). The entry for 256 is 1.0, which saturates where it is used. -/
def sineQuarter : List Nat :=
  [0, 201, 402, 603, 804, 1005, 1206, 1407, 1608, 1809, 2009, 2210, 2411, 2611, 2811, 3012,
   3212, 3412, 3612, 3812, 4011, 4211, 4410, 4609, 4808, 5007, 5205, 5404, 5602, 5800, 5998, 6195,
   6393, 6590, 6787, 6983, 7180, 7376, 7571, 7767, 7962, 8157, 8351, 8546, 8740, 8933, 9127, 9319,
   9512, 9704, 9896, 10088, 10279, 10469, 10660, 10850, 11039, 11228, 11417, 11605, 11793, 11980, 12167, 12354,
   12540, 12725, 12910, 13095, 13279, 13463, 13646, 13828, 14010, 14192, 14373, 14553, 14733, 14912, 15091, 15269,
   15447, 15624, 15800, 15976, 16151, 16326] ++
  [16500, 16673, 16846, 17018, 17190, 17361, 17531, 17700, 17869, 18037, 18205, 18372, 18538, 18703, 18868, 19032,
   19195, 19358, 19520, 19681, 19841, 20001, 20160, 20318, 20475, 20632, 20788, 20943, 21097, 21251, 21403, 21555,
   21706, 21856, 22006, 22154, 22302, 22449, 22595, 22740, 22884, 23028, 23170, 23312, 23453, 23593, 23732, 23870,
   24008, 24144, 24279, 24414, 24548, 24680, 24812, 24943, 25073, 25202, 25330, 25457, 25583, 25708, 25833, 25956,
   26078, 26199, 26320, 26439, 26557, 26674, 26791, 26906, 27020, 27133, 27246, 27357, 27467, 27576, 27684, 27791,
   27897, 28002, 28106, 28209, 28311, 28411] ++
  [28511, 28610, 28707, 28803, 28899, 28993, 29086, 29178, 29269, 29359, 29448, 29535, 29622, 29707, 29792, 29875,
   29957, 30038, 30118, 30196, 30274, 30350, 30425, 30499, 30572, 30644, 30715, 30784, 30853, 30920, 30986, 31050,
   31114, 31177, 31238, 31298, 31357, 31415, 31471, 31527, 31581, 31634, 31686, 31737, 31786, 31834, 31881, 31927,
   31972, 32015, 32058, 32099, 32138, 32177, 32214, 32251, 32286, 32319, 32352, 32383, 32413, 32442, 32470, 32496,
   32522, 32546, 32568, 32590, 32610, 32629, 32647, 32664, 32679, 32693, 32706, 32718, 32729, 32738, 32746, 32753,
   32758, 32762, 32766, 32767, 32768]

/-- The sine table of R275 in Q1.15, saturated: sin(2πi / 1024). -/
def sine (i : Nat) : Int :=
  let k := i % 1024
  let q := fun (j : Nat) => ((sineQuarter.getD j 0 : Nat) : Int)
  satS 16 (if k ≤ 256 then q k else if k ≤ 512 then q (512 - k) else if k ≤ 768 then -q (k - 512) else -q (1024 - k))

def cosine (i : Nat) : Int := sine (i + 256)

/-- Ticks of 4 ns in a span (R266). -/
def State.spanTicks (s : State) : Nat := s.spanNs / 4

/-- Whether the AX block serves the module's pins: used, and its loop channel does not name a ring (R262). -/
def State.axServes (s : State) (n : Nat) : Bool :=
  let k := s.chanCfg (64 + n)
  (s.axCfg n).enable && (!k.used || k.ring == 0xFF)

/-- Modes of PW_n_CFG (R263). -/
def axBldc : BitVec 3 := 1
def axStepper : BitVec 3 := 2
def axBrushed : BitVec 3 := 3
def axStepDir : BitVec 3 := 4

def pairsUsed (mode : BitVec 3) : Nat := if mode = axBldc then 3 else if mode = axStepper then 4 else if mode = axBrushed then 2 else 0

/-- Whether a module drives its outputs rather than holding them idle (R262, R264). -/
def State.axDrives (s : State) (n : Nat) : Bool :=
  let k := s.axCfg n
  let c := s.chan (64 + n)
  s.axServes n && s.dev.cell.closed && k.mode != 0
    && (k.direct || (c.eff != effTracking && c.eff != effOff && (s.axm n).latched.control.getLsbD 0))

/-- What the outputs do: idle, at the fault levels of a cut, or the waveform (R264, R272). -/
def State.axOut (s : State) (n : Nat) : OutMode :=
  if !s.axDrives n then .idle else if (s.axm n).pw.cut then .fault else .wave

def State.axSettle (s : State) (n : Nat) : State :=
  let a := s.axm n
  s.setAxm n { a with pw := { a.pw with out := s.axOut n } }

/-- PW_n_PAIRp words: state 0 switches at cmp, 1 low on, 2 both off (R283). -/
def pairAt (cmp : Nat) : W32 := BitVec.ofNat 32 (min cmp 131071)
def pairLow : W32 := 0x40000000
def pairOff : W32 := 0x80000000

/-- An on interval after dead time; off where it is shorter than the least pulse or not positive (R268). -/
def onTicks (k : AxCfg) (ticks : Nat) : Nat :=
  let t := ticks - k.dead.toNat
  if t = 0 || decide (t < k.minPulse.toNat) then 0 else t

/-- The on intervals that a pair word gives in a period of 2T ticks (R268). A switch that is on throughout is not turned on in the period. -/
def pairWave (k : AxCfg) (w : W32) : PairWave :=
  let t := k.top.toNat
  let cmp := min (w.toNat % 131072) t
  let st := w.toNat / 1073741824
  if st = 1 then { low := 2 * t }
  else if st = 2 then {}
  else if st = 3 then { high := 2 * t }
  else if cmp = 0 then { low := 2 * t }
  else if cmp = t then { high := 2 * t }
  else { high := onTicks k (2 * cmp), low := onTicks k (2 * t - 2 * cmp) }

/-- A pair that the mode does not use holds its idle levels (R263). -/
def idleWave (k : AxCfg) (p : Nat) : PairWave :=
  { high := if k.idleLvl.getLsbD (2 * p) then 2 * k.top.toNat else 0
    low := if k.idleLvl.getLsbD (2 * p + 1) then 2 * k.top.toNat else 0 }

/-- The force of output `o` (0 none, 1 low, 2 high, 3 idle level) on its interval (R271). -/
def forced (k : AxCfg) (force : W16) (o : Nat) (ticks : Nat) : Nat :=
  let f := force.toNat / 4 ^ o % 4
  let full := onTicks k (2 * k.top.toNat)
  if f = 0 then ticks else if f = 1 then 0 else if f = 2 then full else if k.idleLvl.getLsbD o then full else 0

/-- The intervals of a pair under the force in effect, and whether the force would turn on both switches (R271). -/
def forcedPair (k : AxCfg) (force : W16) (p : Nat) (w : PairWave) : PairWave × Bool :=
  let h := forced k force (2 * p) w.high
  let l := forced k force (2 * p + 1) w.low
  let any := force.toNat / 16 ^ p % 16 != 0
  if any && h != 0 && l != 0 then ({}, true) else ({ high := h, low := l }, false)

/-- Forms the waveform of the four pairs from the active words and the force. `count` says that a force has just taken effect, when its conflicts are counted. -/
def State.axWaves (s : State) (n : Nat) (count : Bool) : State :=
  let a := s.axm n
  let k := s.axCfg n
  let raw := fun (p : Nat) => if p < pairsUsed k.mode then pairWave k (a.pw.active.getD p 0) else idleWave k p
  let all := [0, 1, 2, 3].map (fun p => forcedPair k a.pw.force p (raw p))
  let clashes := (all.filter (fun w => w.2)).length
  (s.setAxm n { a with pw := { a.pw with
    waves := all.map (fun w => w.1)
    forceConflict := if count then satAdd a.pw.forceConflict clashes else a.pw.forceConflict } }).axSettle n

/-- A force that waits takes effect at a zero event or at a peak (R271). The flag answers whether one did. -/
def State.axForce (s : State) (n : Nat) (peak : Bool) : State × Bool :=
  let a := s.axm n
  if a.pw.forceNew && a.pw.forceReg.getLsbD 31 == peak then
    (s.setAxm n { a with pw := { a.pw with force := a.pw.forceReg.setWidth 16, forceNew := false } }, true)
  else (s, false)

/-- CMP for a duty given as a numerator over 2^30 (R269). -/
def compareOf (k : AxCfg) (d30 : Nat) : Nat :=
  let d := min d30 (k.dutyMax.toNat * 32768)
  min (roundShift ((d * k.top.toNat : Nat) : Int) 30).toNat k.top.toNat

/-- CMP for a torque command in Q1.31 (R269). -/
def compareTorque (k : AxCfg) (u : Int) : Nat :=
  let d := min u.natAbs (k.dutyMax.toNat * 65536)
  min (roundShift ((d * k.top.toNat : Nat) : Int) 31).toNat k.top.toNat

/-- The Hall state of filtered levels, U as bit 2 (R279). -/
def hallOf (f : BitVec 3) : Nat := 4 * b2n (f.getLsbD 0) + 2 * b2n (f.getLsbD 1) + b2n (f.getLsbD 2)

/-- The sector of a Hall state; 000 and 111 have none (R279). -/
def sectorOf (h : Nat) : Option Nat :=
  match h with
  | 1 => some 0
  | 3 => some 1
  | 2 => some 2
  | 6 => some 3
  | 4 => some 4
  | 5 => some 5
  | _ => none

/-- High and low phase of a rotated sector (R269). -/
def phasesOf (sector : Nat) : Nat × Nat :=
  match sector with
  | 0 => (0, 1)
  | 1 => (0, 2)
  | 2 => (1, 2)
  | 3 => (1, 0)
  | 4 => (2, 0)
  | _ => (2, 1)

/-- The pair words of BLDC commutation and the high phase (R269); an illegal state turns every pair off. -/
def bldcPairs (k : AxCfg) (f : BitVec 3) (u : Int) : List W32 × Nat :=
  match sectorOf (hallOf f) with
  | none => ([pairOff, pairOff, pairOff], 3)
  | some h =>
    let ph := phasesOf ((h + k.hallShift.toNat) % 6)
    let hi := if u < 0 then ph.2 else ph.1
    let lo := if u < 0 then ph.1 else ph.2
    let c := compareTorque k u
    ([0, 1, 2].map (fun p => if p = hi then pairAt c else if p = lo then pairLow else pairOff), hi)

/-- A bridge of two pairs: the first switches for a value at or above 0, the other holds its low switch on (R269, R275). -/
def bridge (cmp : Nat) (negative : Bool) : List W32 := if negative then [pairLow, pairAt cmp] else [pairAt cmp, pairLow]

/-- The pair words of a stepper at microstep position m (R275). -/
def stepperPairs (k : AxCfg) (m : W32) (held : Bool) : List W32 :=
  let a : Int := if held then k.hold.toNat else k.run.toNat
  let i := m.toNat % 1024
  let pa := a * sine i
  let pb := a * cosine i
  bridge (compareOf k pa.natAbs) (decide (pa < 0)) ++ bridge (compareOf k pb.natAbs) (decide (pb < 0))

/-- Coarse steps per full step, r (R276). -/
def AxCfg.coarse (k : AxCfg) : Nat := k.div.toNat + 1

/-- The microstep position of a coarse target: C × 256 / r, rounded half up (R276). -/
def AxCfg.microsteps (k : AxCfg) (c : W32) : Int := roundDiv (c.toInt * 256) k.coarse

/-- The microstep position at the next zero event (R276): one of N equal parts of the span's way, or the rate of the external steps. -/
def nextMicro (k : AxCfg) (p : PwState) : Int :=
  let n := k.nDiv.toNat + 1
  if k.ext then
    let goal := k.microsteps p.target
    match p.stepEvery with
    | none => p.m.toInt
    | some every =>
      let d := roundDiv (256 * (2 * k.top.toNat) : Nat) ((k.coarse * every : Nat) : Int)
      if p.m.toInt < goal then min goal (p.m.toInt + d) else max goal (p.m.toInt - d)
  else
    let i := min (p.zeros + 1) n
    roundDiv (p.mBase.toInt * k.coarse * n + (p.target.toInt * 256 - p.mBase.toInt * k.coarse) * i) ((k.coarse * n : Nat) : Int)

/-- A new microstep position; a change ends the hold amplitude (R275). -/
def PwState.toMicro (p : PwState) (m : Int) : PwState :=
  let v := BitVec.ofInt 32 m
  { p with m := v, held := p.held && v == p.m, still := if v = p.m then p.still else 0 }

/-- The pairs that a LOOP module drives in the period that begins (R269, R275). -/
def State.axCommute (s : State) (n : Nat) : State :=
  let a := s.axm n
  let k := s.axCfg n
  let u := a.latched.torque.toInt
  if k.mode = axBldc then
    let r := bldcPairs k a.fb.filtered u
    s.setAxm n { a with pw := { a.pw with active := r.1, high := r.2 } }
  else if k.mode = axStepper then
    let p := a.pw.toMicro (nextMicro k a.pw)
    s.setAxm n { a with pw := { p with zeros := p.zeros + 1, active := stepperPairs k p.m p.held } }
  else if k.mode = axBrushed then
    s.setAxm n { a with pw := { a.pw with active := bridge (compareTorque k u) (decide (u < 0)) } }
  else s

/-- An enabled DIRECT module loads the staged set at its first zero event after the acceptance tick; pending clears with the last (R270). -/
def State.axLoad (s : State) (n : Nat) : State :=
  let a := s.axm n
  match a.pw.staged with
  | none => s
  | some l =>
    if s.ax.acceptedAt.toNat / 4 = s.tb.tb2.ns.toNat / 4 then s
    else
      let s := s.setAxm n { a with pw := { a.pw with active := l, staged := none } }
      if (upto 8).any (fun i => (s.axm i).pw.staged.isSome) then s else { s with ax := { s.ax with pending := false } }

/-- The load angle at a zero event (R281). The spec does not state how the voltages give the angle, so it is a free value (log entry 15). -/
def State.axAngle (s : State) (n : Nat) : State :=
  let a := s.axm n
  let k := s.axCfg n
  if k.laEn && decide (n < 2) && decide ((k.minSpeed.toNat * 65536 : Nat) ≤ a.fb.velocity.toInt.natAbs) then
    let d := s.draw 16
    d.2.setAxm n { a with fb := { a.fb with load := d.1, laOver := decide (k.threshold.toNat < d.1.toInt.natAbs) } }
  else s

/-- A cut begins: the outputs take the fault levels to the end of the period (R272). -/
def AxModule.cutNow (a : AxModule) (oc : Bool) : AxModule :=
  { a with warn := true
           pw := { a.pw with
             cut := true
             faultCuts := if oc then a.pw.faultCuts else inc a.pw.faultCuts
             ocCuts := if oc then inc a.pw.ocCuts else a.pw.ocCuts } }

/-- A zero event (R267): the sync pulse, a cut that goes on, loads, forces, commutation and the start of the conversions. -/
def execZeroEvent (n : BitVec 3) (flt : Bool) (_vs : PhaseVolts) (s : State) : Host.Outcome State Fault Refusal :=
  let i := n.toNat
  let k := s.axCfg i
  if !k.enable then done s
  else
    let a := s.axm i
    let s := s.setAxm i { a with pw := { a.pw with count := 0, down := false } }
    let j := i + 1
    let s := if j < 8 && (s.axCfg j).enable && (s.axCfg j).syncIn then
        let b := s.axm j
        s.setAxm j { b with pw := { b.pw with count := (s.axCfg j).phase, down := false } }
      else s
    if !s.axServes i then done ((if k.direct then s.axLoad i else s).axSettle i)
    else
      let a := s.axm i
      let a := { a with pw := { a.pw with flt := flt, cut := false } }
      let s := s.setAxm i (if flt && k.fltEn then a.cutNow false else a)
      let s := if k.direct then s.axLoad i else s.axCommute i
      let f := s.axForce i false
      done ((f.1.axAngle i).axWaves i f.2)

/-- A 4 ns tick of a carrier (R266): up to the top, then down to 0, where it dwells until its zero event. -/
def PwState.carrier (p : PwState) (top : BitVec 17) : PwState :=
  if p.down then { p with count := if p.count = 0 then 0 else p.count - 1 }
  else if p.count.toNat < top.toNat then { p with count := p.count + 1, down := p.count + 1 == top }
  else p

/-- The carriers of the used modules on a 4 ns tick of the clocked island, counted here on TB2 (R266; log entry 8). -/
def State.carriers (s : State) : State :=
  if s.pwr.inReset || s.pwr.dormant || s.tb.tb2.ns.toNat % 4 != 0 then s
  else s.each (upto 8) (fun s n =>
    let k := s.axCfg n
    if k.enable then s.setAxm n { s.axm n with pw := (s.axm n).pw.carrier k.top } else s)

/-- A carrier reaches its top (R266): a force with at_peak takes effect (R271). -/
def execCarrierPeak (n : BitVec 3) (s : State) : Host.Outcome State Fault Refusal :=
  let i := n.toNat
  let k := s.axCfg i
  if !k.enable then done s
  else
    let a := s.axm i
    let s := s.setAxm i { a with pw := { a.pw with count := k.top, down := true } }
    let f := s.axForce i true
    done (if f.2 then f.1.axWaves i true else f.1)

/-- The current of a sample about 0x8000 (R274). -/
def currentOf (v : W16) : Int := (v.toNat : Int) - 32768

/-- The torque-producing current of a pair of samples (R274). -/
def torqueCurrent (k : AxCfg) (a : AxModule) : Option Int :=
  let i0 := currentOf a.fb.is0
  let i1 := currentOf a.fb.is1
  if k.mode = axBrushed then some (if a.latched.torque.toInt < 0 then -(i0.natAbs : Int) else (i0.natAbs : Int))
  else if k.mode = axBldc then
    (match a.pw.high with
    | 0 => some i0
    | 1 => some i1
    | 2 => some (-(i0 + i1))
    | _ => none)
  else none

/-- A conversion completes (R274); a magnitude beyond oc_limit cuts the module (R272). The sample of the span is taken with the second input's. -/
def execConversionComplete (n : BitVec 3) (second : Bool) (sample : W16) (s : State) : Host.Outcome State Fault Refusal :=
  let i := n.toNat
  let k := s.axCfg i
  if !s.axServes i then done s
  else
    let a := s.axm i
    let a := { a with fb := if second then { a.fb with is1 := sample } else { a.fb with is0 := sample } }
    let a := if second then
        (match torqueCurrent k a with
        | some v => { a with fb := { a.fb with samples := a.fb.samples ++ [v] } }
        | none => a)
      else a
    let high := decide (k.ocLimit.toNat < (currentOf sample).natAbs)
    let a := if high && !a.pw.cut then a.cutNow true else a
    done ((s.setAxm i a).axSettle i)

/-- FLTn becomes active (R272). -/
def execFltActive (n : BitVec 3) (s : State) : Host.Outcome State Fault Refusal :=
  let i := n.toNat
  if !s.axServes i then done s
  else
    let a := s.axm i
    let a := { a with pw := { a.pw with flt := true } }
    let a := if (s.axCfg i).fltEn && !a.pw.cut then a.cutNow false else a
    done ((s.setAxm i a).axSettle i)

/-- PW_CTL.load_all (R270). -/
def execLoadAll (by_ : Requester) (s : State) : Host.Outcome State Fault Refusal :=
  if by_ = .host then done s.hostRefused
  else if s.ax.pending then done { s with ax := { s.ax with loadOverrun := inc s.ax.loadOverrun } }
  else
    let direct := (upto 8).filter (fun n => (s.axCfg n).enable && (s.axCfg n).direct)
    let s := { s with ax := { s.ax with pending := !direct.isEmpty, acceptedAt := s.tb.tb2.ns } }
    done (s.each direct (fun s n =>
      let a := s.axm n
      s.setAxm n { a with pw := { a.pw with staged := some ([0, 1, 2, 3].map (fun p => Table.get 0 a.pw.shadow p)) } }))

/-- A write of a shadow PW_n_PAIRp (R270, R283). -/
def State.pairWrite (s : State) (n p : Nat) (v : W32) : State :=
  let a := s.axm n
  s.setAxm n { a with pw := { a.pw with shadow := Table.put 0 a.pw.shadow p (v &&& 0xC001FFFF) } }

/-- A write of PW_n_FORCE (R271, R283). -/
def execPwForceWrite (by_ : Requester) (n : BitVec 3) (value : W32) (s : State) : Host.Outcome State Fault Refusal :=
  if by_ = .host then done s.hostRefused
  else
    let a := s.axm n.toNat
    done (s.setAxm n.toNat { a with pw := { a.pw with forceReg := value &&& 0x8000FFFF, forceNew := true } })

/-- Sectors of forward Hall motion (R279). -/
def hallForward (a b : Nat) : Bool := (a + 1) % 6 == b

/-- What a change of the filtered levels does to a feedback channel: the count's change, an illegal change and the new reference (R279, R280). -/
structure Counted where
  by_ : Int := 0
  illegal : Bool := false
  reference : Option (BitVec 3) := none
  deriving DecidableEq, Repr

/-- How many pins change their level. -/
def changes (old new : BitVec 3) : Nat := ([0, 1, 2].filter (fun i => (old ^^^ new).getLsbD i)).length

/-- A change of a Hall triplet (R279): to the next or the previous state it counts; an invalid state, or two or three bits at once, is illegal. The first valid state after an illegal one is the reference and counts nothing. -/
def hallCount (old new : BitVec 3) (ref : Option (BitVec 3)) : Counted :=
  match sectorOf (hallOf new) with
  | none => { illegal := true }
  | some b =>
    if 2 ≤ changes old new then { illegal := true, reference := some new }
    else match ref.bind (fun r => sectorOf (hallOf r)) with
      | none => { reference := some new }
      | some a => { by_ := if hallForward a b then 1 else if hallForward b a then -1 else 0, reference := some new }

/-- The place of the levels of A and B in the order that counts up, A leading B (PRESUMED, log entry 15). -/
def quadPhase (f : BitVec 3) : Nat :=
  match f.getLsbD 0, f.getLsbD 1 with
  | false, false => 0
  | true, false => 1
  | true, true => 2
  | false, true => 3

def quadCount (old new : BitVec 3) : Counted :=
  let d := (quadPhase new + 4 - quadPhase old) % 4
  if d = 0 then { reference := some new }
  else if d = 2 then { illegal := true, reference := some new }
  else { by_ := if d = 1 then 1 else -1, reference := some new }

/-- The index of a quadrature channel (R280). -/
def FbState.index (f : FbState) (lines : W32) : FbState :=
  let v := BitVec.ofInt 24 (f.count.toInt % (4 * lines.toNat : Nat))
  if !f.idxValid then { f with idxValid := true, expected := v }
  else if v = f.expected then f
  else { f with idxMismatch := inc f.idxMismatch, idxErr := true }

/-- An external step (R276): the old target is reached first, the new one lies one coarse step on. DIR high counts up (PRESUMED, log entry 15). -/
def PwState.externalStep (p : PwState) (k : AxCfg) (dir : Bool) (now : W64) : PwState :=
  let p := p.toMicro (k.microsteps p.target)
  { p with target := if dir then p.target + 1 else p.target - 1
           stepAt := some now, dir := dir
           stepEvery := match p.stepAt with | some t => some (now.toNat / 4 - t.toNat / 4) | none => none }

/-- The filtered levels of a channel change (R278 to R280). -/
def State.fbChange (s : State) (n : Nat) (new : BitVec 3) : State :=
  let a := s.axm n
  let k := s.axCfg n
  let old := a.fb.filtered
  if new = old then s
  else if k.kind = 1 then
    let c := hallCount old new a.fb.reference
    s.setAxm n { a with warn := a.warn || c.illegal
                        fb := { a.fb with filtered := new, count := a.fb.count + BitVec.ofInt 48 c.by_, reference := c.reference
                                          illegal := if c.illegal then inc a.fb.illegal else a.fb.illegal } }
  else if k.kind = 2 then
    let c := quadCount old new
    let f := { a.fb with filtered := new, count := a.fb.count + BitVec.ofInt 48 c.by_, reference := c.reference
                         illegal := if c.illegal then inc a.fb.illegal else a.fb.illegal }
    let g := if !old.getLsbD 2 && new.getLsbD 2 then f.index k.lines else f
    s.setAxm n { a with fb := g, warn := a.warn || c.illegal || g.idxMismatch != f.idxMismatch }
  else
    let step := k.kind = 3 && k.mode = axStepper && k.ext && !old.getLsbD 0 && new.getLsbD 0
    s.setAxm n { a with fb := { a.fb with filtered := new }
                        pw := if step then a.pw.externalStep k (new.getLsbD 1) s.tb.tb2.ns else a.pw }

/-- The feedback pins of a channel at a tick with an edge (R278): edges inside the spacing are ignored and counted, the others accepted. -/
def execFeedbackEdge (n : BitVec 3) (levels : BitVec 3) (s : State) : Host.Outcome State Fault Refusal :=
  let i := n.toNat
  let k := s.axCfg i
  if !s.axServes i then done s
  else
    let a := s.axm i
    let edges := levels ^^^ a.fb.pins
    let good := edges &&& ~~~ a.fb.holding
    let bad := ([0, 1, 2].filter (fun j => (edges &&& a.fb.holding).getLsbD j)).length
    let held := if k.spacing = 0 then a.fb.holding else a.fb.holding ||| good
    let s := s.setAxm i { a with fb := { a.fb with pins := levels, holding := held, glitch := satAdd a.fb.glitch bad } }
    done (s.fbChange i ((a.fb.filtered &&& ~~~ good) ||| (levels &&& good)))

/-- The spacing of pins runs out: their filtered levels take the pins' levels (R278). -/
def execEdgeSpacingExpiry (n : BitVec 3) (pins : BitVec 3) (s : State) : Host.Outcome State Fault Refusal :=
  let i := n.toNat
  if !s.axServes i then done s
  else
    let a := s.axm i
    let due := pins &&& a.fb.holding
    let s := s.setAxm i { a with fb := { a.fb with holding := a.fb.holding &&& ~~~ due } }
    done (s.fbChange i ((a.fb.filtered &&& ~~~ due) ||| (a.fb.pins &&& due)))

/-- A STEP_DIR module emits a step pulse (R277); none while its outputs are idle or cut. -/
def execStepPulse (n : BitVec 3) (s : State) : Host.Outcome State Fault Refusal :=
  let i := n.toNat
  let a := s.axm i
  if (s.axCfg i).mode = axStepDir && s.axOut i == .wave && a.pw.left != 0 then
    done (s.setAxm i { a with pw := { a.pw with
      left := a.pw.left - 1, emitted := if a.pw.dir then a.pw.emitted + 1 else a.pw.emitted - 1 } })
  else done s

/-- No external step for twice the last interval: m stops at the target (R276). -/
def execStepInputTimeout (n : BitVec 3) (s : State) : Host.Outcome State Fault Refusal :=
  let i := n.toNat
  let k := s.axCfg i
  let a := s.axm i
  if s.axServes i && k.mode = axStepper && k.ext then
    done (s.setAxm i { a with pw := a.pw.toMicro (k.microsteps a.pw.target) })
  else done s

/-- m unchanged for 64 spans: the hold amplitude (R275). -/
def execHoldAmplitude (n : BitVec 3) (s : State) : Host.Outcome State Fault Refusal :=
  let i := n.toNat
  let a := s.axm i
  if (s.axCfg i).mode = axStepper && decide (64 ≤ a.pw.still) then done (s.setAxm i { a with pw := { a.pw with held := true } })
  else done s

/-- Whether the channel measures a position (R263, R265). -/
def AxCfg.measures (k : AxCfg) : Bool := k.kind == 1 || k.kind == 2

/-- A turn fraction in Q24.40, rounded half up. -/
def turns (n : Int) (per : Nat) : Int := satS 64 (roundDiv (n * 1099511627776) per)

/-- The measured position of R265. -/
def axPosition (k : AxCfg) (a : AxModule) : Int :=
  if k.measures then turns a.fb.count.toInt k.cpt.toNat
  else if k.mode = axStepper then turns a.pw.m.toInt (256 * k.fullSteps.toNat)
  else if k.mode = axStepDir then turns a.pw.emitted.toInt k.perTurn.toNat
  else turns a.fb.count.toInt k.cpt.toNat

/-- The measured velocity of R265: the counts over vel_window spans. -/
def axVelocity (k : AxCfg) (a : AxModule) (spanNs : Nat) : Int :=
  let m := k.velWindow.toNat + 1
  let old := a.fb.window.getD (m - 1) 0
  satS 32 (roundDiv ((a.fb.count - old).toInt * 16777216 * 1000000000) ((k.cpt.toNat * m * spanNs : Nat) : Int))

/-- The actual torque of R265: the mean of the span's samples, scaled; 0 without a sample (DESIGN CHOICE, log entry 15). -/
def axTorque (k : AxCfg) (a : AxModule) : Int :=
  if k.mode = axBldc || k.mode = axBrushed then
    satS 32 (roundDiv ((a.fb.samples.foldl (· + ·) 0) * k.isScale.toInt) a.fb.samples.length)
  else 0

/-- The set-point latched at a span instant (R265): the one posted by the earliest deliver cut-off, else R90's extrapolation and hold from the first one on. -/
def AxModule.latch (a : AxModule) (spanNs : Nat) : AxModule :=
  match a.next with
  | some p => { a with latched := p, next := none, started := true, missRun := 0 }
  | none =>
    if !a.started then a
    else
      let p := if a.missRun = 0 then a.latched.extrapolated spanNs else { a.latched with vff := 0 }
      { a with latched := p, missRun := a.missRun + 1 }

/-- The status word of a local channel (R83, R265). -/
def AxModule.status (a : AxModule) : W16 :=
  let c := a.latched.control
  BitVec.ofNat 16 (1 + 2 * b2n (c.getLsbD 0) + 4 * b2n (c.getLsbD 1) + 16 * b2n a.warn + 64 * b2n (a.missRun != 0))
    ||| (c &&& 0xF000)

/-- The coarse target and the parts of a STEPPER's way, or the pulses of STEP_DIR, for the span that begins (R276, R277). -/
def State.axSteps (s : State) (n : Nat) : State :=
  let a := s.axm n
  let k := s.axCfg n
  let pos := a.latched.pos.toInt
  if k.mode = axStepper then
    let same := a.pw.m == a.pw.mBase
    let c := if k.ext || !a.started then a.pw.target
      else BitVec.ofInt 32 (pos * (k.fullSteps.toNat * k.coarse : Nat) / 1099511627776)
    s.setAxm n { a with pw := { a.pw with
      target := c, mBase := a.pw.m, zeros := 0, still := if same then a.pw.still + 1 else 0, held := a.pw.held && same } }
  else if k.mode = axStepDir && s.axDrives n then
    let goal := roundDiv (pos * (k.perTurn.toNat : Int)) 1099511627776
    let d := goal - a.pw.emitted.toInt
    let ticks := s.spanTicks
    let fit := if k.width = 0 then d.natAbs else (ticks - k.setup.toNat) / (2 * k.width.toNat)
    let many := decide (fit < d.natAbs)
    s.setAxm n { a with pw := { a.pw with
      target := BitVec.ofInt 32 goal, dir := decide (0 < d), left := min d.natAbs fit
      spacing := if many then 2 * k.width.toNat else ticks / max 1 d.natAbs
      overflow := if many then inc a.pw.overflow else a.pw.overflow } }
  else s.setAxm n { a with pw := { a.pw with left := 0 } }

/-- A stall (R282): the event, and for RAMP and HARD the limit reaction in both directions, or the arm controlled stop where the set's source is SOLVER. The data name the channel and the method, 0 deviation and 1 load angle (log entry 15). -/
def State.axStall (s : State) (n : Nat) (angle : Bool) : State :=
  let a := s.axm n
  let k := s.axCfg n
  let c := 64 + n
  let s := s.setAxm n { a with fb := { a.fb with
    laStalls := if angle then inc a.fb.laStalls else a.fb.laStalls
    devStalls := if angle then a.fb.devStalls else inc a.fb.devStalls } }
  let s := s.raise { code := 0x0A01, source := srcAx, data := BitVec.ofNat 32 (c + 256 * b2n angle) }
  if k.react = 1 || k.react = 2 then
    let a := s.axm n
    let s := s.setAxm n { a with fb := { a.fb with active := true } }
    if (s.armSet (s.setOf c)).source then
      s.setProf c { s.prof c with stopDue := (s.prof c).stopDue || k.react == 1, hardDue := (s.prof c).hardDue || k.react == 2 }
    else s.prescribedStop (s.setOf c) 0x0A01
  else s

/-- Whether the commanded and the measured position differ beyond the window (R281). -/
def axDeviates (k : AxCfg) (a : AxModule) : Bool :=
  let want := if k.mode = axStepper then turns a.pw.m.toInt (256 * k.fullSteps.toNat) else a.latched.pos.toInt
  k.devEn && a.started && decide (k.window.toNat * 65536 < (want - axPosition k a).natAbs)

/-- Stall detection at a span instant (R281): the spans in a row that meet a condition reach FB_n_STALL.spans + 1. -/
def State.axStalls (s : State) (n : Nat) : State :=
  let a := s.axm n
  let k := s.axCfg n
  let need := k.stallSpans.toNat + 1
  let dev := if axDeviates k a then a.fb.devRun + 1 else 0
  let la := if a.fb.laOver then a.fb.laRun + 1 else 0
  let s := s.setAxm n { a with fb := { a.fb with devRun := dev, laRun := la, laOver := false } }
  let s := if dev = need then s.axStall n false else s
  if la = need then s.axStall n true else s

/-- A span instant in a module (R265, R266, R275 to R277, R281): latches the set-point, forms the gather panel that the engine reads, and restarts the carrier. -/
def State.axInstant (s : State) (n : Nat) : State :=
  let k := s.axCfg n
  if !k.enable then s
  else
    let a := s.axm n
    let s := if k.syncIn then s else s.setAxm n { a with pw := { a.pw with count := 0, down := false } }
    if !s.axServes n then s.axSettle n
    else
      let a := s.axm n
      let a := a.latch s.spanNs
      let v := BitVec.ofInt 32 (axVelocity k a s.spanNs)
      let x := BitVec.ofInt 64 (axPosition k a)
      let a := { a with fb := { a.fb with velocity := v, window := (a.fb.count :: a.fb.window).take 16 } }
      let p : Measured := { x := x, v := v, torque := BitVec.ofInt 32 (axTorque k a), status := a.status, temp := 0x80 }
      let s := s.setAxm n { a with warn := false, fb := { a.fb with samples := [] } }
      let s := s.setChan (64 + n) { s.chan (64 + n) with measured := p }
      ((s.axStalls n).axSteps n).axSettle n

/-- A channel not complete at a deliver cut-off: counted, and the controlled stop of its arm whatever the class of the event (R32, R145). -/
def State.lateChan (s : State) (c : Nat) : State :=
  let l := s.le
  let s := { s with le := { l with
    lateChannels := inc l.lateChannels, lateRuns := if l.lateSeen then l.lateRuns else inc l.lateRuns, lateSeen := true } }
  s.prescribedStop (s.chanCfg c).arm.toNat 0x0102

/-- The earliest deliver cut-off of a span, at the TB0 instant `at_` (R265): a local channel takes the set-point that the run has posted by its stamp; one not posted by then is a deck that is not applied. -/
def State.axCutoff (s : State) (at_ : Nat) : State :=
  if s.ax.cutoff then s
  else
    let s := { s with ax := { s.ax with cutoff := true } }
    s.each (upto 8) (fun s n =>
      if !((s.chanCfg (64 + n)).used && s.axServes n) then s
      else if s.chanDone (64 + n) at_ then s.setAxm n { s.axm n with next := some (s.chan (64 + n)).post }
      else s.lateChan (64 + n))

/-- AX_STALL_CLEAR on the state it acts on: rejected while a stall condition still holds (R282). -/
def State.axStallClear (n : Nat) (s : State) : State × Answer :=
  let a := s.axm n
  if a.fb.devRun != 0 || a.fb.laRun != 0 then (s, { status := stCausePresent })
  else (s.setAxm n { a with fb := { a.fb with active := false } }, {})

/-- AX_STALL_CLEAR (R282). -/
def execAxStallClear (p : Packet) (s : State) : Host.Outcome State Fault Refusal :=
  let n := param p.params 0 1
  done (serve s p 0x0305 (unusedZero p.params [(0, 1)] && decide (n < 8)) [] fun s =>
    replicate s 0x0305 p.params [] 0 (State.axStallClear n))

/-- A read of FB_n_POS_LO latches POS_HI (R283). -/
def State.readPosLo (s : State) (by_ : Requester) (n : Nat) : State :=
  s.latch by_ (latchPos n) (((s.axm n).fb.count.extractLsb' 32 16).setWidth 32)

def execFbPosLoRead (by_ : Requester) (n : BitVec 3) (s : State) : Host.Outcome State Fault Refusal :=
  done ((s.readPosLo by_ n.toNat).returned ((s.axm n.toNat).fb.count.setWidth 32))

end Sys2Proof.Machine
end

