-- ==== Sys2Proof/Machine/Container.lean ====
section
/-! DEFINITION. Containers of the Parapet safety layer and their acceptance in a channel (R247 to R255). -/
namespace Sys2Proof.Machine

def ConnKind.code : ConnKind → Nat
  | .safeState => 1
  | .demand => 2
  | .fields => 3
  | .track => 4
  | .io => 5

/-- Whether this device sends on the connection (R203, R249). -/
def ConnCfg.sends (c : ConnCfg) : Bool := c.kind == .demand || c.outbound

/-- What both checks run over: the identity and octets 0 to 14 (R249). -/
def checked (id : W64) (o : Octets) : Octets := leBytes 8 id.toNat ++ sliceO o 0 15

def checkA (id : W64) (o : Octets) : W32 := crcOf .crc32c (checked id o)
def checkB (id : W64) (o : Octets) : W32 := crcOf .crc32 (checked id o)

/-- Whether a channel's own check of a container passes (R247, R250). -/
def checkGood (ch : Channel) (id : W64) (o : Octets) : Bool :=
  match ch with
  | .a => checkA id o == u32 o 15
  | .b => checkB id o == u32 o 19

/-- Octets 0 to 6 of a container that this device creates (R247). -/
def containerHeader (c : ConnCfg) (seq : W16) (stamp : W32) : Octets :=
  [BitVec.ofNat 8 (c.kind.code + 128)] ++ leBytes 2 seq.toNat ++ leBytes 4 stamp.toNat

/-- The age of a stamp, mod 2^32 as signed (R251). -/
def ageOf (now stamp : W32) : Int := (now - stamp).toInt

/-- An ACCEPTED connection whose newest accepted container is older than the watchdog time is SAFE (R254). -/
def SafConn.expired (k : SafConn) (wd : Nat) (now : W32) : SafConn :=
  if k.state = .accepted ∧ (wd : Int) < ageOf now k.newest then { k with state := .safe, run := 0 } else k

/-- How a channel took a container (R251, R253). -/
inductive Took where
  | accepted
  | resynchronised
  | refused
  deriving DecidableEq, Repr

/-- An accepted container (R254). -/
def SafConn.accept (k : SafConn) (o : Octets) : SafConn :=
  let k := { k with lastSeq := u16 o 1, lastStamp := u32 o 3, newest := u32 o 3, payload := sliceO o 7 8, resync := none }
  match k.state with
  | .starting => { k with state := .accepted }
  | .accepted => k
  | .safe => if 1 ≤ k.run then { k with state := .accepted, run := 0 } else { k with run := k.run + 1 }

/-- The restrictive bits of resynchronising containers joined (R253): a bit clear restricts for IO, a bit set for the others. -/
def ConnKind.join (k : ConnKind) (a b : Octets) : Octets :=
  List.zipWith (fun x y => if k = .io then x &&& y else x ||| y) a b

/-- Tests 1, 2 and 5 of R251; `low` is the lower bound of the age. -/
def tests125 (ch : Channel) (c : ConnCfg) (o : Octets) (now : W32) (low : Int) : Bool :=
  o.length == 24 && checkGood ch c.identity o
    && (u8 o 0).toNat % 64 == c.kind.code && (u8 o 0).getLsbD 7 == c.sends
    && decide (low ≤ ageOf now (u32 o 3)) && decide (ageOf now (u32 o 3) ≤ (c.tExpNs : Int))

/-- A channel takes a container of a connection (R251, R253, R254). A SAFE_STATE container with position_valid clear is not accepted (R204); that is no test of R251, so it resynchronises as any other. -/
def SafConn.take (k : SafConn) (ch : Channel) (c : ConnCfg) (o : Octets) (now : W32) (low : Int) : SafConn × Took :=
  let k := k.expired c.tWdNs now
  let no : SafConn × Took := ({ k with run := 0 }, .refused)
  if !tests125 ch c o now low then no
  else if !k.started then ({ k with started := true, lastSeq := u16 o 1, lastStamp := u32 o 3 }, .refused)
  else if 0x80000000 ≤ (u32 o 3 - k.lastStamp).toNat then no
  else
    let d := (u16 o 1 - k.lastSeq).toNat
    let valid := !(c.kind == .safeState) || (u8 o 13).getLsbD 5
    if d = 1 then (if valid then (k.accept o, .accepted) else no)
    else if 2 ≤ d ∧ d ≤ 32768 then
      let p := sliceO o 7 8
      ({ k with lastSeq := u16 o 1, lastStamp := u32 o 3, run := 0
                resync := some (match k.resync with | some q => c.kind.join q p | none => p) }, .resynchronised)
    else no

/-- Whether a connection is accepted at an evaluation (R254). -/
def SafConn.isAccepted (k : SafConn) (c : ConnCfg) (now : W32) : Bool := (k.expired c.tWdNs now).state == .accepted

/-- The occupied fields of an accepted FIELDS connection, with the restrictive bits of a resynchronising container (R253). -/
def SafConn.fields (k : SafConn) : W64 :=
  u64 k.payload 0 ||| (match k.resync with | some o => u64 o 0 | none => 0)

/-- The bits of an accepted IO connection in a channel: a_bits or b_bits (R248, R253). -/
def SafConn.bits (k : SafConn) (ch : Channel) : W32 :=
  let off := match ch with | .a => 0 | .b => 4
  u32 k.payload off &&& (match k.resync with | some o => u32 o off | none => 0xFFFFFFFF)

def State.conns (s : State) : Table ConnCfg := s.cfg.safety.conns
def State.connCfg (s : State) (n : Nat) : ConnCfg := Table.get {} s.cfg.safety.conns n
def State.wconn (s : State) (n : Nat) : SafConn := Table.get {} s.saf.conns n
def State.setWconn (s : State) (n : Nat) (k : SafConn) : State := { s with saf := { s.saf with conns := Table.put {} s.saf.conns n k } }
def State.pconn (s : State) (n : Nat) : SafConn := Table.get {} s.par.conns n
def State.setPconn (s : State) (n : Nat) (k : SafConn) : State := { s with par := { s.par with conns := Table.put {} s.par.conns n k } }

/-- Warden's time for a connection: TB0, or TB1 on plant time (R251). -/
def State.wardenNow (s : State) (c : ConnCfg) : W32 :=
  if c.plantTime then s.tb.tb1.ns.setWidth 32 else s.tb.tb0.ns.setWidth 32

/-- Warden takes a container (R251); what it does not accept is counted (R233). -/
def State.wardenTakes (s : State) (n : Nat) (o : Octets) : State :=
  let c := s.connCfg n
  let s := { s with saf := { s.saf with raw := Table.put [] s.saf.raw n o } }
  if s.saf.halted || !c.used || !c.warden then s
  else
    let r := (s.wconn n).take .a c o (s.wardenNow c) (-1000)
    let s := s.setWconn n r.1
    if r.2 = .accepted then s else { s with saf := { s.saf with rejects := inc s.saf.rejects } }

/-- The connections of a ring enter STARTING in Warden (R254). -/
def State.wardenStarts (s : State) (hit : ConnCfg → Bool) : State :=
  s.each ((s.conns.filter (fun e => hit e.2)).map (fun e => e.1)) (fun s n => s.setWconn n {})

end Sys2Proof.Machine
end

