-- ==== Sys2Proof/Machine/Line.lean ====
section
/-! DEFINITION. What a ring port transmits: code groups with running disparity, ordered sets, decks and probes (R71, R72, R107). A code group's bit 9 is transmitted first. -/
namespace Sys2Proof.Machine

/-- A data or a control octet (R72). -/
inductive Symbol where
  | d (b : Byte)
  | k (b : Byte)
  deriving DecidableEq, Repr

/-- The 6-bit code of a data octet's low five bits at negative running disparity (IEEE 802.3 Clause 36). -/
def code6 : List (BitVec 6) :=
  [0b100111, 0b011101, 0b101101, 0b110001, 0b110101, 0b101001, 0b011001, 0b111000,
   0b111001, 0b100101, 0b010101, 0b110100, 0b001101, 0b101100, 0b011100, 0b010111] ++
  [0b011011, 0b100011, 0b010011, 0b110010, 0b001011, 0b101010, 0b011010, 0b111010,
   0b110011, 0b100110, 0b010110, 0b110110, 0b001110, 0b101110, 0b011110, 0b101011]

/-- The 4-bit code of a data octet's high three bits at negative running disparity. -/
def code4 : List (BitVec 4) := [0b1011, 0b1001, 0b0101, 0b1100, 0b1101, 0b1010, 0b0110, 0b1110]

/-- Ones of a code. -/
def onesOf (n v : Nat) : Nat := ((upto n).filter (fun i => v.testBit i)).length

/-- Running disparity after a code group of ten bits. -/
def nextDisparity (rd : Bool) (g : BitVec 10) : Bool :=
  let n := onesOf 10 g.toNat
  if 5 < n then true else if n < 5 then false else rd

/-- A data code group (Clause 36): each sub-block is complemented at positive disparity where it is not neutral; the alternate 4-bit code of 7 avoids five equal bits. -/
def dataGroup (rd : Bool) (b : Byte) : BitVec 10 :=
  let x := b.toNat % 32
  let y := b.toNat / 32
  let c := code6.getD x 0
  let six := if rd && (onesOf 6 c.toNat != 3 || x == 7) then ~~~c else c
  let mid := if onesOf 6 c.toNat = 3 then rd else !rd
  let alt := y == 7 && (if mid then x == 11 || x == 13 || x == 14 else x == 17 || x == 18 || x == 20)
  let e : BitVec 4 := if alt then 0b0111 else code4.getD y 0
  let four := if mid && (onesOf 4 e.toNat != 2 || y == 3) then ~~~e else e
  six ++ four

/-- The control code groups that R72 uses, at negative running disparity: K28.1, K28.5, K23.7, K27.7 and K29.7. -/
def controlGroup (b : Byte) : BitVec 10 :=
  match b.toNat with
  | 0x3C => 0b0011111001
  | 0xBC => 0b0011111010
  | 0xF7 => 0b1110101000
  | 0xFB => 0b1101101000
  | _ => 0b1011101000

/-- A symbol's code group. -/
def Symbol.group (rd : Bool) : Symbol → BitVec 10
  | .d b => dataGroup rd b
  | .k b => if rd then ~~~(controlGroup b) else controlGroup b

/-- Symbols in order, with the running disparity that they leave. -/
def encodeLine (rd : Bool) : List Symbol → List (BitVec 10) × Bool
  | [] => ([], rd)
  | x :: t =>
    let g := x.group rd
    let r := encodeLine (nextDisparity rd g) t
    (g :: r.1, r.2)

/-- Deck start, octets and deck end (R72, R74). An odd octet of a deck that was cut is left out: the deck end falls on an even position (DESIGN CHOICE, log entry 34). -/
def deckLine (d : Octets) : List Symbol :=
  let b := d.drop 1
  [.k 0xFB, .d (d.headD 0)] ++ (b.take (b.length / 2 * 2)).map .d ++ [.k 0xFD, .k 0xF7]

/-- The eight idles that follow at least (R72, R74): after a deck end at positive disparity the first is K28.5 D5.6. -/
def idleLine (rd : Bool) : List Symbol :=
  [.k 0xBC, .d (if rd then 0xC5 else 0x50)] ++ (List.replicate 7 [Symbol.k 0xBC, .d 0x50]).flatten

/-- A probe of 7 octets (R107). -/
def probeLine (o : Octets) : List Symbol := .k 0x3C :: (sliceO o 0 7).map .d

/-- A port transmits symbols that begin on an even position, and the idles after them (R72, R74). -/
def State.transmits (s : State) (port : Nat) (l : List Symbol) : State :=
  let o := s.port port
  let a := encodeLine o.disparity l
  let b := encodeLine a.2 (idleLine a.2)
  s.setPort port { o with line := a.1 ++ b.1, disparity := b.2 }

/-- The octets of a probe (R107): kind, seq and the residence, 0 in a request. -/
def probeOctets (kind seq : Byte) (residence : BitVec 40) : Octets := [kind, seq] ++ leBytes 5 residence.toNat

end Sys2Proof.Machine
end

