-- ==== Sys2Proof/Machine/Deck.lean ====
section
/-! DEFINITION. The deck: types, regions, header, check (R72 to R80, R84, R88), and the ports, claims and mailboxes of the rings (R70, R78, R84, R85, R376). A deck is given as its deck-type octet and then the octets from header octet 0 through the check. -/
namespace Sys2Proof.Machine

def typeCold : Byte := 1
def typeIntegrate : Byte := 2
def typeGather : Byte := 3
def typeDeliver : Byte := 4
def typeRecover : Byte := 5

/-- T (R75). -/
def bayT (g : Bool) : Nat := if g then 68 else 0

/-- C: the safety connections of a ring (R75, R257). -/
def RingCfg.bays (c : RingCfg) : Nat := max c.bayIn.length c.bayOut.length

def RingCfg.panelLen (c : RingCfg) (g : Bool) : Nat := (if g then c.panelG else c.panelD).toNat

def claimAt (g : Bool) : Nat := 16 + bayT g
def stopAt (g : Bool) : Nat := 28 + bayT g
def panelAt (g : Bool) : Nat := 36 + bayT g
def RingCfg.bayAt (c : RingCfg) (g : Bool) (i : Nat) : Nat := 36 + bayT g + c.panelLen g + 24 * i
def RingCfg.mailAt (c : RingCfg) (g : Bool) (b : Nat) : Nat := c.bayAt g c.bays + 64 * b

/-- L (R75). -/
def RingCfg.deckLen (c : RingCfg) (g : Bool) : Nat := 168 + bayT g + c.panelLen g + 24 * c.bays

def deckType (d : Octets) : Byte := d.headD 0
def deckBody (d : Octets) : Octets := d.drop 1

/-- The octets of a body without its check, and the check it carries. -/
def covered (b : Octets) : Octets := b.take (b.length - 4)
def checkOf (b : Octets) : W32 := u32 b (b.length - 4)

/-- A body with a check: C_out, or its inverse (R88). -/
def sealDeck (b : Octets) (poison : Bool) : Octets :=
  let c := crc32c (covered b)
  covered b ++ leBytes 4 (if poison then ~~~c else c).toNat

/-- What a receiver finds of a deck (R73, R88, R89). -/
inductive Verdicted where
  | good
  | damaged
  | poisoned
  | malformed
  | unknown
  deriving DecidableEq, Repr

/-- Whether the form of a deck is right: the type copy, the length field, the greatest length (R74, R76, R89). -/
def formGood (d : Octets) : Bool :=
  let b := deckBody d
  u8 b 0 == deckType d && (u16 b 8).toNat == b.length && decide (b.length ≤ 2048) && b.length % 4 == 0 && decide (20 ≤ b.length)

def judgeDeck (d : Octets) : Verdicted :=
  let b := deckBody d
  if (deckType d).toNat = 0 ∨ 5 < (deckType d).toNat then .unknown
  else if !formGood d then .malformed
  else if checkOf b = crc32c (covered b) then .good
  else if checkOf b = ~~~(crc32c (covered b)) then .poisoned
  else .damaged

/-- The gather layout: GATHER, or RECOVER without deliver_layout (R73, R75). -/
def gatherLayout (d : Octets) : Bool :=
  deckType d == typeGather || (deckType d == typeRecover && !(u8 (deckBody d) 1).getLsbD 1)

/-- The bits of the stop bay of a layout, where it arrived whole (R93). -/
def stopBitsIn (g : Bool) (d : Octets) : W64 :=
  let b := deckBody d
  if b.length < stopAt g + 8 then 0 else u64 b (stopAt g)

/-- The stop bits of a deck by the layout that its type octet names (R93). -/
def stopBits (d : Octets) : W64 := stopBitsIn (gatherLayout d) d

/-- The ring of a port, if it has a ring role (R70). -/
def ringOfPort (p : Nat) : Option Nat :=
  if p < 16 then some (p / 2)
  else if p < 18 then some 13
  else if p < 20 then none
  else if p < 24 then some (8 + (p - 20) / 2)
  else if p < 26 then none
  else some (10 + (p - 26) / 2)

def State.portCfg (s : State) (p : Nat) : PortCfg := Table.get {} s.cfg.ports p

/-- An enabled port: the catalogue's enables hold from LOADED onwards, and every port is idle in DORMANT (R70). -/
def State.portEnabled (s : State) (p : Nat) : Bool := s.dev.cell != .uncatalogued && !s.pwr.dormant && !s.pwr.inReset && (s.portCfg p).enabled

/-- A port connected under R71: enabled, and link up. -/
def State.connected (s : State) (p : Nat) : Bool := s.portEnabled p && (s.port p).linkUp

/-- A keystone sends a deck (R72, R74, R120): on its east port, and in line mode on each port that is link up. -/
def State.sendDeck (s : State) (r : Nat) (d : Octets) : State :=
  let g := s.ring r
  if g.phase = .line ∨ g.lineStart then
    s.each [eastPort r, westPort r] (fun s p => if (s.port p).linkUp then s.transmits p (deckLine d) else s)
  else s.transmits (eastPort r) (deckLine d)

/-- Counts a received deck on a port (R95). -/
def State.countDeck (s : State) (p : Nat) (v : Verdicted) : State :=
  let o := s.port p
  s.setPort p (match v with
    | .good => { o with deckOk := inc o.deckOk }
    | .damaged => { o with damaged := inc o.damaged }
    | .poisoned => { o with poisoned := inc o.poisoned }
    | .malformed => { o with malformed := inc o.malformed }
    | .unknown => { o with unknown := inc o.unknown })

def RingPhase.code : RingPhase → Nat
  | .silent => 0
  | .cold => 1
  | .integrate => 2
  | .running => 3
  | .line => 4

/-- The ring claim (R376). At a cold start each unit uses its catalogue claim unless its partner reports itself ACTIVE. -/
def State.ringClaim (s : State) (r : Nat) : Byte :=
  let c := (s.ringCfg r).claim
  if !s.shared r then c
  else
    match s.red.role with
    | .active => c
    | _ =>
      match (s.ring r).start with
      | .listening => if s.red.partnerRole = 1 then 0 else c
      | .originating => c
      | .backoff => c
      | _ => 0

def entryAt (j : Nat) : Nat := 20 + 8 * j

/-- Entry j of a timing bay, none where it is empty (R77). -/
def bayEntry (b : Octets) (j : Nat) : Option Nat :=
  if (sliceO b (entryAt j) 8).all (· == 0xFF) then none
  else some (fieldO b (entryAt j) 6 * 65536 + fieldO b (entryAt j + 6) 2)

/-- The header of a deck (R76). -/
def State.header (s : State) (r : Nat) (type flags : Byte) (len : Nat) : Octets :=
  [type, flags] ++ leBytes 4 s.span32.toNat ++ [s.ringClaim r, BitVec.ofNat 8 r] ++ leBytes 2 len
    ++ leBytes 2 (s.ringCfg r).layoutTag.toNat ++ [0, 0, 0, 0]

/-- Header flags (R76, R113, R120). A DELIVER deck outside line mode has deliver_layout 0: the spec ties the flag to RECOVER decks alone (DESIGN CHOICE, log entry 35). -/
def State.deckFlags (s : State) (r : Nat) (g : Bool) : Byte :=
  let line := (s.ring r).phase == .line
  BitVec.ofNat 8 (b2n line + 2 * b2n (line && !g) + 4 * b2n (s.ring r).weakSync + 8 * b2n (!s.dev.cell.closed))

/-- The deck type of a ring's decks: RECOVER in line mode (R120). -/
def State.cycleType (s : State) (r : Nat) (g : Bool) : Byte :=
  if (s.ring r).phase == .line then typeRecover else if g then typeGather else typeDeliver

/-- An empty mailbox bay (R84). -/
def emptyBay (src : Byte) : Octets := [0xFF, src] ++ List.replicate 62 0

/-- A mailbox bay (R84). -/
def mailBay (dest src kind seq : Byte) (total off : Nat) (data : Octets) : Octets :=
  [dest, src, kind, seq] ++ leBytes 2 total ++ leBytes 2 off ++ sliceO data 0 56

/-- An acknowledge (R84, R85): for its total and offset the spec states no value, and both are 0 (DESIGN CHOICE, log entry 35). -/
def ackBay (dest src seq : Byte) : Octets := mailBay dest src 3 seq 0 0 []

/-- The segment that a message sends next: a request, the last one marked (R84). -/
def MailTx.segment (m : MailTx) : Octets :=
  let part := (m.data.drop m.offset).take 56
  let last := decide (m.data.length ≤ m.offset + 56)
  mailBay m.dest 0 (if last then 0x81 else 0x01) m.seq m.data.length m.offset part

/-- The next segment of a message, or none at its end. -/
def MailTx.advance (m : MailTx) : Option MailTx :=
  if m.data.length ≤ m.offset + 56 then none
  else some { m with offset := m.offset + 56, seq := m.seq + 1, sent := false, decks := 0, tries := 0 }

/-- The message of a ring ends with an answer (R85). -/
def State.mailEnds (s : State) (r : Nat) (m : MailTx) (ok : Bool) : State :=
  let g := s.ring r
  let g := { g with tx := none, txSeq := Table.put 0 g.txSeq m.dest.toNat (m.seq + 1)
                    failures := if ok then g.failures else inc g.failures }
  (s.setRing r g).replyLater m.queue.toNat
    { status := if ok then 0x0000 else 0x000E, r0 := m.retransmissions.setWidth 32 }

/-- The segment in flight is done with: the next one, or the end of the message. -/
def State.mailNext (s : State) (r : Nat) (m : MailTx) : State :=
  match m.advance with
  | some n => s.setRing r { s.ring r with tx := some n }
  | none => s.mailEnds r m true

/-- Mailbox bay 0 of a deck that departs: an acknowledge that is due, else the segment that waits (R84, R85). A broadcast segment needs no acknowledgement. -/
def State.mailOut (s : State) (r : Nat) : State × Octets :=
  let g := s.ring r
  let age := fun (m : MailTx) => if m.sent then { m with decks := m.decks + 1 } else m
  match g.acks with
  | a :: rest => (s.setRing r { g with acks := rest, tx := g.tx.map age }, ackBay a.1 0 a.2)
  | [] =>
    match g.tx with
    | none => (s, emptyBay 0)
    | some m =>
      if m.sent then (s.setRing r { g with tx := some (age m) }, emptyBay 0)
      else if m.dest = 0xFE then (s.mailNext r m, m.segment)
      else (s.setRing r { g with tx := some { m with sent := true, decks := 0 } }, m.segment)

/-- The keystone takes what a node has put into bay 1 of a verified deck (R84, R85): an acknowledge of its own segment, or a segment of a message, which is acknowledged. -/
def State.mailIn (s : State) (r : Nat) (o : Octets) : State :=
  let g := s.ring r
  let src := u8 o 1
  let kind := u8 o 2
  let seq := u8 o 3
  if u8 o 0 ≠ 0 then s
  else if kind &&& 0x7F = 3 then
    match g.tx with
    | none => s
    | some m => if m.sent && m.dest == src && m.seq == seq then s.mailNext r m else s
  else
    let k := src.toNat
    let g := { g with acks := g.acks ++ [(src, seq)] }
    if Table.get 0 g.rxSeq k = 0x100 + seq.setWidth 16 then s.setRing r g
    else
      let total := u16 o 4
      let off := (u16 o 6).toNat
      let old := Table.get {} g.rxPart k
      let old := if off = 0 then ({ src := src, total := total } : MailRx) else old
      let part := { old with data := (sliceO old.data 0 off) ++ sliceO o 8 (min 56 (total.toNat - off)) }
      let g := { g with rxSeq := Table.put 0 g.rxSeq k (0x100 + seq.setWidth 16) }
      if kind.getLsbD 7 then
        (s.setRing r { g with rxPart := Table.put {} g.rxPart k {}, rxDone := g.rxDone ++ [part] }).vector 21
      else s.setRing r { g with rxPart := Table.put {} g.rxPart k part }

end Sys2Proof.Machine
end

