-- ==== Sys2Proof/Machine/FieldIo.lean ====
section
/-! DEFINITION. Field inputs and outputs (R284 to R295): writes of DIO_OUT, the exchange with the field die, sampling, output faults and the field watchdog. -/
namespace Sys2Proof.Machine

def pins48 : List Nat := upto 48

/-- A set of pins as bits. -/
def pinSet (f : Nat → Bool) : BitVec 48 := pins48.foldl (fun v p => if f p then v ||| (1 <<< p) else v) 0

/-- The pins that the catalogue makes outputs, as DIO_DIR shows them. -/
def State.dioDir (s : State) : BitVec 48 := pinSet (fun p => (s.pinCfg p).output)

def ones {w : Nat} (x : BitVec w) : Nat := ((upto w).filter (fun i => x.getLsbD i)).length

/-- Writes the bits of `mask` to `value`; a bit of an input pin is not stored and is counted (R290). -/
def State.dioSet (s : State) (mask value : BitVec 48) : State :=
  let dir := s.dioDir
  let m := mask &&& dir
  { s with dio := { s.dio with
    out := (s.dio.out &&& ~~~ m) ||| (value &&& m)
    refused := satAdd s.dio.refused (ones (mask &&& ~~~ dir)) } }

/-- The bits of a 32-bit half of DIO_OUT. -/
def halfBits (hi : Bool) (v : W32) : BitVec 48 := if hi then (v.setWidth 48 &&& 0xFFFF) <<< 32 else v.setWidth 48

def execDioOutWrite (by_ : Requester) (hi : Bool) (value : W32) (s : State) : Host.Outcome State Fault Refusal :=
  if by_ = .host then done s.hostRefused else done (s.dioSet (halfBits hi 0xFFFFFFFF) (halfBits hi value))

def execDioOutSet (by_ : Requester) (hi : Bool) (value : W32) (s : State) : Host.Outcome State Fault Refusal :=
  if by_ = .host then done s.hostRefused else done (s.dioSet (halfBits hi value) (halfBits hi value))

def execDioOutClr (by_ : Requester) (hi : Bool) (value : W32) (s : State) : Host.Outcome State Fault Refusal :=
  if by_ = .host then done s.hostRefused else done (s.dioSet (halfBits hi value) 0)

/-- DIO_WRITE on the state it acts on (R290). -/
def State.dioWrite (params : BitVec 448) (s : State) : State × Answer :=
  let set := BitVec.ofNat 48 (param params 0 8)
  let clr := BitVec.ofNat 48 (param params 8 8)
  (s.dioSet (set ||| clr) set, {})

/-- Whether the masks of DIO_WRITE name pins and share none (R350, R353). -/
def dioMasksGood (p : BitVec 448) : Bool :=
  let set := param p 0 8
  let clr := param p 8 8
  unusedZero p [(0, 16)] && decide (set < 2 ^ 48) && decide (clr < 2 ^ 48)
    && (BitVec.ofNat 64 set &&& BitVec.ofNat 64 clr) == 0

/-- DIO_WRITE (R290). -/
def execDioWrite (p : Packet) (s : State) : Host.Outcome State Fault Refusal :=
  done (serve s p 0x0601 (dioMasksGood p.params) [] fun s => replicate s 0x0601 p.params [] 0 (State.dioWrite p.params))

/-- DIO_CLEAR on the state it acts on: the fault bit clears, latched outputs are released by the next frame (R293). -/
def State.dioClear (s : State) : State × Answer := ({ s with dio := { s.dio with fault := false, clearReq := true } }, {})

def execDioClear (p : Packet) (s : State) : Host.Outcome State Fault Refusal :=
  done (serve s p 0x0602 (unusedZero p.params []) [] fun s => replicate s 0x0602 p.params [] 0 State.dioClear)

/-- Freezes DIO_OUT for the frame of the next span instant (R290). -/
def State.freezeOutputs (s : State) : State := { s with dio := { s.dio with frozen := s.dio.out } }

/-- DIO_OUT frozen 2 µs before the span instant, in a span without a deliver cut-off (R290). -/
def execOutputFreeze (s : State) : Host.Outcome State Fault Refusal :=
  if !s.came .outputFreeze then done s
  else
    let s := s.disarm .outputFreeze
    if s.ax.cutoff then done s else done s.freezeOutputs

/-- The core die sends an exchange frame with a new sequence number (R285): the frozen image, or all off in UNCATALOGUED (R290). -/
def State.sendFrame (s : State) : State :=
  let cat := s.dev.cell != .uncatalogued
  let d := s.dio
  { s with dio := { d with
    frame := { image := if cat then d.frozen else 0, catalogued := cat, clear := d.clearReq, cntClear := d.cntClearReq
               faultSafe := s.dev.cell == .fault, seq := d.frame.seq + 1
               span := s.span32, ns32 := s.tb.tb0.ns.setWidth 32, tb2 := s.tb.tb2.ns }
    clearReq := false, cntClearReq := false
    die := { d.die with atInstant := d.die.filtered } } }

/-- Whether VFIELD of a pin's group lies at or above 16 V (R284). -/
def State.groupAlive (s : State) (p : Nat) : Bool := s.pwr.aboveReset.getLsbD (6 + p / 8)

def FieldDie.pin (d : FieldDie) (p : Nat) : PinCfg := Table.get {} d.pins p

/-- An output's safe state (R294). -/
def safeLevel (k : PinCfg) (hold : Bool) : Bool :=
  match k.safe.toNat with
  | 0 => false
  | 1 => true
  | _ => hold

/-- The level of an output pin (R284, R291 to R294). -/
def FieldDie.level (d : FieldDie) (alive : Bool) (p : Nat) : Bool :=
  let k := d.pin p
  if !k.output || !alive || d.latchedOff.getLsbD p then false
  else if d.safe then safeLevel k (d.hold.getLsbD p)
  else if d.faultSafe && k.faultSafe then safeLevel k (d.faultHold.getLsbD p)
  else d.image.getLsbD p

/-- The field die switches its outputs. -/
def State.switchOutputs (s : State) : State :=
  let d := s.dio.die
  { s with dio := { s.dio with die := { d with outputs := pinSet (fun p => d.level (s.groupAlive p) p) } } }

/-- The power-on values of the field die (R286). -/
def State.fieldReset (s : State) : State := { s with dio := { s.dio with die := {} } }

/-- The counters of the field die clear with the frame that carries the request (R434). -/
def State.dioCounters (s : State) : State :=
  { s with dio := { s.dio with
    frameErr := 0, faults := 0, wdExpiries := 0, wdExpired := false
    die := { s.dio.die with frameErr := 0 } } }

/-- The field die takes a frame (R285, R291, R294). In UNCATALOGUED the frame is sent in the same command (log entry 16). A bad or repeated frame is ignored and counted. A core die that is down sends none. -/
def execExchangeFrame (good : Bool) (s : State) : Host.Outcome State Fault Refusal :=
  if s.pwr.inReset || s.pwr.dormant then done s
  else
  let s := if s.dev.cell == .uncatalogued then s.sendFrame else s
  let f := s.dio.frame
  let d := s.dio.die
  if !good || d.lastSeq == some f.seq then
    done { s with dio := { s.dio with die := { d with frameErr := d.frameErr + 1, goodFrames := 0 } } }
  else
    let n := d.goodFrames + 1
    let d := { d with
      lastSeq := some f.seq, answerDue := true
      pins := if f.catalogued then s.cfg.pins else []
      latchedOff := if f.clear then 0 else d.latchedOff
      faultHold := if f.faultSafe && !d.faultSafe then d.image else d.faultHold
      faultSafe := f.faultSafe, image := f.image
      goodFrames := if d.safe then (if n = 8 then 0 else n) else 0
      safe := d.safe && n != 8 }
    let s := { s with dio := { s.dio with die := d } }
    let s := if f.cntClear then s.dioCounters else s
    done s.switchOutputs

/-- The input image of an answer (R289): filtered levels of input pins, 0 in a group without VFIELD (R284), and the commanded state of output pins. -/
def State.inputAnswer (s : State) : BitVec 48 :=
  let d := s.dio.die
  pinSet (fun p => if (d.pin p).output then d.image.getLsbD p else s.groupAlive p && d.atInstant.getLsbD p)

/-- An event of the field die, stamped with the span instant of the frame whose answer reports it (R424). -/
def State.raiseField (s : State) (code : W16) : State :=
  let f := s.dio.frame
  s.raise { code := code, source := srcField, coarse := true, span := some f.span, ns32 := some f.ns32, tb2 := some f.tb2 }

/-- The core die takes the answer (R285): the input image waits for publication, faults and expiries of the field die are counted and raised (R292, R294). A bad answer leaves DIO_IN unchanged. -/
def execExchangeAnswer (good : Bool) (s : State) : Host.Outcome State Fault Refusal :=
  let d := s.dio.die
  if !d.answerDue then done s
  else
    let s := { s with dio := { s.dio with die := { d with answerDue := false } } }
    if !good then done { s with dio := { s.dio with frameErr := inc s.dio.frameErr } }
    else
      let img := s.inputAnswer
      let s := { s with dio := { s.dio with
        received := some img, safeActive := d.safe, vfieldOk := s.pwr.aboveReset.extractLsb' 6 6
        fault := s.dio.fault || d.faultDue != 0
        wdExpired := s.dio.wdExpired || d.expiryDue != 0
        frameErr := satAdd s.dio.frameErr d.frameErr
        faults := satAdd s.dio.faults d.faultDue
        wdExpiries := satAdd s.dio.wdExpiries d.expiryDue
        die := { s.dio.die with faultDue := 0, expiryDue := 0, frameErr := 0 } } }
      let s := s.each (upto d.faultDue) (fun s _ => s.raiseField 0x0B01)
      done (s.each (upto d.expiryDue) (fun s _ => s.raiseField 0x0B02))

/-- The input image is published at the span instant + 4 µs (R289); an active unit sends it to its partner (R379, R381). -/
def execDioInPublish (s : State) : Host.Outcome State Fault Refusal :=
  if !s.came .inPublish then done s
  else
  let s := s.disarm .inPublish
  match s.dio.received with
  | none => done s
  | some i =>
    let s := { s with dio := { s.dio with inputs := i, received := none } }
    if s.cfg.pair.pair && s.red.role == .active then done { s with red := { s.red with outbox := s.red.outbox ++ [.fieldImage i] } }
    else done s

/-- An output fault latches its outputs off (R292). The core die learns of it by the next answer. -/
def execFieldOutputFault (pin : BitVec 6) (wholeGroup : Bool) (s : State) : Host.Outcome State Fault Refusal :=
  let d := s.dio.die
  let hit := fun p => (d.pin p).output && (if wholeGroup then p / 8 == pin.toNat / 8 else p == pin.toNat)
  let off := pinSet hit
  if off = 0 then done s
  else
    let s := { s with dio := { s.dio with die := { d with latchedOff := d.latchedOff ||| off, faultDue := d.faultDue + 1 } } }
    done s.switchOutputs

/-- The field watchdog runs out (R294): every output takes its safe state. -/
def execFieldWatchdogExpiry (s : State) : Host.Outcome State Fault Refusal :=
  let d := s.dio.die
  if d.safe then done s
  else
    let s := { s with dio := { s.dio with die := { d with safe := true, hold := d.image, goodFrames := 0, expiryDue := d.expiryDue + 1 } } }
    done s.switchOutputs

/-- One pin's filter takes a sample (R288). -/
def FieldDie.sample (d : FieldDie) (p : Nat) (level : Bool) : FieldDie :=
  if d.filtered.getLsbD p = level then { d with runs := Table.put 0 d.runs p 0 }
  else
    let n := Table.get 0 d.runs p + 1
    if (d.pin p).filter.toNat ≤ n then { d with filtered := bitSet d.filtered p level, runs := Table.put 0 d.runs p 0 }
    else { d with runs := Table.put 0 d.runs p n }

/-- A sampling point of the PULSED or of the CONTINUOUS input pins (R288). A point on the span instant that opens a frame counts for its answer (R289). -/
def execDioSamplingPoint (levels : BitVec 48) (continuous : Bool) (s : State) : Host.Outcome State Fault Refusal :=
  let d := pins48.foldl (fun (d : FieldDie) p =>
    let k := d.pin p
    if k.output || k.continuous != continuous then d
    else d.sample p (s.groupAlive p && levels.getLsbD p)) s.dio.die
  let d := if s.tb.tb2.ns = s.dio.frame.tb2 then { d with atInstant := d.filtered } else d
  done { s with dio := { s.dio with die := d } }

/-- A read of DIO_IN_LO latches DIO_IN_HI (R295). -/
def State.readDioLo (s : State) (by_ : Requester) : State := s.latch by_ latchDio ((s.dio.inputs.extractLsb' 32 16).setWidth 32)

def execDioInLoRead (by_ : Requester) (s : State) : Host.Outcome State Fault Refusal :=
  done ((s.readDioLo by_).returned (s.dio.inputs.setWidth 32))

end Sys2Proof.Machine
end

