-- ==== Sys2Proof/Machine/SafeIo.lean ====
section
/-! DEFINITION. Safe inputs, the demands of both channels, safe outputs and protective stops (R217, R218, R234 to R246, R467). -/
namespace Sys2Proof.Machine

/-- The safety section in force in the Parapet (R259). -/
def State.parSection (s : State) : SafetyCfg :=
  match s.par.selected with
  | none => {}
  | some b => if b then s.par.copyB.section_ else s.par.copyA.section_

/-- The safety section that a channel acts on (R200). -/
def State.sectionOf (s : State) (ch : Channel) : SafetyCfg :=
  match ch with
  | .a => s.cfg.safety
  | .b => s.parSection

def State.parConns (s : State) : Table ConnCfg := s.parSection.conns
def State.parConn (s : State) (n : Nat) : ConnCfg := Table.get {} s.parSection.conns n

/-- The Parapet's connections of a plant port that comes up, or of a ring, are STARTING (R254). -/
def State.parapetStarts (s : State) (hit : ConnCfg → Bool) : State :=
  s.each ((s.parSection.conns.filter (fun e => hit e.2)).map (fun e => e.1)) (fun s n => s.setPconn n {})

def State.chIn (s : State) (ch : Channel) (i : Nat) : SafInput :=
  match ch with
  | .a => Table.get {} s.saf.inputs i
  | .b => Table.get {} s.par.inputs i

def State.setChIn (s : State) (ch : Channel) (i : Nat) (v : SafInput) : State :=
  match ch with
  | .a => { s with saf := { s.saf with inputs := Table.put {} s.saf.inputs i v } }
  | .b => { s with par := { s.par with inputs := Table.put {} s.par.inputs i v } }

def State.chOut (s : State) (ch : Channel) (n : Nat) : SafOutput :=
  match ch with
  | .a => Table.get {} s.saf.outputs n
  | .b => Table.get {} s.par.outputs n

def State.setChOut (s : State) (ch : Channel) (n : Nat) (v : SafOutput) : State :=
  match ch with
  | .a => { s with saf := { s.saf with outputs := Table.put {} s.saf.outputs n v } }
  | .b => { s with par := { s.par with outputs := Table.put {} s.par.outputs n v } }

def State.source (s : State) (ch : Channel) (n : Nat) : PulseSource :=
  match ch with
  | .a => Table.get {} s.saf.sources n
  | .b => Table.get {} s.par.sources n

def State.setSource (s : State) (ch : Channel) (n : Nat) (v : PulseSource) : State :=
  match ch with
  | .a => { s with saf := { s.saf with sources := Table.put {} s.saf.sources n v } }
  | .b => { s with par := { s.par with sources := Table.put {} s.par.sources n v } }

def State.siCfg (s : State) (ch : Channel) (i : Nat) : SiCfg := Table.get {} (s.sectionOf ch).inputs i
def State.soCfg (s : State) (ch : Channel) (n : Nat) : SoCfg := Table.get {} (s.sectionOf ch).outputs n

def inputs16 : List Nat := upto 16
def outputs8 : List Nat := upto 8

def otherChannel : Channel → Channel
  | .a => .b
  | .b => .a

/-- The clock on which a channel measures its durations: TB0 for Warden (R7), its own oscillator for the Parapet (R18). -/
def State.chNow (s : State) (ch : Channel) : W64 :=
  match ch with
  | .a => s.tb.tb0.ns
  | .b => s.par.clock

/-- ns since an instant of a channel's clock. -/
def State.since (s : State) (ch : Channel) (t : W64) : Nat := (s.chNow ch - t).toNat

/-- Whether a connection applies in a channel at this evaluation (R254); the Parapet treats plant-time connections as SAFE (R252). -/
def State.applies (s : State) (ch : Channel) (n : Nat) : Bool :=
  match ch with
  | .a => let c := s.connCfg n; (s.wconn n).isAccepted c (s.wardenNow c)
  | .b =>
    let c := Table.get {} s.parSection.conns n
    match s.parNow with
    | some now => !c.plantTime && (s.pconn n).isAccepted c now
    | none => false

def State.chConn (s : State) (ch : Channel) (n : Nat) : SafConn :=
  match ch with
  | .a => s.wconn n
  | .b => s.pconn n

/-- The connection and the bit that feed a virtual input (R258). -/
def State.virtualOf (s : State) (ch : Channel) (i : Nat) : Option (Nat × Nat) :=
  ((s.sectionOf ch).conns.find? (fun e => e.2.virtualInput == some (BitVec.ofNat 4 i))).map (fun e => (e.1, e.2.virtualBit.toNat))

def State.sourceGood (s : State) (ch : Channel) (t : Option (BitVec 2)) : Bool :=
  match t with
  | none => true
  | some n => !(s.source ch n.toNat).fault

/-- Whether each pin of an input shows its closed level in a channel (R236, R240, R258). -/
def State.pinsShut (s : State) (ch : Channel) (i : Nat) : Bool × Bool :=
  let k := s.siCfg ch i
  match s.virtualOf ch i with
  | some v =>
    let b := s.applies ch v.1 && ((s.chConn ch v.1).bits ch).getLsbD v.2
    (b, b)
  | none =>
    let u := s.chIn ch i
    (u.a.high == some true && s.sourceGood ch k.tpA, u.b.high == some (!k.antivalent) && s.sourceGood ch k.tpB)

/-- Whether an input is closed in a channel (R236, R237, R241, R242). -/
def State.inputShut (s : State) (ch : Channel) (i : Nat) : Bool :=
  let u := s.chIn ch i
  let p := s.pinsShut ch i
  match (s.siCfg ch i).role with
  | .unused => true
  | .guard => p.1 && p.2 && !u.discrepancy && !u.testPulse && u.guardOk
  | _ => p.1 && p.2 && !u.discrepancy && !u.testPulse

/-- Whether an input of a role is open in either channel (R37, R238); while the Parapet does not run its pins show their open level (R235). -/
def State.openInput (s : State) (role : SiRole) : Bool :=
  inputs16.any (fun i =>
    (s.siCfg .a i).role == role && !(s.inputShut .a i && s.par.up && s.inputShut .b i))

/-- The mode's settings in a channel (R239). -/
def State.modeCfg (s : State) (ch : Channel) : ModeCfg :=
  (s.sectionOf ch).modes.getD (match ch with | .a => s.saf.mode | .b => s.par.mode) {}

/-- Speed limit of an arm in the mode of a channel, 0 for none (R239). -/
def State.slsOf (s : State) (ch : Channel) (a : Nat) : W16 := (s.modeCfg ch).sls.getD a 0

/-- Whether the ENABLE input that the mode requires for an arm demands SS2 of it (R238, R239). -/
def State.enableStop (s : State) (ch : Channel) (a : Nat) : Bool :=
  match (s.modeCfg ch).enabling.getD a none with
  | none => false
  | some i => (s.siCfg ch i.toNat).role == .enable && !s.inputShut ch i.toNat && (s.siCfg ch i.toNat).arms.getLsbD a

/-- Whether an open E_STOP input of a stop category demands a stop of an arm (R238). -/
def State.estopOn (s : State) (ch : Channel) (a : Nat) (category0 : Bool) : Bool :=
  inputs16.any (fun i =>
    let k := s.siCfg ch i
    k.role == .eStop && k.category0 == category0 && k.arms.getLsbD a && !s.inputShut ch i)

/-- The bits of a demand field (R203). -/
def demandBits (sto ss1 ss2 sls : Bool) : Byte := BitVec.ofNat 8 (b2n sto + 2 * b2n ss1 + 4 * b2n ss2 + 8 * b2n sls)

/-- demand_a of an arm's drives (R217, R238, R239, R467). -/
def State.demandA (s : State) (a : Nat) : Byte :=
  let w := s.warm a
  demandBits (s.dev.cell == .fault || s.estopOn .a a true) (w.prot == 2 || s.estopOn .a a false)
    (w.prot == 1 || s.enableStop .a a) (s.slsOf .a a != 0)

/-- Whether both sections are valid and agree (R233). -/
def State.sectionMatch (s : State) : Bool := s.saf.loadedA && s.saf.reportedB && s.saf.sectionA == s.saf.sectionB

/-- demand_b of an arm's drives (R227, R238, R239, R259). -/
def State.demandB (s : State) (a : Nat) : Byte :=
  let p := s.parm a
  let m := Table.get {} s.parSection.arms a
  let viol := p.violating || p.holding
  demandBits (!s.sectionMatch || s.estopOn .b a true || (viol && m.parapetSto))
    (s.estopOn .b a false || (viol && !m.parapetSto)) (s.enableStop .b a) (s.slsOf .b a != 0)

/-- Whether a demand field demands a stop: STO, SS1 or SS2. -/
def stops (d : Byte) : Bool := (d &&& 7) != 0

/-- A stop demand of Warden or the Parapet is active on a used arm (R37). -/
def State.stopDemand (s : State) : Bool :=
  arms8.any (fun a => s.armUsed a && (stops (s.demandA a) || stops (s.demandB a)))

/-- SAF_STAT (R233). -/
def State.safStat (s : State) : W32 :=
  word [(b2n s.saf.wardenOk, 31), (b2n s.saf.parapetOk, 30), (b2n s.sectionMatch, 29), (b2n s.saf.lockstepErr, 28)
       , (b2n s.saf.grace, 27), (s.saf.zone.toNat, 16)]

/-- Vector 19 where SAF_STAT has changed (R343). -/
def State.safVector (s : State) (old : State) : State := if s.safStat = old.safStat then s else s.vector 19

/-- The pair that caused a stop: capsule, volume, S and S_p. -/
structure StopPair where
  capsule : Byte := 0xFF
  volume : Byte := 0xFF
  dist : W32 := 0xFFFFFFFF
  sp : W32 := 0xFFFFFFFF

/-- Warden demands a protective stop of an arm (R217): scale 0, the stop-bay bit, the count and the event. A stop of the same or a stronger kind that stands takes no new one; `restart` makes it wait for SAF_RESTART (R218). `cause` is the code of R217 and `why` the event's cause. -/
def State.protect (s : State) (a : Nat) (ss1 restart : Bool) (cause : Nat) (pair : StopPair) (why : W32) : State :=
  let w := s.warm a
  let m := Table.get {} s.cfg.safety.arms a
  let kind : BitVec 2 := if ss1 then 2 else 1
  let w := { w with needRestart := w.needRestart || restart || ss1 || !m.autoResume, clearSince := none, restartWait := false }
  if kind.toNat ≤ w.prot.toNat then s.setWarm a w
  else
    let s := s.setWarm a { w with prot := kind, scale := 0, protStops := inc w.protStops, stopS := pair.dist, stopSp := pair.sp }
    let s := { s with lr := { s.lr with posted := bitSet s.lr.posted (if ss1 then 8 + a else a) true } }
    s.raise { code := 0x0C01, source := srcSaf, arm := some a, cause := why
              data := BitVec.ofNat 32 (a + pair.capsule.toNat * 256 + pair.volume.toNat * 65536 + cause * 16777216) }

/-- The protective stop of the arm's own kind (R217). -/
def State.protectArm (s : State) (a : Nat) (restart : Bool) (cause : Nat) (pair : StopPair) : State :=
  s.protect a (Table.get {} s.cfg.safety.arms a).ss1 restart cause pair 0xFFFFFFFF

/-- Whether the core die runs, so that what it records and sends happens. -/
def State.coreUp (s : State) : Bool := !s.pwr.inReset && !s.pwr.dormant

/-- Whether Warden holds a section and runs. -/
def State.wardenUp (s : State) : Bool := s.saf.loadedA && !s.saf.halted

/-- Open GUARD inputs demand protective stops of their arms (R238). -/
def State.guardStops (s : State) : State :=
  if !s.wardenUp then s
  else s.each arms8 (fun s a =>
    if s.armUsed a && inputs16.any (fun i => (s.siCfg .a i).role == .guard && (s.siCfg .a i).arms.getLsbD a && !s.inputShut .a i)
    then s.protectArm a true 4 {} else s)

/-- The modes whose input is closed in a channel (R239). -/
def State.modesShut (s : State) (ch : Channel) : List Nat :=
  let l := (s.sectionOf ch).modes
  (upto l.length).filter (fun k => s.inputShut ch (l.getD k {}).input.toNat)

/-- The mode of a channel (R239): the only closed input's index; with none or several closed the old mode, and mode 0 once that has lasted longer than the discrepancy time of the selector's first input. -/
def State.settleMode (s : State) (ch : Channel) : State :=
  let l := (s.sectionOf ch).modes
  let old := match ch with | .a => s.saf.mode | .b => s.par.mode
  let since := match ch with | .a => s.saf.modeSince | .b => s.par.modeSince
  let t := (s.siCfg ch (l.getD 0 {}).input.toNat).discMs * 1000000
  let r : Nat × Option W64 := match s.modesShut ch with
    | [k] => (k, none)
    | _ =>
      match since with
      | none => (old, some (s.chNow ch))
      | some i => (if t < s.since ch i then 0 else old, some i)
  if l.isEmpty then s
  else match ch with
    | .b => { s with par := { s.par with mode := r.1, modeSince := r.2 } }
    | .a =>
      let moving := arms8.any (fun a => (s.warm a).scale != 0)
      let s := { s with saf := { s.saf with mode := r.1, modeSince := r.2 } }
      if r.1 ≠ old && moving && s.wardenUp then
        s.each arms8 (fun s a => if s.armUsed a then s.protect a true true 5 {} 0xFFFFFFFF else s)
      else s

/-- A channel looks at an input: the guard test (R242) and the release of latched faults (R237). An input has been seen open once a pin's samples have read its open level over a full filter time, once its virtual bit is clear on an accepted connection, or when it opens. -/
def State.settleInput (s : State) (ch : Channel) (i : Nat) : State :=
  let k := s.siCfg ch i
  let u := s.chIn ch i
  let p := s.pinsShut ch i
  let u := if p.1 || p.2 then u else { u with discrepancy := false, testPulse := false }
  let shut := p.1 && p.2 && !u.discrepancy && !u.testPulse
  let seen := match s.virtualOf ch i with
    | some v => !shut && s.applies ch v.1
    | none => u.a.high == some false || u.b.high == some k.antivalent
  let saw := u.sawOpen || (u.shut && !shut) || seen
  s.setChIn ch i { u with shut := shut, sawOpen := saw, guardOk := u.guardOk || (shut && saw) }

/-- Whether an E_STOP input is open as a channel sees it: Warden while it holds a section and runs, the Parapet while it runs with a section (R238, R259). -/
def State.estopSeen (s : State) (ch : Channel) (i : Nat) : Bool :=
  let live := match ch with | .a => s.wardenUp | .b => s.par.up
  live && (s.siCfg ch i).role == .eStop && !s.inputShut ch i

/-- Emergency stops (R238): an E_STOP input that is open in either channel raises its event once, with the class of its stop category, which Warden's section gives where it is loaded and else the Parapet's (log entry 13). In UNCATALOGUED and LOADED it is recorded only (R431). -/
def State.settleEstops (s : State) : State :=
  if !s.coreUp then s
  else s.each inputs16 (fun s i =>
    let k := s.siCfg (if s.saf.loadedA then .a else .b) i
    let isOpen := s.estopSeen .a i || s.estopSeen .b i
    if isOpen && !s.saf.estops.getLsbD i then
      let s := { s with saf := { s.saf with estops := bitSet s.saf.estops i true } }
      s.raise { code := 0x0C06, source := srcSaf, data := BitVec.ofNat 32 i, cls := some (if k.category0 then 4 else 3) }
    else { s with saf := { s.saf with estops := bitSet s.saf.estops i isOpen } })

/-- Whether the E_STOP or GUARD inputs of an output are closed in a channel (R244); an E_STOP of category 0 opens at once. -/
def State.estopOpensNow (s : State) (ch : Channel) (n : Nat) : Bool :=
  inputs16.any (fun i => (s.soCfg ch n).inputs.getLsbD i && (s.siCfg ch i).role == .eStop && (s.siCfg ch i).category0 && !s.inputShut ch i)

/-- Whether an open E_STOP input, assigned to the output or to one of its arms, is among the causes of a loss (R244). -/
def State.estopCause (s : State) (ch : Channel) (n : Nat) : Bool :=
  let o := s.soCfg ch n
  inputs16.any (fun i => (s.siCfg ch i).role == .eStop && !s.inputShut ch i
    && (o.inputs.getLsbD i || ((s.siCfg ch i).arms &&& o.arms) != 0))

/-- A channel's permit of a safe output (R244). -/
def State.permit (s : State) (ch : Channel) (n : Nat) : Bool :=
  let o := s.soCfg ch n
  let ins := inputs16.all (fun i => !o.inputs.getLsbD i || s.inputShut ch i)
  let d := fun (a : Nat) => match ch with | .a => s.demandA a | .b => s.demandB a
  let arms := arms8.all (fun a => !o.arms.getLsbD a || (d a &&& 3) == 0)
  let req := match ch with | .a => (s.chOut ch n).request | .b => true
  o.used && ins && arms && req && !(s.chOut ch n).fault

/-- Whether a channel holds its switches open whatever their permits: Warden halted or without a section (R222), the Parapet in its reset, silent, with a failed test vector, or without a matching section (R225, R228, R259, R443). -/
def State.heldOpen (s : State) (ch : Channel) : Bool :=
  match ch with
  | .a => !s.wardenUp
  | .b => !s.par.up || !s.par.beatsGood || s.par.internalFault || !s.sectionMatch

/-- Whether VSAFE lies above its reset level, below which the safe-output switches do not close (R436). -/
def State.vsafe (s : State) : Bool := s.pwr.aboveReset.getLsbD 5

/-- A channel commands its switch; the node follows (R245). -/
def State.command (s : State) (ch : Channel) (n : Nat) (closed : Bool) : State :=
  let o := s.chOut ch n
  s.setChOut ch n { o with closed := closed, reads := closed && !o.testing && s.vsafe, delaying := false, since := none }

/-- The Parapet hold time in ns (R227). -/
def State.parHold (s : State) : Nat := s.parSection.holdMs * 1000000

/-- A channel acts on its permit of an output (R222, R228, R244). -/
def State.settleOutput (s : State) (ch : Channel) (n : Nat) : State :=
  let o := s.chOut ch n
  let ok := s.permit ch n
  let mark := o.estop || (ch == .a && s.estopCause ch n)
  if s.heldOpen ch then
    if o.closed then (s.setChOut ch n { o with estop := mark }).command ch n false
    else s.setChOut ch n { o with since := if ok then (if o.since.isSome then o.since else some (s.chNow ch)) else none }
  else if o.closed then
    if ok then (if o.estop then s else s.setChOut ch n { o with delaying := false })
    else
      let now := o.fault || (ch == .a && !o.request) || s.estopOpensNow ch n || (s.soCfg ch n).offDelayMs = 0
      let s := s.setChOut ch n { o with estop := mark, delaying := true }
      if now then s.command ch n false else s
  else if !ok then s.setChOut ch n { o with since := none }
  else match ch with
    | .a => if o.estop then s else s.command ch n true
    | .b =>
      let since := o.since.getD (s.chNow ch)
      if s.parHold ≤ s.since ch since then s.command ch n true else s.setChOut ch n { o with since := some since }

/-- Both channels settle after a change of what they see: inputs, modes, stops, events, outputs, and vector 19 (R234 to R246, R343). -/
def State.settle (s : State) (old : State) : State :=
  let s := s.each inputs16 (fun s i => s.settleInput .a i)
  let s := if s.par.up then s.each inputs16 (fun s i => s.settleInput .b i) else s
  let s := s.settleMode .a
  let s := if s.par.up then s.settleMode .b else s
  let s := s.guardStops.settleEstops
  let s := s.each outputs8 (fun s n => (s.settleOutput .a n).settleOutput .b n)
  let cmd := outputs8.foldl (fun v n => bitSet v n (!(s.chOut .a n).closed)) (0 : Byte)
  { s with saf := { s.saf with hsOpenCmd := cmd } }.safVector old

/-- Whether a channel runs, so that it samples its pins: Warden with the core die, the Parapet outside its reset. -/
def State.channelUp (s : State) (ch : Channel) : Bool :=
  match ch with
  | .a => s.coreUp
  | .b => s.par.up

/-- Whether an instant lies in the test-pulse window of a source: from its pulse's start to the start + the pulse width + 50 µs (R241). -/
def PulseSource.window (p : PulseSource) (widthUs : Nat) (t : W64) : Bool :=
  match p.start with
  | none => false
  | some i => decide ((t - i).toNat ≤ (widthUs + 50) * 1000)

/-- The filter takes a sample (R235): the filtered level changes once every sample over the filter time has read the new level; a sample inside the pin's test-pulse window neither advances nor restarts it. -/
def SafPin.sample (p : SafPin) (filterUs : Nat) (inWindow level : Bool) : SafPin :=
  let p := { p with raw := level }
  if inWindow then p
  else
    let n := if p.level = level then p.run + 1 else 1
    { p with level := level, run := min n filterUs, high := if filterUs ≤ n then some level else p.high }

/-- The samples of a pin, oldest first, one per µs, the last at the channel's present instant (R234, R235). -/
def State.filterPin (s : State) (ch : Channel) (n : Nat) (tp : Option (BitVec 2)) (p : SafPin) (samples : List Bool) : SafPin :=
  let src : PulseSource := match tp with | some t => s.source ch t.toNat | none => {}
  samples.zipIdx.foldl (fun p e =>
    let t := s.chNow ch - BitVec.ofNat 64 ((samples.length - 1 - e.2) * 1000)
    p.sample (s.siCfg ch n).filterUs (src.window (s.sectionOf ch).pulseUs t) e.1) p

/-- The channel reads the samples of a pin, filters them, and takes the role's action where the filtered level has changed (R234 to R239, R242). -/
def execSafeInputChange (ch : Channel) (i : BitVec 4) (pinB : Bool) (samples : List Bool) (s : State) : Host.Outcome State Fault Refusal :=
  if !s.channelUp ch then done s
  else
    let n := i.toNat
    let k := s.siCfg ch n
    let u := s.chIn ch n
    let u := if pinB then { u with b := s.filterPin ch n k.tpB u.b samples } else { u with a := s.filterPin ch n k.tpA u.a samples }
    done ((s.setChIn ch n u).settle s)

/-- a_state of SAF_SI_STAT: comparator A of each SIiA (R233, R234). -/
def State.siA (s : State) : W16 := inputs16.foldl (fun v i => bitSet v i (s.chIn .a i).a.raw) 0

/-- b_state as the Parapet's status path carries it: comparator B of each SIiB (R233, R234). -/
def State.siBNow (s : State) : W16 := inputs16.foldl (fun v i => bitSet v i (s.chIn .b i).b.raw) 0

/-- What a channel's restart leaves of its inputs: the comparators' levels; every filter and test begins anew (R235, R242). -/
def rawInputs (t : Table SafInput) : Table SafInput :=
  t.foldl (fun m e => Table.put {} m e.1 { a := { raw := e.2.a.raw }, b := { raw := e.2.b.raw } }) []

/-- The drive of TP0 to TP3 from VSAFE (R240): 24 V, but low for the pulse width from n × period / 4 after the start of the Parapet's period, which runs from its start. -/
def State.tpHigh (s : State) (n : Nat) : Bool :=
  let p := s.parSection.testPeriodMs * 1000000
  let x := (s.par.clock - s.par.startedAt).toNat % p
  !s.par.up || decide (x < n * p / 4) || decide (n * p / 4 + s.parSection.pulseUs * 1000 ≤ x)

/-- Counts and raises a discrepancy or a test-pulse fault of an input in a channel (R237, R241): the input in bits 7:0 of data, the channel in bit 8 (log entry 11). -/
def State.inputFault (s : State) (ch : Channel) (i : Nat) (pulse : Bool) : State :=
  let e : Ev := { code := 0x0C07, source := srcSaf, data := BitVec.ofNat 32 (i + 256 * (match ch with | .a => 0 | .b => 1)) }
  match ch with
  | .a =>
    let v := s.saf
    let v := if pulse then { v with tpA := inc v.tpA } else { v with discA := inc v.discA }
    { s with saf := v }.raise e
  | .b =>
    let p := s.par
    let p := if pulse then { p with tp := inc p.tp } else { p with disc := inc p.disc }
    { s with par := p }.raisePar e

/-- The filtered pins of an input have differed for longer than its discrepancy time (R237). -/
def execDiscrepancyFault (ch : Channel) (i : BitVec 4) (s : State) : Host.Outcome State Fault Refusal :=
  let n := i.toNat
  let p := s.pinsShut ch n
  let u := s.chIn ch n
  if p.1 == p.2 || u.discrepancy || (s.siCfg ch n).role == .unused || (ch == .b && !s.par.up) then done s
  else done (((s.setChIn ch n { u with discrepancy := true }).inputFault ch n false).settle s)

/-- A pulse of a source as one pin sees it: whether it is stuck high, and its row of foreign pulses read low (R241). -/
def pulsePin (own : Bool) (filteredHigh readsHigh : Bool) (cross : Nat) : Bool × Nat :=
  if own then (filteredHigh && readsHigh, cross)
  else if !filteredHigh || readsHigh then (false, 0) else (decide (1 ≤ cross), cross + 1)

/-- A source pulses (R240, R241), as the channel sees it at the pulse's start + the width − 50 µs: a source that does not read low is at fault until it has pulsed correctly twice; at each pulse seen, every pin that reads high is checked. `high` has bit i for SIiA and bit 16 + i for SIiB. -/
def execTestPulse (ch : Channel) (tp : BitVec 2) (readsLow : Bool) (high : BitVec 32) (s : State) : Host.Outcome State Fault Refusal :=
  if !s.channelUp ch then done s
  else
    let n := tp.toNat
    let old := s
    let p := s.source ch n
    if !readsLow then done ((s.setSource ch n { p with fault := true, good := 0 }).settle old)
    else
      let p := if p.fault then (if 1 ≤ p.good then {} else { p with good := p.good + 1 }) else p
      let s := s.setSource ch n { p with start := some (s.chNow ch - BitVec.ofNat 64 (((s.sectionOf ch).pulseUs - 50) * 1000)) }
      let s := s.each inputs16 (fun s i =>
        let k := s.siCfg ch i
        if k.role == .unused || (s.virtualOf ch i).isSome then s
        else
          let u := s.chIn ch i
          let a := pulsePin (k.tpA == some tp) (u.a.high == some true) (high.getLsbD i) u.crossA
          let b := pulsePin (k.tpB == some tp) (u.b.high == some true) (high.getLsbD (16 + i)) u.crossB
          let bad := a.1 || b.1
          let s := s.setChIn ch i { u with crossA := a.2, crossB := b.2, testPulse := u.testPulse || bad }
          if bad && !u.testPulse then s.inputFault ch i true else s)
      done (s.settle old)

/-- The off delay of a lost permit ends (R244). -/
def execOffDelayExpiry (ch : Channel) (n : BitVec 3) (s : State) : Host.Outcome State Fault Refusal :=
  if (s.chOut ch n.toNat).delaying then done ((s.command ch n.toNat false).settle s) else done s

/-- Latches output faults in the given channels and raises the event (R245): the output in bits 7:0 of data, bit 8 set for SOnL (log entry 11). -/
def State.outputFault (s : State) (n : Nat) (sw : Channel) (chs : List Channel) : State :=
  let s := chs.foldl (fun s ch => s.setChOut ch n { s.chOut ch n with fault := true }) s
  let e : Ev := { code := 0x0C08, source := srcSaf, data := BitVec.ofNat 32 (n + 256 * (match sw with | .a => 0 | .b => 1)) }
  match sw with
  | .a => s.raise e
  | .b => s.raisePar e

/-- A read-back that has differed from the command for 50 µs (R245). -/
def execOutputReadbackFault (n : BitVec 3) (sw : Channel) (readsClosed : Bool) (s : State) : Host.Outcome State Fault Refusal :=
  let i := n.toNat
  let o := s.chOut sw i
  let t := s.setChOut sw i { o with reads := readsClosed }
  if readsClosed == o.closed || o.testing then done t
  else if readsClosed then done (((t.outputFault i sw [sw, otherChannel sw]).command (otherChannel sw) i false).settle s)
  else done (((t.outputFault i sw [sw]).command sw i false).settle s)

/-- Current limit for 1 ms, or thermal shutdown: the field die opens both switches (R245). -/
def execSafeOutputOverload (n : BitVec 3) (sw : Channel) (s : State) : Host.Outcome State Fault Refusal :=
  let i := n.toNat
  let t := (s.outputFault i sw [.a, .b])
  done ((((t.command .a i false).command .b i false)).settle s)

/-- A channel opens its closed switch for the dark-test width, once per dark-test period (R246). The command comes at the period's instant and DARK_TEST_END at the end of the width; the channels schedule them independently. -/
def execDarkTest (ch : Channel) (n : BitVec 3) (s : State) : Host.Outcome State Fault Refusal :=
  let o := s.chOut ch n.toNat
  if (s.soCfg ch n.toNat).dark && o.closed && !s.heldOpen ch then
    done (s.setChOut ch n.toNat { o with testing := true, reads := false })
  else done s

/-- The dark-test width ends (R246): a switch that does not read open fails as one commanded open that reads closed. -/
def execDarkTestEnd (ch : Channel) (n : BitVec 3) (readsOpen : Bool) (s : State) : Host.Outcome State Fault Refusal :=
  let i := n.toNat
  let o := s.chOut ch i
  if !o.testing then done s
  else
    let t := s.setChOut ch i { o with testing := false, reads := o.closed || !readsOpen }
    if readsOpen then done (t.settle s)
    else
      let t := (t.outputFault i ch [ch, otherChannel ch]).command (otherChannel ch) i false
      let t := t.command ch i false
      done ((t.setChOut ch i { t.chOut ch i with reads := true }).settle s)

/-- SAF_KEY changes level in a channel (R260, R261); an assertion with no staged copy is counted. -/
def execSafKeyChange (ch : Channel) (level : Bool) (s : State) : Host.Outcome State Fault Refusal :=
  let idle := level && s.par.staged.isNone
  match ch with
  | .a =>
    let v := s.saf
    done { s with saf := { v with keyLevel := level, keySince := s.chNow ch, keyCount := if idle then inc v.keyCount else v.keyCount } }
  | .b =>
    if !s.par.up then done s
    else
      let v := s.par
      done { s with par := { v with keyLevel := level, keySince := s.chNow ch, keyCount := if idle then inc v.keyCount else v.keyCount } }

/-- An accepted CELL_CLEAR (R244, R245): Warden may close again after an E_STOP loss, and each channel clears its latched output fault where the read-back shows both nodes open. -/
def State.clearOutputs (s : State) : State :=
  let old := s
  let s := s.each outputs8 (fun s n =>
    let bothOpen := !(s.chOut .a n).reads && !(s.chOut .b n).reads
    let a := s.chOut .a n
    let b := s.chOut .b n
    let s := s.setChOut .a n { a with estop := false, fault := a.fault && !bothOpen }
    s.setChOut .b n { b with fault := b.fault && !(bothOpen && s.par.up) })
  s.settle old

end Sys2Proof.Machine
end

