-- ==== Sys2Proof/Machine/Rings.lean ====
section
/-! DEFINITION. The keystone's cycle on a ring that runs (R22 to R26, R76 to R94, R111 to R115, R120 to R122), the standby that follows it (R380, R384, R385), and the manager's trunk (R393 to R398). -/
namespace Sys2Proof.Machine

/-- The gather deck that the keystone originates (R22, R74 to R79, R84). Its own entry of the timing bay is empty while its TB0 is not LOCKED (R48, R77). -/
def State.gatherDeck (s : State) (r : Nat) (mail : Octets) : Octets :=
  let k := s.ringCfg r
  let len := k.deckLen true
  let type := s.cycleType r true
  let entry := if s.tb.tb0.mode = .locked then stampOctets s.stamp else List.replicate 8 0xFF
  let b := s.header r type (s.deckFlags r true) len ++ leBytes 4 0 ++ entry ++ List.replicate 56 0xFF
    ++ [s.ringClaim r, s.ringClaim r] ++ List.replicate 10 0 ++ List.replicate 8 0
    ++ List.replicate (k.panelLen true + 24 * k.bays) 0 ++ mail ++ emptyBay ((s.ring r).q.setWidth 8) ++ leBytes 4 0
  type :: sealDeck b false

/-- The next first eligible position (R84). -/
def nextQ (q : BitVec 5) : BitVec 5 := if 16 ≤ q.toNat then 1 else q + 1

/-- GATHER_DEPARTURE (R22): the keystone originates the gather deck of the span. -/
def execGatherDeparture (r : BitVec 4) (s : State) : Host.Outcome State Fault Refusal :=
  let n := r.toNat
  if !s.came (.gatherDeparture r) || !s.leads n then done s
  else
    let m := (s.disarm (.gatherDeparture r)).mailOut n
    let s := m.1
    let d := s.gatherDeck n m.2
    let g := s.ring n
    done ((s.setRing n { g with
      gather := d, sentAt := s.stamp, q := nextQ g.q, gatherSent := true, gatherDone := false, gatherLost := false }).sendDeck n d)

/-- The ring-loss reaction (R92): the arm controlled stop of an arm ring's arm, the class of its event on others. -/
def State.ringReaction (s : State) (r : Nat) : State :=
  let s := s.setRing r { s.ring r with ringLoss := inc (s.ring r).ringLoss }
  if r < 8 then
    (s.raise { code := 0x0606, source := srcLr, data := BitVec.ofNat 32 r, arm := some r }).prescribedStop r 0x0606
  else s.raise { code := 0x0607, source := srcLr, data := BitVec.ofNat 32 r }

/-- A lost deck (R91, R92): counted, with the reaction at the second of a run. -/
def State.lostDeck (s : State) (r : Nat) (gather : Bool) : State :=
  let g := s.ring r
  let g := { g with
    lostGather := if gather then inc g.lostGather else g.lostGather
    lostDeliver := if gather then g.lostDeliver else inc g.lostDeliver
    consecutive := inc g.consecutive, goodSpans := 0, goodDecks := 0 }
  let s := s.setRing r g
  if g.consecutive = 2 then s.ringReaction r else s

/-- The positions that the node table configures. -/
def State.positions (s : State) (r : Nat) : List Nat := (upto (s.ringCfg r).nodes.length).map (· + 1)

def State.nodeEntry (s : State) (r p : Nat) : NodeEntry := (s.ringCfg r).nodes.getD (p - 1) {}

/-- The loop channels of a ring whose gather panel lies in a node's panel (R80, R128). -/
def State.jointsOf (s : State) (r : Nat) (e : NodeEntry) : List Nat :=
  chans72.filter (fun c =>
    let k := s.chanCfg c
    k.used && k.ring.toNat == r && decide (e.gatherOff ≤ k.gatherOff)
      && decide (k.gatherOff.toNat < e.gatherOff.toNat + e.gatherLen.toNat))

/-- Moves a Q24.40 position by a Q8.24 velocity for one span, rounded half up (R90, R91). -/
def movedBy (x : W64) (v : W32) (spanNs : Nat) : W64 :=
  bvS 64 (x.toInt + roundDiv (v.toInt * 65536 * (spanNs : Int)) 1000000000)

/-- A gather panel extrapolated by one span (R91). -/
def extrapolatePanel (b : Octets) (off spanNs : Nat) : Octets :=
  put64 b off (movedBy (u64 b off) (u32 b (off + 8)) spanNs)

/-- The inputs of a node that gave none: its joints extrapolated, every other field held (R91). -/
def State.substitute (s : State) (r p : Nat) : State :=
  let e := s.nodeEntry r p
  let b := (s.jointsOf r e).foldl (fun b c => extrapolatePanel b (s.chanCfg c).gatherOff.toNat s.spanNs) (s.ring r).inputs
  s.setRing r { s.ring r with inputs := b }

/-- The inputs that a node wrote: its panel and its containers (R91). -/
def State.takeInputs (s : State) (r p : Nat) (b : Octets) : State :=
  let k := s.ringCfg r
  let e := s.nodeEntry r p
  let i := (s.ring r).inputs
  let i := spliceO i e.gatherOff.toNat (sliceO b e.gatherOff.toNat e.gatherLen.toNat)
  let i := if e.safetyFirst = 0xFF then i
    else spliceO i (k.bayAt true e.safetyFirst.toNat) (sliceO b (k.bayAt true e.safetyFirst.toNat) (24 * e.safetyCount.toNat))
  s.setRing r { s.ring r with inputs := i }

/-- The joint panels of the held gather deck as the engine reads them (R81). -/
def State.readInputs (s : State) (r : Nat) : State :=
  let b := (s.ring r).inputs
  s.each (chans72.filter (fun c => (s.chanCfg c).used && (s.chanCfg c).ring.toNat == r)) (fun s c =>
    let o := (s.chanCfg c).gatherOff.toNat
    s.setChan c { s.chan c with measured := { x := u64 b o, v := u32 b (o + 8), torque := u32 b (o + 12), status := u16 b (o + 16), temp := u8 b (o + 18) } })

/-- Warden takes the containers of a node's bays (R205, R257). -/
def State.takeContainers (s : State) (r p : Nat) (b : Octets) : State :=
  let k := s.ringCfg r
  let e := s.nodeEntry r p
  if e.safetyFirst = 0xFF then s
  else s.each (upto e.safetyCount.toNat) (fun s i =>
    let bay := e.safetyFirst.toNat + i
    let c := (k.bayIn.getD bay 0xFFFF).toNat
    if c < 256 then s.wardenTakes c (sliceO b (k.bayAt true bay) 24) else s)

/-- A node's answer and missed bits in a good gather deck (R91, R92, R115). -/
def State.judgeNode (s : State) (r p : Nat) (answered missed : Bool) : State :=
  let g := s.ring r
  let run := if answered then 0 else Table.get 0 g.clearRun p + 1
  let ex := if !answered && missed then Table.get 0 g.exclRun p + 1 else 0
  let s := s.setRing r { g with
    noAnswer := if answered then g.noAnswer else Table.upd 0 g.noAnswer p inc
    missed := if missed then Table.upd 0 g.missed p inc else g.missed
    clearRun := Table.put 0 g.clearRun p run, exclRun := Table.put 0 g.exclRun p ex }
  let s := if ex % 64 = 1 then s.raise { code := 0x0609, source := srcLr, data := BitVec.ofNat 32 (r + 256 * p) } else s
  if r < 8 ∧ run = 2 then s.ringReaction r else s

/-- The sync entries that are not empty (R113). -/
def entriesOf (b : Octets) : List (Nat × Nat) := (upto 8).filterMap (fun j => (bayEntry b j).map (fun e => (j, e)))

/-- Whether this device disciplines its TB0 from a ring: as a worker from the trunk, or as a node (R114). -/
def State.disciplined (s : State) : Bool :=
  s.cfg.pair.hierRole == 2 || rings14.any (fun i => (s.ring i).start == .node && (s.ring i).phase.runs)

/-- TB0_OFFSET of a keystone: the average of the span's deviations in 1/256 ns over its arm, sensor and auxiliary rings (R114). A device that disciplines its TB0 from a ring publishes that ring's average instead. -/
def State.offsets (s : State) (r : Nat) (es : List (Nat × Nat)) : State :=
  if r = 13 ∨ s.disciplined then s
  else
    let ds := s.lr.devs ++ (es.filter (fun e => e.1 != 0)).map (fun e => stampDiff (s.ring r).sentAt e.2)
    let s := { s with lr := { s.lr with devs := ds } }
    if ds.isEmpty then s
    else s.setTimeBase 0 { s.tb.tb0 with offset := bvS 32 (roundDiv (ds.foldl (· + ·) 0) (256 * (ds.length : Int))) }

/-- A worker's gather panel on the trunk (R394). -/
structure WorkerPanel where
  worker : Nat
  requests : W64
  releases : W64
  arm : Nat

/-- The reservation table of a span (R396): releases first, then each free region to the lowest requester. -/
def reserve (holders : Table Byte) (ps : List WorkerPanel) : Table Byte :=
  (upto 64).foldl (fun t g =>
    let h := Table.get 0xFF t g
    let h := if ps.any (fun p => p.releases.getLsbD g && h.toNat / 8 == p.worker) then 0xFF else h
    let ask := (ps.filter (fun p => p.requests.getLsbD g)).map (fun p => 8 * p.worker + p.arm % 8)
    let best := ask.foldl (fun b x => min b x) 0xFF
    Table.put 0xFF t g (if h = 0xFF then BitVec.ofNat 8 best else h)) holders

/-- The branch deck in which the node at a position answers (R121). -/
def answeringIn (bs : List Octets) (p : Nat) : Option Octets := bs.find? (fun b => (u16 b 12).getLsbD (p - 1))

/-- The manager takes the workers' panels of a good trunk gather deck, or of the branch deck in which each answers (R121, R394, R396). -/
def State.managerTakes (s : State) (bs : List Octets) : State :=
  let ws := (s.cfg.pair.workerAt.zipIdx).filter (fun e => (answeringIn bs e.1.toNat).isSome)
  let panel := fun (e : BitVec 5 × Nat) =>
    let n := s.nodeEntry 13 e.1.toNat
    sliceO ((answeringIn bs e.1.toNat).getD []) n.gatherOff.toNat 32
  let ps := ws.map (fun e =>
    let o := panel e
    ({ worker := e.2, requests := u64 o 4, releases := u64 o 12, arm := (u8 o 20).toNat } : WorkerPanel))
  { s with red := { s.red with
    present := BitVec.ofNat 8 (ws.foldl (fun v e => v + 2 ^ e.2) 0)
    workerPanels := ws.foldl (fun t e => Table.put [] t e.2 (panel e)) s.red.workerPanels
    holders := reserve s.red.holders ps } }

/-- Whether a sync node of a ring asks to be integrated again (R37, R115). -/
def State.syncExcluded (s : State) (r : Nat) : Bool :=
  (s.positions r).any (fun p => (s.nodeEntry r p).syncSlot != 0xFF && Table.get 0 (s.ring r).exclRun p != 0)

/-- A deck of a span has come back well; with both, and no excluded sync node, one more span of R37. -/
def State.goodDeck (s : State) (r : Nat) : State :=
  let g := s.ring r
  let n := g.goodDecks + 1
  s.setRing r { g with
    consecutive := 0, goodDecks := n, goodSpans := if s.syncExcluded r then 0 else if n = 2 then g.goodSpans + 1 else g.goodSpans }

/-- Whether a ring has run 16 spans of good decks, with no excluded sync node and no claim clash (R37, R100). -/
def State.integrated (s : State) (r : Nat) : Bool :=
  let g := s.ring r
  g.phase.runs && decide (16 ≤ g.goodSpans) && !g.clashed && !s.syncExcluded r

/-- INTEGRATING ends in PARKED once every configured ring has integrated (R37). -/
def State.parkWhenReady (s : State) : State :=
  if s.dev.cell = .integrating && (rings14.filter (fun r => (s.ringCfg r).configured)).all s.integrated
  then s.setCell .parked 0xFE 0 0 else s

/-- A good gather deck, or the merged branches of a line (R91, R93, R113 to R115, R121, R205). `bs` are the bodies that verified. Of the two decks of a line the one with more entries decides weak_sync (DESIGN CHOICE, log entry 36). -/
def State.gatherGood (s : State) (r : Nat) (bs : List Octets) : State :=
  let s := s.each (s.positions r) (fun s p =>
    let missed := bs.any (fun b => (u16 b 14).getLsbD (p - 1))
    match answeringIn bs p with
    | some b => ((s.takeInputs r p b).takeContainers r p b).judgeNode r p true missed
    | none => (s.substitute r p).judgeNode r p false missed)
  let es := bs.flatMap entriesOf
  let full := bs.foldl (fun m b => max m (entriesOf b).length) 0
  let claim := bs.foldl (fun m b => max m (u8 b (claimAt true)).toNat) 0
  let s := s.setRing r { s.ring r with weakSync := decide (full < 4), maxClaim := BitVec.ofNat 8 claim }
  let s := if (s.ring r).start = .keystone then s.offsets r es else s
  let s := if r = 13 ∧ (s.cfg.pair.hierRole = 1 ∨ s.cfg.pair.hierRole = 3) then s.managerTakes bs else s
  let s := (s.readInputs r).goodDeck r
  let s := bs.foldl (fun s b =>
    let o := sliceO b ((s.ringCfg r).mailAt true 1) 64
    if (s.ring r).start = .keystone ∧ u8 o 0 ≠ 0xFF then s.mailIn r o else s) s
  (s.fireGather r false).parkWhenReady

/-- A gather deck that is lost: the previous inputs extrapolated (R91). -/
def State.gatherBad (s : State) (r : Nat) : State :=
  let s := s.each (s.positions r) (fun s p => s.substitute r p)
  ((s.readInputs r).lostDeck r true)

/-- The active unit sends its verdict of a gather deck (R379, R380). -/
def State.sendVerdict (s : State) (r : Nat) (good : Bool) (answers : W16) : State :=
  if s.shared r && s.red.role == .active then
    { s with red := { s.red with outbox := s.red.outbox ++ [.verdict (BitVec.ofNat 4 r) s.span32 good answers] } }
  else s

/-- The keystone enters line mode (R120), unless the catalogue disables it on the ring; while the ring starts, its cycle will begin in line mode (R101). The event names the ring and the positions of the two ends, 0xFF where no deck shows them (log entry 36). -/
def State.enterLine (s : State) (r : Nat) (ends : Nat) : State :=
  if !(s.ringCfg r).lineMode then s
  else if (s.ring r).phase = .cold ∨ (s.ring r).phase = .integrate then s.setRing r { s.ring r with lineStart := true }
  else if (s.ring r).phase = .running then
    let s := s.setRing r { s.ring r with phase := .line }
    let s := s.raise { code := 0x0608, source := srcLr, data := BitVec.ofNat 32 (r + 256 * ends) }
    if s.shared r && s.red.role == .active then
      let g := s.ring r
      let x : XRecord := .ringParams (BitVec.ofNat 4 r) g.glap g.dlap g.depart (s.ringCfg r).lineLap
      { s with red := { s.red with outbox := s.red.outbox ++ [x] } }
    else s
  else s

/-- The gather cut-off of a ring in line mode is that of the longest branch (R121). A lap beyond it does not fit. -/
def State.lineLaps (s : State) (r : Nat) (gather : Bool) (lap : W32) : State :=
  if (s.ring r).phase ≠ .line then s
  else
    let g := s.ring r
    let s := s.setRing r (if gather then { g with glap := lap } else { g with dlap := lap })
    if gather ∧ (s.ringCfg r).lineLap.toNat < lap.toNat then
      (s.raise { code := 0x0105, source := srcLr, data := BitVec.ofNat 32 r }).ringReaction r
    else s

/-- Whether a returned deck is one of this ring's decks of the kind that is due. -/
def State.ourDeck (s : State) (r : Nat) (g : Bool) (d : Octets) : Bool :=
  let b := deckBody d
  gatherLayout d == g && (deckType d == typeRecover || deckType d == (if g then typeGather else typeDeliver))
    && (u8 b 7).toNat == r && b.length == (s.ringCfg r).deckLen g

/-- The highest and lowest answering positions of two branches: the ends of the break as the deck shows them (R120). -/
def lineEnds (b : Octets) : Nat :=
  let east := (upto 16).foldl (fun m i => if (u16 b 12).getLsbD i then i + 1 else m) 0
  east + 256 * (east + 1)

/-- What an enabled port receives; a disabled one ignores its receiver (R70). -/
def State.heard (s : State) (p : Nat) (d : Option Octets) : Option Octets := if s.portEnabled p then d else none

/-- What came back on the two ports: counted, judged, its stop bits taken from the bay of the deck that is due (R88, R93, R95). -/
def State.receive (s : State) (r : Nat) (g : Bool) (west east : Option Octets) : State × List Octets :=
  let one := fun (acc : State × List Octets) (p : Nat) (d : Option Octets) =>
    match s.heard p d with
    | none => acc
    | some d =>
      let v := judgeDeck d
      let s := acc.1.countDeck p v
      let bits := stopBitsIn g d
      let s : State := if g then { s with lr := { s.lr with stopWord := s.lr.stopWord ||| bits } }
        else { s with lr := { s.lr with returned := s.lr.returned ||| bits } }
      (s, if v = .good && s.ourDeck r g d then acc.2 ++ [deckBody d] else acc.2)
  one (one (s, []) (westPort r) west) (eastPort r) east

/-- A deck that comes back after its cut-off only counts on its port (R23, R93). -/
def State.tooLate (s : State) (r : Nat) (west east : Option Octets) : State :=
  let one := fun (s : State) (p : Nat) (d : Option Octets) => match s.heard p d with
    | none => s
    | some d => s.countDeck p (judgeDeck d)
  one (one s (westPort r) west) (eastPort r) east

/-- A deck that reaches a standby while the cross-link is silent: the link is lost and the unit becomes PASSIVE (R389). -/
def State.linkLostAt (s : State) (r : Nat) : State :=
  if s.red.silent && s.shadows r then
    { s with red := { s.red with silent := false, role := .passive, stateAligned := false } }.raise { code := 0x1103, source := srcRed }
  else s

/-- A standby starts on the gather deck of the span at the later of its own copy and the active unit's verdict (R380); a deck that the partner did not lose makes it unhealthy (R386). -/
def State.standbyWork (s : State) (r : Nat) : State :=
  let g := s.ring r
  let w := Table.get {} s.red.verdicts r
  if !w.given || w.span != s.span32 || g.gatherDone then s
  else if !w.good then (s.setRing r { g with gatherDone := true, gatherLost := true, copy := none }).gatherBad r
  else
    match g.copy with
    | some b => (s.setRing r { g with gatherDone := true, gatherLost := false, copy := none }).gatherGood r [b]
    | none =>
      if !g.copyLost then s
      else
        let s : State := { s with red := { s.red with healthy := false } }
        (s.setRing r { g with gatherDone := true, gatherLost := true }).gatherBad r

/-- GATHER_COMPLETION (R23): in the keystone, the gather deck is back on the west port, or on both ports in line mode; in a standby, its own copy is complete (R380). -/
def execGatherCompletion (r : BitVec 4) (west east : Option Octets) (lap : W32) (s : State) : Host.Outcome State Fault Refusal :=
  let n := r.toNat
  let g := s.ring n
  if s.leads n then
    if !g.gatherSent || g.gatherDone then done s
    else if s.passedBy (.gatherCutoff r) then done (s.tooLate n west east)
    else
      let v := s.receive n true west east
      let s := v.1
      let s := if g.phase = .running ∧ (s.heard (eastPort n) east).isSome then s.enterLine n (lineEnds (v.2.headD [])) else s
      let s := s.setRing n { s.ring n with gatherDone := true, gatherLost := v.2.isEmpty }
      let s := s.lineLaps n true lap
      let s : State := if s.shared n && west.isSome then { s with lr := { s.lr with relayed := west.getD [] } } else s
      if v.2.isEmpty then done ((s.gatherBad n).sendVerdict n false 0)
      else done ((s.gatherGood n v.2).sendVerdict n true (v.2.foldl (fun a b => a ||| u16 b 12) 0))
  else if s.shadows n then
    let v := (s.linkLostAt n).receive n true west east
    let s := v.1.setRing n { v.1.ring n with copy := v.2.head?, copyLost := v.2.isEmpty }
    done (s.standbyWork n)
  else done s

/-- GATHER_CUTOFF (R23): a deck that is not complete counts as lost; the GATHER rows of a lost deck fire (R336). -/
def execGatherCutoff (r : BitVec 4) (s : State) : Host.Outcome State Fault Refusal :=
  let n := r.toNat
  let g := s.ring n
  if !s.came (.gatherCutoff r) then done s
  else
  let s := s.disarm (.gatherCutoff r)
  if !s.leads n || !g.gatherSent then done s
  else if g.gatherDone then done (if g.gatherLost then s.fireGather n true else s)
  else
    let s := s.setRing n { g with gatherDone := true, gatherLost := true }
    done (((s.gatherBad n).sendVerdict n false 0).fireGather n true)

/-- The stop word of a ring's deliver deck (R93): the gather bays of the span, the deliver decks that returned in the span before, and what has been posted. -/
def State.stopWordOf (s : State) (r : Nat) : W64 := s.lr.stopWord ||| s.lr.carried ||| s.lr.posted ||| (s.ring r).owed

/-- The stop bits to which a channel's node subscribes. -/
def State.maskOf (s : State) (r c : Nat) : W64 :=
  (s.positions r).foldl (fun m p =>
    let e := s.nodeEntry r p
    if (s.jointsOf r e).contains c then m ||| e.stopMask else m) 0

/-- A set-point as a deliver panel carries it (R81). -/
def SetPoint.octets (p : SetPoint) : Octets :=
  leBytes 4 p.torque.toNat ++ leBytes 8 p.pos.toNat ++ leBytes 4 p.vff.toNat ++ leBytes 2 p.control.toNat ++ [0, 0]

/-- The set-point of a channel that is not complete at the cut-off: the previous one extrapolated by one span, under the seq of the span (R32, R82). `ran` says that the span's run has begun, and with it the seq. -/
def LeChan.overdue (c : LeChan) (spanNs : Nat) (ran : Bool) : SetPoint :=
  { c.sent.extrapolated spanNs with control := (c.sent.control &&& 0x0FFF) ||| ((if ran then c.seq else c.seq + 1).setWidth 16 <<< 12) }

/-- Freezes a channel's panel (R25): its set-point, judged by its stamp at the cut-off `at_` (R31, R32), with the fault_reset edge of R141 in the first deck without the node's stop bits after one that carried one. -/
def State.freezeChan (s : State) (r at_ : Nat) (word : W64) (b : Octets) (c : Nat) : State × Octets :=
  let ch := s.chan c
  let hit := (s.maskOf r c &&& word) != 0
  let inTime := s.chanDone c at_
  let p := if inTime then ch.post else ch.overdue s.spanNs s.le.ran
  let p := if ch.stopSeen && !hit then { p with control := p.control ||| ctlReset } else p
  let s := s.setChan c { ch with sent := p, stopSeen := hit }
  let s := if inTime then s else s.lateChan c
  (s, spliceO b (s.chanCfg c).deliverOff.toNat p.octets)

/-- The command record of the trunk (R395): opcode, effect span and parameters (log entry 19). -/
def commandRecord (e : ReplPending) : Octets :=
  leBytes 2 e.cmd.opcode.toNat ++ [0, 0] ++ leBytes 4 e.effect.toNat ++ leBytes 56 e.cmd.params.toNat

/-- The common block of the trunk deliver deck (R395): the oldest command that has not gone out, and the reservation table. -/
def State.trunkBlock (s : State) (b : Octets) : State × Octets :=
  let next := s.red.repl.find? (fun e => !e.onTrunk)
  let rec_ := match next with | some e => commandRecord e | none => List.replicate 64 0
  let table := (upto 64).map (fun g => Table.get 0xFF s.red.holders g)
  let s := match next with
    | none => s
    | some e => { s with red := { s.red with repl := s.red.repl.map (fun x => if x == e then { x with onTrunk := true } else x) } }
  (s, spliceO b 36 (rec_ ++ table))

/-- A DEMAND container of the span that has been assembled takes the demands that arose since (R217, R467): it is assembled anew under its number, with the Parapet's part, before its deck freezes (DEDUCED, log entry 37). -/
def State.demandsAnew (s : State) (n : Nat) : State :=
  let c := s.connCfg n
  let u : OutConn := Table.get {} s.saf.outConns n
  let a := c.arm.toNat
  let d := s.demandA a ||| u8 u.octets 7
  if c.kind ≠ .demand || c.relay || !s.saf.ran || s.saf.halted || !s.par.up || u.draft.isSome || u.octets.isEmpty || d == u8 u.octets 7 then s
  else
    let o := spliceO u.octets 7 [d, s.demandB a]
    let o := put32 (put32 o 15 (checkA c.identity o)) 19 (checkB (s.parConn n).identity o)
    { s with saf := { s.saf with outConns := Table.put {} s.saf.outConns n { u with octets := o } } }

/-- The safety bays of a deliver deck: the container last assembled for each connection, or the container relayed to a worker unchanged (R206, R207, R397). -/
def State.freezeBays (s : State) (r : Nat) (b : Octets) : Octets :=
  let k := s.ringCfg r
  ((upto k.bays).foldl (fun b i =>
    let c := (k.bayOut.getD i 0xFFFF).toNat
    if 256 ≤ c then b
    else
      let o := if (s.connCfg c).relay then Table.get [] s.saf.raw c
        else (Table.get {} s.saf.outConns c : OutConn).octets
      if o.isEmpty then b else spliceO b (k.bayAt false i) (sliceO o 0 24)) b)

/-- The output check of a unit (R384): the stop bay and the node panels. -/
def State.outputCheck (s : State) (r : Nat) : W32 :=
  crc32c (sliceO (deckBody (s.ring r).deliver) 28 (8 + (s.ringCfg r).panelLen false))

/-- DELIVER_CUTOFF (R25): panels, every bay and the stop word of the ring freeze; the first of a span freezes the local set-points and DIO_OUT too (R265, R290). -/
def execDeliverCutoff (r : BitVec 4) (s : State) : Host.Outcome State Fault Refusal :=
  let n := r.toNat
  let came := s.came (.deliverCutoff r)
  let at_ := (s.instantOf (.deliverCutoff r)).getD 0
  let s := s.disarm (.deliverCutoff r)
  if !came || !(s.leads n || s.shadows n) then done s
  else
    let s := if s.ax.cutoff then s else s.freezeOutputs.axCutoff at_
    let k := s.ringCfg n
    let s := s.each ((k.bayOut.map (·.toNat)).filter (fun c => decide (c < 256))) State.demandsAnew
    let word := s.stopWordOf n
    let old := deckBody (s.ring n).deliver
    let b := if old.length = k.deckLen false then old else List.replicate (k.deckLen false) 0
    let b := put64 b (stopAt false) word
    let f := (chans72.filter (fun c => (s.chanCfg c).used && (s.chanCfg c).ring.toNat == n)).foldl
      (fun (x : State × Octets) c => x.1.freezeChan n at_ word x.2 c) (s, b)
    let t := if n = 13 ∧ (s.cfg.pair.hierRole = 1 ∨ s.cfg.pair.hierRole = 3) then f.1.trunkBlock f.2 else f
    let m := if t.1.leads n then t.1.mailOut n else (t.1, List.replicate 64 0)
    let b := spliceO (m.1.freezeBays n t.2) (k.mailAt false 0) m.2
    done (m.1.setRing n { m.1.ring n with deliver := typeDeliver :: b, frozen := true, frozenWord := word, owed := 0 })

/-- The comparison slots (R384): slot A for the unit with the higher catalogue claim; a single unit writes 0 in both. -/
def State.slotOf (s : State) : Nat := if s.cfg.pair.partnerClaim.toNat < s.cfg.pair.claim.toNat then 4 else 8

/-- DELIVER_DEPARTURE (R24): the frozen deck departs with its header, claims, the empty mailbox bay 1 and check (R76, R78, R84). Before any gather deck has returned since the ring started there is no value of R78 to carry on, and max_claim is the own claim (DESIGN CHOICE, log entry 32). -/
def execDeliverDeparture (r : BitVec 4) (s : State) : Host.Outcome State Fault Refusal :=
  let n := r.toNat
  if !s.came (.deliverDeparture r) || !s.leads n || !(s.ring n).frozen || (s.ring n).deliverSent then done s
  else
    let s := s.disarm (.deliverDeparture r)
    let k := s.ringCfg n
    let g := s.ring n
    let type := s.cycleType n false
    let own := s.ringClaim n
    let max_ := if g.maxClaim = 0 then own else g.maxClaim
    let slots := if s.shared n then spliceO (List.replicate 8 0) (s.slotOf - 4) (leBytes 4 (s.outputCheck n).toNat) else List.replicate 8 0
    let b := spliceO (deckBody g.deliver) 0 (s.header n type (s.deckFlags n false) (k.deckLen false) ++ [max_, own, 0, 0] ++ slots)
    let b := spliceO b (k.mailAt false 1) (emptyBay (g.q.setWidth 8))
    let d := type :: sealDeck b false
    done ((s.setRing n { g with
      deliver := d, deliverSent := true, deliverDone := false, q := nextQ g.q, stopSent := u64 b (stopAt false) }).sendDeck n d)

/-- The comparison of a returned deliver deck's slots (R385). -/
def State.compareSlots (s : State) (r : Nat) (b : Octets) : State :=
  if s.shared r && s.red.role == .active then
    let a := u32 b 20
    let c := u32 b 24
    if a = 0 ∨ c = 0 then s
    else { s with red := { s.red with spanCmp := if a ≠ c then .mismatched else if s.red.spanCmp = .mismatched then .mismatched else .matched } }
  else s

/-- DELIVER_DECK_RETURN (R91): the deck is checked; its stop bits go into the next span's word (R93). -/
def execDeliverDeckReturn (r : BitVec 4) (west east : Option Octets) (lap : W32) (s : State) : Host.Outcome State Fault Refusal :=
  let n := r.toNat
  let g := s.ring n
  if !s.leads n || !g.deliverSent || g.deliverDone then done s
  else
    let v := s.receive n false west east
    let s := v.1
    let s := if g.phase = .running ∧ (s.heard (eastPort n) east).isSome then s.enterLine n 0xFFFF else s
    let s := s.lineLaps n false lap
    let s := s.setRing n { s.ring n with deliverDone := true }
    if v.2.isEmpty then done (s.lostDeck n false)
    else
      let s := v.2.foldl (fun s b =>
        let s := s.compareSlots n b
        let o := sliceO b ((s.ringCfg n).mailAt false 1) 64
        if u8 o 0 ≠ 0xFF then s.mailIn n o else s) s
      done (s.goodDeck n).parkWhenReady

/-- A span of a ring begins (R25, R93): a deliver deck that never came back is lost, and bits posted after the freeze are owed to the next deck. -/
def State.ringSpan (s : State) (r : Nat) : State :=
  let g := s.ring r
  let s := if g.deliverSent && !g.deliverDone && s.leads r then s.lostDeck r false else s
  let g := s.ring r
  s.setRing r { g with
    owed := if g.frozen then s.lr.posted &&& ~~~ g.frozenWord else 0
    frozen := false, frozenWord := 0, gatherSent := false, gatherDone := false, gatherLost := false
    deliverSent := false, deliverDone := false, goodDecks := 0, copy := none, copyLost := false
    goodSpans := if g.goodDecks < 2 then 0 else g.goodSpans }

/-- MAILBOX_RETRANSMIT (R85): a segment unacknowledged within 8 decks goes out again, or after 3 retransmissions the message has failed. -/
def execMailboxRetransmit (r : BitVec 4) (s : State) : Host.Outcome State Fault Refusal :=
  let n := r.toNat
  let g := s.ring n
  match g.tx with
  | none => done s
  | some m =>
    if !m.sent || m.decks < 8 then done s
    else if m.tries < 3 then
      done (s.setRing n { g with
        retries := inc g.retries, tx := some { m with sent := false, decks := 0, tries := m.tries + 1, retransmissions := inc m.retransmissions } })
    else done (s.mailEnds n m false)

/-- MBX_SEND (R84, R85): the message goes out segment by segment; the reply comes when it is acknowledged or has failed. -/
def execMbxSend (p : Packet) (s : State) : Host.Outcome State Fault Refusal :=
  let r := param p.params 0 1
  let dest := param p.params 1 1
  let len := param p.params 2 2
  let lot := param p.params 4 2
  let good := unusedZero p.params [(0, 1), (1, 1), (2, 2), (4, 2)] && decide (r < 14) && (decide (1 ≤ dest ∧ dest ≤ 16) || dest == 0xFE)
    && decide (1 ≤ len ∧ len ≤ 4096)
  done (serve s p 0x0901 good [lot] fun s =>
    let g := s.ring r
    if g.tx.isSome then reject s stNoResource
    else
      let d := s.readMem (windowBase + 4096 * lot) len
      if d.2.2 then .answer (d.1.enginePoison srcLr) { status := stFailed }
      else
      let m : MailTx := { queue := p.queue, dest := BitVec.ofNat 8 dest, data := d.2.1, seq := Table.get 0 g.txSeq dest }
      .later (d.1.setRing r { d.1.ring r with tx := some m }))

/-- MBX_RECV (R84): the oldest whole message of a ring into a lot. -/
def execMbxRecv (p : Packet) (s : State) : Host.Outcome State Fault Refusal :=
  let r := param p.params 0 1
  let lot := param p.params 2 2
  let good := unusedZero p.params [(0, 1), (2, 2)] && decide (r < 14)
  done (serve s p 0x0902 good [lot] fun s =>
    let g := s.ring r
    match g.rxDone with
    | [] => reject s stNoData
    | m :: rest =>
      let s := s.copyMem (windowBase + 4096 * lot) m.data false
      .answer (s.setRing r { s.ring r with rxDone := rest }) { r0 := BitVec.ofNat 32 m.data.length, r1 := m.src.setWidth 32 })

end Sys2Proof.Machine
end

