-- ==== Sys2Proof/Machine/RingStart.lean ====
section
/-! DEFINITION. Cold start and integration of a ring: listening, claims, COLD and INTEGRATE decks, the laps and the start of the cycle (R24, R26, R37, R96 to R106, R120, R123). -/
namespace Sys2Proof.Machine

/-- A COLD deck (R98). -/
def State.coldDeck (s : State) (r : Nat) (left : Byte) : Octets :=
  let b := s.header r typeCold (s.deckFlags r true) 28 ++ [0, s.cfg.spanCode.setWidth 8, left, 0]
    ++ leBytes 4 s.dev.serialLo.toNat ++ leBytes 4 0
  typeCold :: sealDeck b false

/-- The device sends a COLD deck. -/
def State.sendCold (s : State) (r : Nat) (left : Byte) : State :=
  let d := s.coldDeck r left
  (s.setRing r { s.ring r with gather := d, sentAt := s.stamp }).sendDeck r d

/-- The device begins to originate with its first COLD deck (R97, R99); with ring claim 0 it never does (R96). -/
def State.originate (s : State) (r : Nat) : State :=
  if s.ringClaim r = 0 then s
  else (s.setRing r { s.ring r with start := .originating, phase := .cold, coldLeft := 0 }).sendCold r 0

/-- The device becomes a node of the ring (R97, R99). In a cold start of a pair, the unit that lost is the STANDBY (R376, R391). -/
def State.becomeNode (s : State) (r : Nat) (claim : Byte) : State :=
  let s := s.setRing r { s.ring r with start := .node, phase := .cold, keystoneClaim := claim, coldLeft := 0 }
  if s.shared r && s.red.role != .active && s.red.partnerRole != 1 then
    { s with red := { s.red with role := .standby, stateAligned := true } }
  else s

/-- The device becomes keystone (R99); on a shared ring that makes the unit ACTIVE (R376). It sends 16 COLD decks (R101). -/
def State.elected (s : State) (r : Nat) : State :=
  let c := s.ringClaim r
  let s := s.setRing r { s.ring r with start := .keystone, phase := .cold, keystoneClaim := c, coldLeft := 16, hops := none, mismatch := false, weakSync := true }
  if s.shared r then { s with red := { s.red with role := .active } } else s

/-- A claim clash (R100): the event, and a back-off as a node that forwards. -/
def State.clash (s : State) (r : Nat) : State :=
  let g := s.ring r
  let s := s.setRing r { g with start := .backoff, phase := .silent, clashes := g.clashes + 1, clashed := true, coldLeft := 0 }
  s.raise { code := 0x0602, source := srcLr, data := BitVec.ofNat 32 r }

/-- LISTEN_TIMEOUT (R96, R97). -/
def execListenTimeout (r : BitVec 4) (s : State) : Host.Outcome State Fault Refusal :=
  if (s.ring r.toNat).start = .listening then done (s.originate r.toNat) else done s

/-- DECK_SILENCE_TIMEOUT (R97): a node without a deck for 4,000 µs listens again. -/
def execDeckSilenceTimeout (r : BitVec 4) (s : State) : Host.Outcome State Fault Refusal :=
  if (s.ring r.toNat).start = .node then done (s.listen r.toNat) else done s

/-- CLAIM_BACKOFF_EXPIRY (R100): the device listens again. -/
def execClaimBackoffExpiry (r : BitVec 4) (s : State) : Host.Outcome State Fault Refusal :=
  if (s.ring r.toNat).start = .backoff then done (s.listen r.toNat) else done s

/-- A COLD deck at a node (R98): its position and the span length. -/
def State.coldDeckAt (s : State) (r pos : Nat) (b : Octets) (v : Verdicted) : State × Octets :=
  let h := u8 b 16 + 1
  let s := if v = .good then s.setNode r pos { s.node r pos with position := h, spanCode := (u8 b 17).setWidth 3 } else s
  (s, sealDeck (spliceO b 16 [h]) (v != .good))

/-- What a node passes on (R87): the last deck that a node transmitted, on its east or its west side, and on this device's own port the code groups, behind what it ends with `lead`. -/
def State.forwards (s : State) (r : Nat) (own : Bool) (lead : List Symbol) (d : Octets) (east : Bool) : State :=
  let s := { s with lr := { s.lr with forwarded := d, forwardedEast := east } }
  let p := if east then eastPort r else westPort r
  if own && s.portEnabled p then s.transmits p (lead ++ deckLine d) else s

/-- A COLD deck that this device passes on (R97 to R100), which makes it no end of a ring any more unless its port is down (R119). -/
def State.passCold (s : State) (r : Nat) (b : Octets) (v : Verdicted) (lead : List Symbol) : State :=
  let s := s.setRing r { s.ring r with lineEnd := s.renewedEnd r }
  let c := s.coldDeckAt r ((u8 b 16).toNat + 1) b v
  c.1.forwards r true lead (typeCold :: c.2) ((s.ring r).lineEnd != .east)

/-- The deck end that ends a COLD deck of the device's own in progress: it takes 32 code groups (R99, R100). -/
def State.ownEnd (s : State) (r : Nat) : List Symbol :=
  if decide (wideDiff s.stamp (s.ring r).sentAt < 256 * 65536) then [.k 0xFD, .k 0xF7] else []

/-- COLD_DECK_RECEIVED (R97, R99, R100): a COLD deck on the west port, by the claim it carries. What the device does not discard it passes on; during a back-off it passes every COLD deck on as a node (log entry 36). -/
def execColdDeckReceived (r : BitVec 4) (deck : Octets) (s : State) : Host.Outcome State Fault Refusal :=
  let n := r.toNat
  let v := judgeDeck deck
  if !s.portEnabled (westPort n) then done s
  else
  let s := s.countDeck (westPort n) v
  if deckType deck ≠ typeCold ∨ v = .malformed then done s
  else
    let b := deckBody deck
    let g := s.ring n
    let claim := u8 b 6
    let mine := s.ringClaim n
    let own := u32 b 20 = s.dev.serialLo
    match g.start with
    | .listening =>
      if mine.toNat < claim.toNat then done ((s.becomeNode n claim).passCold n b v [])
      else if claim.toNat < mine.toNat then done (s.originate n)
      else if own ∨ claim = 0 then done (s.passCold n b v [])
      else if g.clashed then done ((s.becomeNode n claim).passCold n b v [])
      else done ((s.clash n).passCold n b v [])
    | .originating =>
      if mine.toNat < claim.toNat then done ((s.becomeNode n claim).passCold n b v (s.ownEnd n))
      else if claim.toNat < mine.toNat then done s
      else if own then done (if v = .good then s.elected n else s)
      else done (s.clash n)
    | .keystone =>
      if g.phase = .cold && decide (mine.toNat < claim.toNat) then done ((s.becomeNode n claim).passCold n b v (s.ownEnd n))
      else if g.phase = .cold && claim == mine && !own then done (s.clash n)
      else done s
    | .backoff =>
      done ((if claim = (s.ringCfg n).claim ∧ ¬ own then s.becomeNode n claim else s).passCold n b v [])
    | _ => done s

/-- Whether the node count of the COLD decks agrees with the node table (R101). -/
def State.counted (s : State) (r : Nat) : Bool :=
  match (s.ring r).hops with
  | some h => h.toNat == (s.ringCfg r).nodes.length
  | none => false

/-- COLD_DECK_DEPARTURE (R98, R99, R101): a contending deck, or the next of the keystone's 16. With another node count than the table's the keystone goes on sending them. -/
def execColdDeckDeparture (r : BitVec 4) (s : State) : Host.Outcome State Fault Refusal :=
  let n := r.toNat
  let g := s.ring n
  match g.start with
  | .originating => done (s.sendCold n 0)
  | .keystone =>
    if g.phase ≠ .cold then done s
    else if g.coldLeft = 0 ∧ s.counted n ∧ ¬ g.mismatch then done s
    else
      let left := if g.coldLeft = 0 then 16 else g.coldLeft
      done ((s.setRing n { g with coldLeft := left - 1 }).sendCold n left)
  | _ => done s

/-- COLD_DECK_RETURN (R99, R101): an originator's own deck on its west port makes it keystone. In the keystone, the node count, the COLD lap, too many nodes, and a count that differs after the last of the 16, after which only COLD decks follow. A deck on the east port starts the ring in line mode. -/
def execColdDeckReturn (r : BitVec 4) (deck : Octets) (east : Bool) (lap : W32) (s : State) : Host.Outcome State Fault Refusal :=
  let n := r.toNat
  let v := judgeDeck deck
  let port := if east then eastPort n else westPort n
  if !s.portEnabled port then done s
  else
  let s := s.countDeck port v
  let b := deckBody deck
  let g := s.ring n
  if v ≠ .good ∨ deckType deck ≠ typeCold ∨ u32 b 20 ≠ s.dev.serialLo ∨ u8 b 6 ≠ s.ringClaim n ∨ (east && !(s.ringCfg n).lineMode) then done s
  else if g.start = .originating then done (if east then s else s.elected n)
  else if g.start ≠ .keystone ∨ g.phase ≠ .cold then done s
  else
    let hops := u8 b 16
    let s := s.setRing n { g with hops := some hops, coldLap := lap, lineStart := g.lineStart || east }
    if 16 < hops.toNat then
      let s := s.setRing n { s.ring n with start := .idle, phase := .silent }
      done (s.raise { code := 0x0603, source := srcLr, data := BitVec.ofNat 32 (n + 256 * hops.toNat) })
    else if u8 b 18 = 1 ∧ ¬ s.counted n ∧ ¬ g.mismatch then
      let s := s.setRing n { s.ring n with mismatch := true }
      done (s.raise { code := 0x0604, source := srcLr, data := BitVec.ofNat 32 (n + 256 * hops.toNat) })
    else done s

/-- A node entry's 32 octets (R103). -/
def NodeEntry.octets (e : NodeEntry) : Octets :=
  leBytes 2 e.gatherOff.toNat ++ leBytes 2 e.gatherLen.toNat ++ leBytes 2 e.deliverOff.toNat ++ leBytes 2 e.deliverLen.toNat
    ++ [e.safetyFirst, e.safetyCount, e.syncSlot, e.dataLoss] ++ leBytes 8 e.stopMask.toNat ++ leBytes 4 e.identity.toNat
    ++ leBytes 2 e.probeStart.toNat ++ leBytes 2 e.probeLen.toNat ++ leBytes 2 e.asymWest.toNat ++ leBytes 2 e.asymEast.toNat

def NodeEntry.ofOctets (o : Octets) : NodeEntry :=
  { gatherOff := u16 o 0, gatherLen := u16 o 2, deliverOff := u16 o 4, deliverLen := u16 o 6
    safetyFirst := u8 o 8, safetyCount := u8 o 9, syncSlot := u8 o 10, dataLoss := u8 o 11
    stopMask := u64 o 12, identity := u32 o 20, probeStart := u16 o 24, probeLen := u16 o 26
    asymWest := u16 o 28, asymEast := u16 o 30 }

/-- probe_window (R102, R108): the longest for which a window that opens 1 µs after the end of an INTEGRATE deck closes 2 µs before the next can reach any node, in units of 32 ns (log entry 36). The deck takes 560 code groups, and one lap parts the nodes. -/
def State.probeWindow (s : State) (r : Nat) : Nat := (s.spanNs * 256 - 7480 * 256 - (s.ring r).coldLap.toNat) / 8192

/-- The INTEGRATE deck that departs now (R102). -/
def State.integrateDeck (s : State) (r : Nat) : Octets :=
  let g := s.ring r
  let k := s.ringCfg r
  let b := s.header r typeIntegrate (s.deckFlags r true) 556 ++ leBytes 8 (s.stamp / 65536) ++ leBytes 2 (s.stamp % 65536) ++ [0, 0]
    ++ leBytes 4 0 ++ [0, s.cfg.spanCode.setWidth 8, g.phaseNo, g.phaseSpan, 0, 0] ++ leBytes 2 (s.probeWindow r)
    ++ (upto 16).flatMap (fun i => match k.nodes[i]? with | some e => e.octets | none => List.replicate 32 0) ++ leBytes 4 0
  typeIntegrate :: sealDeck b false

def phaseMin (p : Nat) : Nat := if p = 1 then 16 else 8
def phaseMax : Nat := 64

/-- The ready bits of every configured position. -/
def State.allReady (s : State) (r : Nat) (w : W16) : Bool := (s.positions r).all (fun p => w.getLsbD (p - 1))

/-- A phase reaches its maximum (R105): the event names the phase and the positions not ready, and the ring restarts at the 16 COLD decks. -/
def State.phaseFailed (s : State) (r : Nat) : State :=
  let g := s.ring r
  let miss := (s.positions r).foldl (fun m p => if g.ready.getLsbD (p - 1) then m else m + 2 ^ (p - 1)) 0
  let s := s.setRing r { g with phase := .cold, coldLeft := 16, hops := none, mismatch := false, phaseNo := 0, phaseSpan := 0, ready := 0 }
  s.raise { code := 0x0605, source := srcLr, data := BitVec.ofNat 32 (r + 256 * g.phaseNo.toNat + 65536 * miss) }

/-- The keystone's alignment step, which is zero (R54, R110): TB0_STEP shows it and TB0_STEPS counts it (DESIGN CHOICE, log entry 36). -/
def State.zeroStep (s : State) (r : Nat) : State :=
  if s.tb.tb0.mode = .acquiring then
    let s := (s.stepTb 0 0 false).setMode 0 .locked
    { s with tb := { s.tb with lockRing := some r } }
  else s

/-- INTEGRATE_DECK_DEPARTURE (R102): from the last COLD deck on, one per span. The keystone's TB0 takes its zero step at the first ALIGN deck (R54, R110). -/
def execIntegrateDeckDeparture (r : BitVec 4) (s : State) : Host.Outcome State Fault Refusal :=
  let n := r.toNat
  let g := s.ring n
  if g.start ≠ .keystone then done s
  else
    let s : State := if g.phase = .cold ∧ g.coldLeft = 0 ∧ s.counted n ∧ ¬ g.mismatch then
        s.setRing n { g with phase := .integrate, phaseNo := 0, phaseSpan := 0, ready := 0 }
      else s
    let g := s.ring n
    if g.phase ≠ .integrate then done s
    else if phaseMax ≤ g.phaseSpan.toNat then done (s.phaseFailed n)
    else
      let s := if g.phaseNo = 2 then s.zeroStep n else s
      let d := s.integrateDeck n
      done ((s.setRing n { g with gather := d, sentAt := s.stamp, phaseSpan := g.phaseSpan + 1, ready := 0 }).sendDeck n d)

/-- Laps of R106 from an INTEGRATE lap, in 1/256 ns. -/
def lapOf (lap : W32) (len : Nat) : Nat := lap.toNat - 560 * 2048 + (len + 4) * 2048

/-- D as ns after the span instant (R24): rounded down to a multiple of 8 ns; none where it falls before the span instant. -/
def State.departure (s : State) (dlap : Nat) : Option Nat :=
  let used := 256000 + s.cfg.returnGuard.toNat * 16000 + dlap
  if s.spanNs * 256 < used then none else some ((s.spanNs * 256 - used) / 2048 * 8)

/-- The latest deadline of the compute-window work that waits for a ring (R26, R144, R207, R219). -/
def State.ringDeadline (s : State) (r : Nat) : Nat :=
  let cs := (s.conns.map (fun e => e.2)).filter (fun c => c.used && !c.plant && c.ring.toNat == r)
  let le := if driveRing r then s.cfg.deadlineLe.toNat else 0
  let w := if cs.any (fun c => c.warden && !c.sends) then s.cfg.safety.wdnDeadline.toNat else 0
  let d := if cs.any (fun c => c.kind == .demand) then s.cfg.safety.wdnDeadline.toNat + 4000 else 0
  max le (max w d)

/-- The earliest deliver cut-off among the rings that run, as DEV_DEADLINE_VC (R45). -/
def State.setDeadlineVc (s : State) : State :=
  let cuts := (rings14.filter (fun r => (s.ring r).phase.runs)).map (fun r => (s.ring r).depart.toNat - 1000)
  match cuts with
  | [] => s
  | c :: t => { s with dev := { s.dev with deadlineVc := BitVec.ofNat 20 (t.foldl min c) } }

/-- The ring parameters that the active unit sends (R379). -/
def State.sendParams (s : State) (r : Nat) : State :=
  if s.shared r && s.red.role == .active then
    let g := s.ring r
    { s with red := { s.red with outbox := s.red.outbox ++ [.ringParams (BitVec.ofNat 4 r) g.glap g.dlap g.depart g.glap] } }
  else s

/-- Fields of a ring that starts its cycle (R91, R92, R113). -/
def Ring.fresh (g : Ring) (inputs : Octets) : Ring :=
  { g with maxClaim := 0, weakSync := true, consecutive := 0, clearRun := [], exclRun := [], goodDecks := 0, goodSpans := 0
           gatherSent := false, gatherDone := false, gatherLost := false, deliverSent := false, deliverDone := false
           frozen := false, frozenWord := 0, owed := 0, inputs := inputs, deliver := [], q := 1 }

/-- The connections of a ring that starts its cycle are STARTING in Warden (R254); the Parapet learns of it by the integration mark. -/
def State.ringStarts (s : State) (r : Nat) : State := s.wardenStarts (fun c => !c.plant && c.ring.toNat == r)

/-- ALIGN has ended (R105, R106): the laps and D; the checks of R26; then GATHER and DELIVER decks, with the ring's connections in STARTING (R254). -/
def State.startRing (s : State) (r : Nat) (lap : W32) : State :=
  let k := s.ringCfg r
  let glap := lapOf lap (k.deckLen true)
  let dlap := lapOf lap (k.deckLen false)
  let fit : Option Nat := match s.departure dlap with
    | none => none
    | some d => if d < 1000 + s.ringDeadline r ∨ k.glapBound.toNat < glap then none else some d
  match fit with
  | none =>
    let s := s.setRing r { s.ring r with start := .idle, phase := .silent, glap := BitVec.ofNat 32 glap, dlap := BitVec.ofNat 32 dlap }
    s.raise { code := 0x0105, source := srcLr, data := BitVec.ofNat 32 r }
  | some d =>
    let g := (s.ring r).fresh (List.replicate (k.deckLen true) 0)
    let s := s.setRing r { g with phase := .running, glap := BitVec.ofNat 32 glap, dlap := BitVec.ofNat 32 dlap, depart := BitVec.ofNat 20 d }
    let s := s.ringStarts r
    let s := s.setDeadlineVc.sendParams r
    if g.lineStart then s.enterLine r 0xFFFF else s

/-- INTEGRATE_DECK_RETURN (R105): the next phase once every position is ready, in one branch or the other of a line, and the minimum has passed; a phase at its maximum fails. A deck on the east port brings line mode (R120). -/
def execIntegrateDeckReturn (r : BitVec 4) (deck : Octets) (back : DeckReturn) (s : State) : Host.Outcome State Fault Refusal :=
  let n := r.toNat
  let v := judgeDeck deck
  let port := if back.east then eastPort n else westPort n
  if !s.portEnabled port then done s
  else
  let s := s.countDeck port v
  let s := if back.east && (s.ring n).start == .keystone && v == .good then s.enterLine n 0xFFFF else s
  let g := s.ring n
  let b := deckBody deck
  if g.start ≠ .keystone ∨ g.phase ≠ .integrate then done s
  else
    let good := v = .good && deckType deck == typeIntegrate && (u8 b 7).toNat == n && u8 b 34 == g.phaseNo
    let w := if good then g.ready ||| u16 b 36 else g.ready
    let s := s.setRing n { g with ready := w }
    if good && s.allReady n w && decide (phaseMin g.phaseNo.toNat ≤ g.phaseSpan.toNat) then
      if g.phaseNo = 2 then done (s.startRing n back.lap)
      else
        let s := s.setRing n { s.ring n with phaseNo := g.phaseNo + 1, phaseSpan := 0, ready := 0 }
        if g.phaseNo = 0 then
          done (s.each [eastPort n, westPort n] (fun s p => s.setPort p { s.port p with results := [] }))
        else done s
    else if phaseMax ≤ g.phaseSpan.toNat then done (s.phaseFailed n)
    else done s

/-- INTEGRATION_TIMEOUT (R37): the event names the first ring that has not integrated; its class takes the cell to FAULT. -/
def execIntegrationTimeout (s : State) : Host.Outcome State Fault Refusal :=
  if s.dev.cell ≠ .integrating then done s
  else
    let late := rings14.filter (fun r => (s.ringCfg r).configured && !s.integrated r)
    done (s.raise { code := 0x0601, source := srcLr, data := BitVec.ofNat 32 (late.headD 0) })

end Sys2Proof.Machine
end

