-- ==== Sys2Proof/Machine/Lane.lean ====
section
/-! DEFINITION. The arithmetic of a solver lane (R151 to R154), the factorisation (R163, R164), the iteration (R166) and the residuals (R167). -/
namespace Sys2Proof.Machine

/-- A 72-bit accumulator whose result has exponent `e` (R153); it keeps Config.solverGuard fraction bits below the result's least bit (log entry 6). -/
structure ZAcc where
  e : Int := 0
  v : Int := 0
  sat : Bool := false
  deriving DecidableEq, Repr

/-- Adds a term at the accumulator's fraction position, saturating at the term and at the sum (R153). -/
def ZAcc.term (a : ZAcc) (x : Int) (k : Int) (minus : Bool) : ZAcc :=
  let t := clampSat 72 (shiftI x k)
  let r := clampSat 72 (if minus then a.v - t.v else a.v + t.v)
  { a with v := r.v, sat := a.sat || t.sat || r.sat }

def guardBits : Int := Config.solverGuard

def ZAcc.add (a : ZAcc) (x : ZVal) : ZAcc := a.term x.m (x.e - a.e + guardBits) false
def ZAcc.sub (a : ZAcc) (x : ZVal) : ZAcc := a.term x.m (x.e - a.e + guardBits) true
def ZAcc.addMul (a : ZAcc) (x y : ZVal) : ZAcc := a.term (x.m * y.m) (x.e + y.e - a.e - 31 + guardBits) false
def ZAcc.subMul (a : ZAcc) (x y : ZVal) : ZAcc := a.term (x.m * y.m) (x.e + y.e - a.e - 31 + guardBits) true

/-- Stores to a 32-bit mantissa, round half up (R153). -/
def ZAcc.store (a : ZAcc) : Sat :=
  let r := clampSat 32 (roundShift a.v Config.solverGuard)
  { v := r.v, sat := a.sat || r.sat }

/-- Bits of a magnitude. -/
def bitLength (x : Nat) : Nat := if x = 0 then 0 else Nat.log2 x + 1

/-- A value with a saturation. -/
structure ZSat where
  z : ZVal := {}
  sat : Bool := false
  deriving DecidableEq, Repr

/-- An exponent outside −64 to +63 saturates the result (R153). -/
def expClamp (m e : Int) : ZSat :=
  if 63 < e then { z := { m := if m < 0 then -2147483647 else 2147483647, e := 63 }, sat := true }
  else if e < -64 then { z := { m := if m < 0 then -1073741824 else 1073741824, e := -64 }, sat := true }
  else { z := { m := m, e := e } }

/-- The value `v × 2^(e − 31)` normalised so that 0.5 ≤ |M| × 2^−31 < 1, rounded half up (R151). -/
def normalise (v : Int) (e : Int) : ZSat :=
  if v = 0 then {}
  else
    let d : Int := (bitLength v.natAbs : Int) - 31
    let m := if 0 ≤ d then roundShift v d.toNat else v * (2 ^ (-d).toNat : Nat)
    if m.natAbs = 2147483648 then expClamp (m / 2) (e + d + 1)
    else expClamp m (e + d)

/-- The reciprocal, its mantissa correctly rounded half up (R153). -/
def recip (x : ZVal) : ZSat :=
  let n := normalise x.m x.e
  if n.z.m = 0 then { z := { m := 2147483647, e := 63 }, sat := true }
  else
    let q := if n.z.m < 0 then roundDiv (-2305843009213693952) (-n.z.m) else roundDiv 2305843009213693952 n.z.m
    let r := if q.natAbs = 2147483648 then expClamp (q / 2) (2 - n.z.e) else expClamp q (1 - n.z.e)
    { r with sat := r.sat || n.sat }

def nth (l : List Int) (i : Nat) : Int := l.getD i 0

/-- ρ_eq = ρ × 2^10 for rows of equality class (R150). -/
def SlotCfg.rhoOf (k : SlotCfg) (rho : ZVal) (i : Nat) : ZVal := if k.equality.getD i false then { rho with e := rho.e + 10 } else rho

def SlotCfg.blockX (k : SlotCfg) (j : Nat) : Nat := k.varBlock.getD j 0
def SlotCfg.blockZ (k : SlotCfg) (i : Nat) : Nat := k.conBlock.getD i 0

/-- Internal exponents (R154). -/
def SlotCfg.expX (k : SlotCfg) (j : Nat) : Int := let b := k.blockX j; nth k.eX b + nth k.delta b
def SlotCfg.expQ (k : SlotCfg) (j : Nat) : Int := let b := k.blockX j; nth k.eQ b + nth k.delta b
def SlotCfg.expZ (k : SlotCfg) (i : Nat) : Int := let c := k.blockZ i; nth k.eZ c + nth k.eps c
def SlotCfg.expY (k : SlotCfg) (i : Nat) : Int := let c := k.blockZ i; nth k.eY c - nth k.eps c
def SlotCfg.expP (k : SlotCfg) (i j : Nat) : Int :=
  nth (k.eP.getD (k.blockX i) []) (k.blockX j) + nth k.delta (k.blockX i) + nth k.delta (k.blockX j)
def SlotCfg.expA (k : SlotCfg) (i j : Nat) : Int :=
  nth (k.eA.getD (k.blockZ i) []) (k.blockX j) + nth k.eps (k.blockZ i) + nth k.delta (k.blockX j)
/-- Exponent of a work value c by KKT index: the variable blocks, then the constraint blocks. -/
def SlotCfg.expC (k : SlotCfg) (a : Nat) : Int :=
  if a < k.n.toNat then nth k.eC (k.blockX a) else nth k.eC (k.eX.length + k.blockZ (a - k.n.toNat))

/-- Variables and constraints together. -/
def SlotCfg.size (k : SlotCfg) : Nat := k.n.toNat + k.m.toNat

/-- The footprint of R149. -/
def SlotCfg.footprint (k : SlotCfg) : Nat :=
  10 * k.nnzL.toNat + 26 * k.size + 8 * k.nnzPa.toNat + 24 * k.n.toNat + 48 * k.m.toNat + 8 * k.listCap.toNat + 1024

/-- The numbers of a problem (R150). -/
structure Problem where
  p : List Int := []
  a : List Int := []
  q : List Int := []
  l : List Int := []
  u : List Int := []
  rho : ZVal := {}
  deriving DecidableEq, Repr

def ZaSlot.problem (s : ZaSlot) : Problem := { p := s.p, a := s.a, q := s.q, l := s.l, u := s.u, rho := s.rho }

/-- The place of a pair in a pattern. -/
def placeOf (l : List (Nat × Nat)) (i j : Nat) : Option Nat := l.findIdx? (fun e => e.1 == i && e.2 == j)

/-- An entry of P or A by its pattern; 0 outside it. -/
def SlotCfg.entryP (k : SlotCfg) (d : Problem) (i j : Nat) : ZVal :=
  match placeOf k.pPat (min i j) (max i j) with
  | some o => { m := nth d.p o, e := k.expP (min i j) (max i j) }
  | none => {}

def SlotCfg.entryA (k : SlotCfg) (d : Problem) (i j : Nat) : ZVal :=
  match placeOf k.aPat i j with
  | some o => { m := nth d.a o, e := k.expA i j }
  | none => {}

/-- An entry of K strictly off the diagonal, by KKT index (R150). -/
def SlotCfg.entryK (k : SlotCfg) (d : Problem) (a b : Nat) : ZVal :=
  let n := k.n.toNat
  if a < n then (if b < n then k.entryP d a b else k.entryA d (b - n) a)
  else if b < n then k.entryA d (a - n) b else {}

/-- The factorisation as it builds. -/
structure Build where
  cols : List (List Int) := []
  d : List ZVal := []
  dinv : List ZVal := []
  sat : Bool := false
  repairs : Nat := 0
  deriving DecidableEq, Repr

def SlotCfg.pattern (k : SlotCfg) (j : Nat) : List Nat := k.lPat.getD j []

/-- L[i,c] as a value, if the pattern has it. -/
def SlotCfg.entryL (k : SlotCfg) (cols : List (List Int)) (i c : Nat) : Option ZVal :=
  match (k.pattern c).findIdx? (· == i) with
  | some o => some { m := nth (cols.getD c []) o, e := nth k.eL c }
  | none => none

/-- Whether an accumulator's exact value lies below that of `x`. -/
def ZAcc.below (a : ZAcc) (x : ZVal) : Bool :=
  let k := x.e - (a.e - guardBits)
  if 0 ≤ k then decide (a.v < x.m * (2 ^ k.toNat : Nat)) else decide (a.v * (2 ^ (-k).toNat : Nat) < x.m)

/-- repair (R164): the normalised pivot, and whether it was replaced. -/
def repair (dMin : ZVal) (primal : Bool) (acc : ZAcc) : ZSat × Bool :=
  if primal then
    if acc.below dMin then (normalise dMin.m dMin.e, true) else (normalise acc.v (acc.e - guardBits), false)
  else
    let neg : ZAcc := { acc with v := -acc.v }
    if neg.below dMin then (normalise (-dMin.m) dMin.e, true) else (normalise acc.v (acc.e - guardBits), false)

/-- Column j of the factorisation (R163). -/
def SlotCfg.column (k : SlotCfg) (d : Problem) (b : Build) (j : Nat) : Build :=
  let e := nth k.eT j
  let a := k.elim.getD j 0
  let primal := decide (a < k.n.toNat)
  let z : ZAcc := { e := e }
  let rinv := recip (k.rhoOf d.rho (a - k.n.toNat))
  let dj := if primal then (z.add (k.entryP d a a)).add k.sigma else z.sub rinv.z
  let rows := k.pattern j
  let t := rows.map (fun i => z.add (k.entryK d (k.elim.getD i 0) a))
  let r := (List.range j).foldl (fun (r : ZAcc × List ZAcc × Bool) c =>
    match k.entryL b.cols j c with
    | none => r
    | some l =>
      if l.m = 0 then r
      else
        let x := (({ e := Config.solverProductExp c } : ZAcc).addMul l (b.d.getD c {})).store
        let lk : ZVal := { m := x.v, e := Config.solverProductExp c }
        (r.1.subMul l lk,
         List.zipWith (fun (u : ZAcc) i => match k.entryL b.cols i c with | some li => u.subMul li lk | none => u) r.2.1 rows,
         r.2.2 || x.sat)) (dj, t, !primal && rinv.sat)
  let piv := repair k.dMin primal r.1
  let inv := recip piv.1.z
  let col := r.2.1.map (fun (u : ZAcc) =>
    let s := u.store
    let v := (({ e := nth k.eL j } : ZAcc).addMul { m := s.v, e := e } inv.z).store
    ({ v := v.v, sat := s.sat || v.sat } : Sat))
  { cols := b.cols ++ [col.map (fun x => x.v)], d := b.d ++ [piv.1.z], dinv := b.dinv ++ [inv.z]
    sat := b.sat || r.1.sat || r.2.2 || piv.1.sat || inv.sat || col.any (fun x => x.sat)
    repairs := b.repairs + (if piv.2 then 1 else 0) }

/-- The factor of a problem (R163, R164). -/
def SlotCfg.factorise (k : SlotCfg) (d : Problem) : Factor :=
  let b := (List.range k.size).foldl (k.column d) {}
  { valid := true, d := b.d, dinv := b.dinv, cols := b.cols, rho := d.rho, saturated := b.sat
    repaired := decide (0 < b.repairs), repairs := BitVec.ofNat 32 b.repairs }

/-- A work vector with the saturations of its making. -/
structure Work where
  c : List Int := []
  sat : Bool := false
  deriving DecidableEq, Repr

def Work.at (w : Work) (k : SlotCfg) (i : Nat) : ZVal := { m := nth w.c i, e := k.expC (k.elim.getD i 0) }

/-- c[i] := c[i] − L × c[j], stored at the exponent of c[i]. -/
def Work.minus (w : Work) (k : SlotCfg) (i j : Nat) (l : ZVal) : Work :=
  let r := ((({ e := (w.at k i).e } : ZAcc).add (w.at k i)).subMul l (w.at k j)).store
  { c := w.c.set i r.v, sat := w.sat || r.sat }

/-- kkt_solve (R166) over the active factor, by elimination position. -/
def SlotCfg.kktSolve (k : SlotCfg) (f : Factor) (w : Work) : Work :=
  let entry := fun (i j : Nat) => ({ m := nth (f.cols.getD j []) i, e := nth k.eL j } : ZVal)
  let w := (List.range k.size).foldl (fun w j =>
    (k.pattern j).zipIdx.foldl (fun w x => w.minus k x.1 j (entry x.2 j)) w) w
  let w := (List.range k.size).foldl (fun (w : Work) j =>
    let r := (({ e := (w.at k j).e } : ZAcc).addMul (w.at k j) (f.dinv.getD j {})).store
    { c := w.c.set j r.v, sat := w.sat || r.sat }) w
  (List.range k.size).reverse.foldl (fun w j =>
    (k.pattern j).zipIdx.foldl (fun w x => w.minus k j x.1 (entry x.2 j)) w) w

/-- The bounds −∞ and +∞ are never applied (R152). -/
def clip (v l u : Int) : Int :=
  let v := if l = -2147483648 ∨ l ≤ v then v else l
  if u = 2147483647 ∨ v ≤ u then v else u

/-- 1 − α at α's exponent. -/
def oneMinus (a : ZVal) : ZVal := { a with m := satS 32 ((2 ^ (31 - a.e).toNat : Nat) - a.m) }

/-- A KKT index's value put at its elimination position. -/
def SlotCfg.permuted (k : SlotCfg) (v : Nat → Sat) : Work :=
  let l := (List.range k.size).map (fun j => v (k.elim.getD j 0))
  { c := l.map (fun x => x.v), sat := l.any (fun x => x.sat) }

/-- The value of KKT index `a` in a permuted vector, stored at exponent `e`. -/
def Work.back (w : Work) (k : SlotCfg) (a : Nat) (e : Int) : Sat :=
  let p := (k.elim.findIdx? (· == a)).getD 0
  (({ e := e } : ZAcc).add (w.at k p)).store

/-- An iteration (R166); the flag says that a saturation arose. -/
def SlotCfg.iterate (k : SlotCfg) (d : Problem) (f : Factor) (t : Iterate) : Iterate × Bool :=
  let n := k.n.toNat
  let m := k.m.toNat
  let rinv := fun i => (recip (k.rhoOf f.rho i)).z
  let x := fun j => ({ m := nth t.x j, e := k.expX j } : ZVal)
  let z := fun i => ({ m := nth t.z i, e := k.expZ i } : ZVal)
  let y := fun i => ({ m := nth t.y i, e := k.expY i } : ZVal)
  let w := fun i => ((({ e := nth k.eW (k.blockZ i) } : ZAcc).add (z i)).subMul (y i) (rinv i)).store
  let v := fun j => ((({ e := nth k.eV (k.blockX j) } : ZAcc).addMul k.sigma (x j)).sub { m := nth d.q j, e := k.expQ j }).store
  let first := fun a =>
    if a < n then let r := v a; let s := (({ e := k.expC a } : ZAcc).add { m := r.v, e := nth k.eV (k.blockX a) }).store; ({ s with sat := s.sat || r.sat } : Sat)
    else let r := w (a - n); let s := (({ e := k.expC a } : ZAcc).add { m := r.v, e := nth k.eW (k.blockZ (a - n)) }).store; { s with sat := s.sat || r.sat }
  let c := k.kktSolve f (k.permuted first)
  let xt := fun j => c.back k j (nth k.eXt (k.blockX j))
  let nu := fun i => c.back k (n + i) (nth k.eNu (k.blockZ i))
  let om := oneMinus k.alpha
  let xs := (List.range n).map (fun j =>
    let r := xt j
    let s := ((({ e := k.expX j } : ZAcc).addMul k.alpha { m := r.v, e := nth k.eXt (k.blockX j) }).addMul om (x j)).store
    ({ s with sat := s.sat || r.sat } : Sat))
  let rows := (List.range m).map (fun i =>
    let b := k.blockZ i
    let r := nu i
    let zt := ((({ e := nth k.eZt b } : ZAcc).add (z i)).addMul { m := r.v, e := nth k.eNu b } (rinv i)).subMul (y i) (rinv i)
    let zs := zt.store
    let zr := ((({ e := k.expZ i } : ZAcc).addMul k.alpha { m := zs.v, e := nth k.eZt b }).addMul om (z i)).store
    let zrv : ZVal := { m := zr.v, e := k.expZ i }
    let un := ((({ e := k.expZ i } : ZAcc).add zrv).addMul (y i) (rinv i)).store
    let zn := clip un.v (nth d.l i) (nth d.u i)
    let rho := k.rhoOf f.rho i
    let yn := ((({ e := k.expY i } : ZAcc).add (y i)).addMul rho { m := zr.v - zn, e := k.expZ i }).store
    (zn, yn.v, r.sat || zs.sat || zr.sat || un.sat || yn.sat))
  ({ x := xs.map (fun r => r.v), z := rows.map (fun r => r.1), y := rows.map (fun r => r.2.1) },
   c.sat || xs.any (fun r => r.sat) || rows.any (fun r => r.2.2))

/-- The greatest magnitude of stored sums, as a mantissa (R167); that of −2^31 saturates (R153). -/
def normOf (l : List Sat) : Sat :=
  let m := clampSat 32 (l.foldl (fun (a : Nat) x => max a x.v.natAbs) 0 : Nat)
  { m with sat := m.sat || l.any (fun x => x.sat) }

/-- r_p = ‖Ax − z‖∞ and r_d = ‖Px + q + Aᵀy‖∞ (R167). -/
def SlotCfg.residuals (k : SlotCfg) (d : Problem) (t : Iterate) : Sat × Sat :=
  let x := fun j => ({ m := nth t.x j, e := k.expX j } : ZVal)
  let a := k.aPat.zipIdx
  let p := k.pPat.zipIdx
  let rp := (List.range k.m.toNat).map (fun i =>
    let s := a.foldl (fun (s : ZAcc) e => if e.1.1 = i then s.addMul { m := nth d.a e.2, e := k.expA i e.1.2 } (x e.1.2) else s) { e := k.eRp }
    (s.sub { m := nth t.z i, e := k.expZ i }).store)
  let rd := (List.range k.n.toNat).map (fun j =>
    let s := p.foldl (fun (s : ZAcc) e =>
      let v : ZVal := { m := nth d.p e.2, e := k.expP e.1.1 e.1.2 }
      if e.1.2 = j then s.addMul v (x e.1.1) else if e.1.1 = j then s.addMul v (x e.1.2) else s) { e := k.eRd }
    let s := s.add { m := nth d.q j, e := k.expQ j }
    (a.foldl (fun (s : ZAcc) e =>
      if e.1.2 = j then s.addMul { m := nth d.a e.2, e := k.expA e.1.1 j } { m := nth t.y e.1.1, e := k.expY e.1.1 } else s) s).store)
  (normOf rp, normOf rd)

/-- Shifts a vector by one horizon step in every block of non-zero stride (R162). -/
def shiftBlocks (block : Nat → Nat) (stride : List Nat) (v : List Int) : List Int :=
  v.zipIdx.map (fun e =>
    let b := block e.2
    let h := stride.getD b 0
    let next := e.2 + h
    if h ≠ 0 ∧ next < v.length ∧ block next = b then nth v next else e.1)

def SlotCfg.shifted (k : SlotCfg) (t : Iterate) : Iterate :=
  { x := shiftBlocks k.blockX k.strideX t.x, z := shiftBlocks k.blockZ k.strideZ t.z, y := shiftBlocks k.blockZ k.strideZ t.y }

/-- z clipped to the bounds. -/
def clipped (d : Problem) (t : Iterate) : Iterate := { t with z := t.z.zipIdx.map (fun e => clip e.1 (nth d.l e.2) (nth d.u e.2)) }

end Sys2Proof.Machine
end

