-- ==== Sys2Proof/Machine/Solver.lean ====
section
/-! DEFINITION. The solver array's slots and lanes: posts, starts, phases, deadlines and results (R146 to R174). -/
namespace Sys2Proof.Machine

def laneOf (slot : Nat) : Nat := slot / 4

/-- The words of a slot's region that are neither its list nor its results: problem, factors and work vectors. -/
def State.zaInner (s : State) (i : Nat) : List Nat :=
  let k := s.slotCfg i
  let other := fun (a : Nat) =>
    (wordsOf (s.zaAddr i k.listAt) (16 + 8 * k.listCap.toNat)).contains a
      || (wordsOf (s.zaAddr i k.result0At) k.resultLen).contains a || (wordsOf (s.zaAddr i k.result1At) k.resultLen).contains a
  (wordsOf (s.zaAddr i 0) k.footprint).filter (fun a => !other a)

/-- The words of the result buffer that holds the slot's last result, which a warm start and a reuse of the previous solution read (R162, R168). -/
def State.zaLastWords (s : State) (i : Nat) : List Nat :=
  let k := s.slotCfg i
  wordsOf (s.zaAddr i (if (s.slot i).buffer then k.result1At else k.result0At)) k.resultLen

/-- Whether the lane would read poison in the slot's problem and factors (R174, log entry 18). -/
def State.zaPoisoned (s : State) (i : Nat) : Bool := (s.zaInner i).any s.wordPoisoned

/-- A lane's read of words: a poisoned one is counted (R174, R402). -/
def State.zaRead (s : State) (l : List Nat) : State × Bool :=
  if l.any s.wordPoisoned then ({ s with memc := { s.memc with poisoned := inc s.memc.poisoned } }, true) else (s, false)

/-- ZA_SLOTs_POST with go (R158): the post, or a post overrun. The flag says whether it was taken. -/
def State.zaPostGo (s : State) (i : Nat) (entries : BitVec 12) : State × Bool :=
  let z := s.slot i
  if z.pending then (s.setSlot i { z with postOverrun := inc z.postOverrun }, false)
  else (s.setSlot i { z with pending := true, entries := entries }, true)

def execZaSlotPostGo (by_ : Requester) (slot : BitVec 7) (entries : BitVec 12) (s : State) : Host.Outcome State Fault Refusal :=
  if by_ = .host then done s.hostRefused else done (s.zaPostGo slot.toNat entries).1

/-- Whether a slot's solves start in the cell's state (R159). -/
def State.zaStarts (s : State) (i : Nat) : Bool :=
  s.dev.cell == .run || s.dev.cell == .stopping || (s.dev.cell == .hold && (s.slotCfg i).prime)

def SlotCfg.deadlineOf (k : SlotCfg) (base spanNs : Nat) : W64 := BitVec.ofNat 64 (base + k.dlSpans.toNat * spanNs + k.dlOffset.toNat)

/-- A start joins the lane's queue by start instant, then by slot (R147). -/
def enqueueSolve (e : Solve) : List Solve → List Solve
  | [] => [e]
  | h :: t => if e.start < h.start ∨ (e.start = h.start ∧ e.slot.toNat < h.slot.toNat) then e :: h :: t else h :: enqueueSolve e t

/-- A start of a slot at an instant in 125 ps of TB0 (R147, R160); `base` is the base of its deadline, for which TB0 waits (R31). -/
def State.zaStart (s : State) (i start base : Nat) : State :=
  let z := s.slot i
  if z.activity ≠ 0 then s.setSlot i { z with startSkipped := inc z.startSkipped }
  else
    let e : Solve := { slot := BitVec.ofNat 7 i, start := start, deadline := (s.slotCfg i).deadlineOf base s.spanNs }
    let n := laneOf i
    ((s.setSlot i { z with activity := 1 }).setLane n { s.lane n with queue := enqueueSolve e (s.lane n).queue }).arm0 e.deadline.toNat (.solveDeadline e.slot)

/-- The start stamp of a token rounded up to 8 ns (R160). -/
def State.tokenBase (s : State) : Nat := (s.tb.tb0.ns.toNat + (if s.tb.tb0.frac = 0 then 0 else 1) + 7) / 8 * 8

/-- A token for a slot (R159, R160). -/
def State.zaToken (i : Nat) (s : State) : State :=
  let k := s.slotCfg i
  if !k.enabled then s
  else if !k.token then s.setSlot i { s.slot i with startSkipped := inc (s.slot i).startSkipped }
  else if s.zaStarts i then s.zaStart i s.stamp125 s.tokenBase
  else s

def execZaSlotTokenGo (by_ : Requester) (slot : BitVec 7) (s : State) : Host.Outcome State Fault Refusal :=
  if by_ = .host then done s.hostRefused else done (s.zaToken slot.toNat)

/-- ZA_TOKEN (R159, R353). -/
def execZaToken (p : Packet) (s : State) : Host.Outcome State Fault Refusal :=
  let i := param p.params 0 1
  done (serve s p 0x0402 (unusedZero p.params [(0, 1)] && decide (i < 128)) [] fun s =>
    replicate s 0x0402 p.params [] 0 (fun s => (s.zaToken i, {})))

/-- Whether a trigger slot starts in the span in progress (R159). -/
def State.zaDue (s : State) (k : SlotCfg) : Bool :=
  let period := k.period.toNat + 1
  k.enabled && !k.token && (s.span.toNat + period - k.phase.toNat % period) % period == 0

/-- The start instants of the span's trigger slots (R159). -/
def State.armSolves (s : State) (b : Nat) : State :=
  s.cfg.slots.foldl (fun s e => if s.zaDue e.2 then s.armMore (b + e.2.offsetNs.toNat) (.solveTrigger (BitVec.ofNat 7 e.1)) else s) s

/-- A trigger slot's start instant arrives (R159); its base is the instant of the span that set it (R160). -/
def execSolveTrigger (slot : BitVec 7) (s : State) : Host.Outcome State Fault Refusal :=
  let i := slot.toNat
  let k := s.slotCfg i
  match s.takeFired (.solveTrigger slot) with
  | none => done s
  | some (t, s) => if k.enabled && !k.token && s.zaStarts i then done (s.zaStart i (8 * t) (t - k.offsetNs.toNat)) else done s

/-- The lots that a run of octets from an offset of the first lot takes. -/
def lotsFor (first off len : Nat) : List Nat := lotRun first ((off + len + 4095) / 4096)

def lotAddr (l : Nat) : Nat := windowBase + 4096 * l

/-- ZA_POST on the state it acts on (R355). -/
def State.zaPostList (i : Nat) (entries : BitVec 12) (list : Octets) (bad : Bool) (s : State) : State × Answer :=
  if (s.slot i).pending then ((s.zaPostGo i entries).1, { status := stPending })
  else
    let s := s.copyMem (s.zaAddr i (s.slotCfg i).listAt) list bad
    ((s.zaPostGo i entries).1, { r0 := entries.setWidth 32 })

/-- ZA_POST (R158, R353, R355). -/
def execZaPost (p : Packet) (s : State) : Host.Outcome State Fault Refusal :=
  let i := param p.params 0 1
  let n := param p.params 2 2
  let first := param p.params 4 2
  let off := param p.params 6 2
  let len := 16 + 8 * n
  let good := unusedZero p.params [(0, 1), (2, 2), (4, 2), (6, 2)] && decide (i < 128) && decide (off % 8 = 0) && decide (off < 4096)
    && decide (n ≤ (s.slotCfg i).listCap.toNat) && decide (first + (off + len + 4095) / 4096 ≤ 65536)
  done (serve s p 0x0401 good (lotsFor first off len) fun s =>
    let r := s.readMem (lotAddr first + off) len
    replicate r.1 0x0401 p.params r.2.1 0 (State.zaPostList i (BitVec.ofNat 12 n) r.2.1 r.2.2))

/-- What a list asks for. -/
structure ListRead where
  good : Bool := true
  noWarm : Bool := false
  noShift : Bool := false
  refactor : Bool := false
  tag : W32 := 0
  d : Problem := {}
  deriving DecidableEq, Repr

/-- One entry of an update list (R156, R157). -/
def SlotCfg.applyEntry (k : SlotCfg) (r : ListRead) (o : Octets) : ListRead :=
  let i := fieldO o 1 3
  let v := (u32 o 4).toInt
  let d := r.d
  let bad : ListRead := { r with good := false }
  match (u8 o 0).toNat with
  | 1 => if i < k.n.toNat then { r with d := { d with q := d.q.set i v } } else bad
  | 2 => if i < k.m.toNat then { r with d := { d with l := d.l.set i v } } else bad
  | 3 => if i < k.m.toNat then { r with d := { d with u := d.u.set i v } } else bad
  | 4 => if i < k.m.toNat then { r with d := { d with l := d.l.set i v, u := d.u.set i v } } else bad
  | 5 => if i < k.pPat.length then { r with d := { d with p := d.p.set i v }, refactor := true } else bad
  | 6 => if i < k.aPat.length then { r with d := { d with a := d.a.set i v }, refactor := true } else bad
  | 7 =>
    let e := (BitVec.ofNat 8 (i % 256)).toInt
    if i < 256 ∧ 0 < v ∧ e ≤ 53 then { r with d := { d with rho := { m := v, e := e } }, refactor := true } else bad
  | _ => bad

/-- Whether some finite lower bound exceeds its finite upper bound (R157). -/
def Problem.crossed (d : Problem) : Bool :=
  (List.zipWith (fun l u => decide (l ≠ -2147483648) && decide (u ≠ 2147483647) && decide (u < l)) d.l d.u).any id

/-- Checks and applies a whole list (R155 to R157). -/
def SlotCfg.readList (k : SlotCfg) (slot : Nat) (entries : BitVec 12) (d : Problem) (o : Octets) : ListRead :=
  let n := entries.toNat
  let head := (u8 o 0).toNat = 1 ∧ (u8 o 1).toNat = slot ∧ (u16 o 2).toNat = n ∧ n ≤ k.listCap.toNat
  let r : ListRead := { good := decide head, noWarm := (u8 o 4).getLsbD 0, noShift := (u8 o 4).getLsbD 1, tag := u32 o 8, d := d }
  if r.good then
    let r := (upto n).foldl (fun r i => k.applyEntry r (sliceO o (16 + 8 * i) 8)) r
    if r.d.crossed then { r with good := false } else r
  else r

def ZaSlot.factorOf (z : ZaSlot) : Factor := if z.active then z.factor1 else z.factor0
def ZaSlot.last (z : ZaSlot) : ZaResult := if z.buffer then z.result1 else z.result0

/-- The solution of the last posted result, or zero (R168). -/
def SlotCfg.previous (k : SlotCfg) (z : ZaSlot) : Iterate :=
  if z.posted then { x := z.last.x, z := z.last.z, y := z.last.y }
  else { x := List.replicate k.n.toNat 0, z := List.replicate k.m.toNat 0, y := List.replicate k.m.toNat 0 }

/-- Status values (R170). -/
def zaDone : BitVec 4 := 1
def zaTruncated : BitVec 4 := 2
def zaStale : BitVec 4 := 3
def zaSuspect : BitVec 4 := 4
def zaRejected : BitVec 4 := 5

/-- The status of a solve that ends (R170): the first of the table. -/
def statusOf (ending : SolveEnd) (suspect : Bool) : BitVec 4 :=
  match ending with
  | .rejected => zaRejected
  | .stale => zaStale
  | .truncated => if suspect then zaSuspect else zaTruncated
  | _ => if suspect then zaSuspect else zaDone

/-- The result of a solve (R167 to R172). A REJECTED result is the previous one with its new tag, span and sequence, and with the conditions of its own reads (R157, R170). -/
def SlotCfg.result (k : SlotCfg) (z : ZaSlot) (v : Solve) (now : W64) : ZaResult :=
  let f := z.factorOf
  let prev := z.last
  let seq := prev.seq + 1
  let stale := v.ending == .stale
  let it := if stale then clipped z.problem (if k.shift && !v.noShift then k.shifted (k.previous z) else k.previous z)
    else if v.ending == .truncated then clipped z.problem v.it else v.it
  let res := k.residuals z.problem it
  let valid := v.ending == .running
  let range := v.range || (valid && (res.1.sat || res.2.sat))
  let suspect := f.saturated || v.poisoned
  let cut := stale || v.ending == .truncated
  let flags := b2n (v.warm && !stale) + 2 * b2n (if stale then k.shift && !v.noShift else v.shifted) + 4 * b2n v.refactored
    + 8 * b2n f.repaired + 16 * b2n range + 32 * b2n f.saturated + 64 * b2n cut + 128 * b2n valid + 256 * b2n v.poisoned
    + 512 * b2n z.refactorPending
  if v.ending = .rejected then
    { prev with seq := seq, status := zaRejected, span := v.span, tag := v.tag, doneNs := now.setWidth 32
                flags := (prev.flags &&& 0x1FF) ||| BitVec.ofNat 10 (256 * b2n v.poisoned + 512 * b2n z.refactorPending)
                x := (k.previous z).x, z := (k.previous z).z, y := (k.previous z).y }
  else
    { seq := seq, status := statusOf v.ending suspect, iterations := v.iteration, flags := BitVec.ofNat 10 flags
      span := v.span, doneNs := now.setWidth 32, tag := v.tag
      residP := if valid then BitVec.ofInt 32 res.1.v else 0x7FFFFFFF
      residD := if valid then BitVec.ofInt 32 res.2.v else 0x7FFFFFFF
      repairs := f.repairs, x := it.x, z := it.z, y := it.y }

/-- Whether a solve's result takes over the last result (R157, R168). -/
def Solve.reuses (v : Solve) : Bool := v.ending == .stale || v.ending == .rejected

/-- Posts a result: the inactive buffer, the counters, the slack and the completion token (R169, R172, R173). -/
def State.zaPosted (s : State) (v : Solve) : State :=
  let i := v.slot.toNat
  let n := laneOf i
  let k := s.slotCfg i
  let r := if v.reuses && (s.slot i).posted then s.zaRead (s.zaLastWords i) else (s, false)
  let s := r.1.disarm (.solveDeadline v.slot)
  let v := { v with poisoned := v.poisoned || r.2 }
  let z := s.slot i
  let r := k.result z v s.tb.tb0.ns
  let b := !z.buffer
  let s := (s.writeMem (s.zaAddr i (if b then k.result1At else k.result0At)) r.octets).1
  let z := { z with
    result0 := if b then z.result0 else r, result1 := if b then r else z.result1, buffer := b, posted := true, activity := 0
    truncated := if r.status = zaTruncated then inc z.truncated else z.truncated
    stale := if r.status = zaStale then inc z.stale else z.stale
    rejected := if r.status = zaRejected then inc z.rejected else z.rejected
    suspect := if r.status = zaSuspect then inc z.suspect else z.suspect
    rangeExceeded := if r.flags.getLsbD 4 && v.ending != .rejected then inc z.rangeExceeded else z.rangeExceeded }
  let ln := s.lane n
  let s := (s.setSlot i z).setLane n { ln with
    solves := inc ln.solves
    deadlineHits := if r.status = zaTruncated ∨ r.status = zaStale then inc ln.deadlineHits else ln.deadlineHits }
  let s := { s with dev := { s.dev with za := s.dev.za.complete s.span.toNat (s.slackTo v.deadline.toNat) } }
  if k.tokenTag = 0 then s
  else s.sendToken {
    entry := (k.tokenTag - 1).setWidth 12, lane := some (BitVec.ofNat 5 n)
    operand := BitVec.ofNat 128 (i + r.status.toNat * 256 + b2n b * 65536 + r.seq.toNat * 2 ^ 32) }

/-- A missed solve deadline (R32): one overrun with its event naming the slot. -/
def State.zaOverrun (s : State) (i : Nat) : State :=
  let s := { s with dev := { s.dev with za := { s.dev.za with overruns := inc s.dev.za.overruns } } }
  s.raise { code := 0x0104, source := srcZa, data := BitVec.ofNat 32 i }

/-- Whether a solve's deadline lies before now: what completes at the deadline itself has completed (R31, R168). -/
def State.solvePast (s : State) (v : Solve) : Bool := decide (v.deadline.toNat * 8 < s.stamp125)

/-- The deadline of a queued solve arrives (R168): it is never started, and its list stays posted. -/
def State.cutQueued (s : State) (n : Nat) (e : Solve) : State :=
  let s := s.zaOverrun e.slot.toNat
  let s := s.setLane n { s.lane n with queue := (s.lane n).queue.filter (fun x => x.slot != e.slot) }
  s.zaPosted { e with ending := .stale, missed := true, span := s.span32 }

/-- The deadline of a running solve arrives (R168). A refactorisation that it owes and has not completed stays pending (R165). -/
def State.cutRunning (s : State) (n : Nat) (v : Solve) : State :=
  let s := s.zaOverrun v.slot.toNat
  let v := { v with missed := true }
  if v.phase = .posting then s.setLane n { s.lane n with run := some (if v.ending = .running then { v with ending := .late } else v) }
  else if v.phase = .iterate && decide (v.setEnd ≤ v.deadline.toNat * 8) then
    s.setLane n { s.lane n with run := some { v with phase := .posting, ending := .truncated } }
  else
    let z := s.slot v.slot.toNat
    let s := s.setSlot v.slot.toNat { z with refactorPending := z.refactorPending || v.owes }
    s.setLane n { s.lane n with run := some { v with phase := .posting, ending := .stale } }

/-- A lane acts on the deadlines that have passed: of the solves that wait, and of the one that runs (R31, R168). -/
def State.laneDeadlines (s : State) (n : Nat) : State :=
  let s := ((s.lane n).queue.filter s.solvePast).foldl (fun s e => s.cutQueued n e) s
  match (s.lane n).run with
  | none => s
  | some v => if s.solvePast v && !v.missed then s.cutRunning n v else s

/-- The first queued solve starts in a free lane (R161): the list, the set-up of R162 and what follows. How long list application and set-up take no command tells: their ends are free values (log entry 33). -/
def State.startSolve (s : State) (n : Nat) (e : Solve) (rest : List Solve) : State :=
  let ln := s.lane n
  let i := e.slot.toNat
  let k := s.slotCfg i
  let z := s.slot i
  let r := s.readMem (s.zaAddr i k.listAt) (16 + 8 * z.entries.toNat)
  let l : ListRead := if z.pending then k.readList i z.entries z.problem r.2.1 else { d := z.problem }
  let s := if z.pending then r.1 else s
  let warm := k.warm && !l.noWarm && z.posted && z.last.status != zaSuspect
  let p := s.zaRead (if !l.good then [] else s.zaInner i ++ (if warm then s.zaLastWords i else []))
  let z1 : ZaSlot := { z with pending := false, activity := 2 }
  let z1 := if l.good then { z1 with p := l.d.p, a := l.d.a, q := l.d.q, l := l.d.l, u := l.d.u, rho := l.d.rho } else z1
  let start := if warm then k.previous z else k.previous { z with posted := false }
  let shift := warm && k.shift && !l.noShift
  let start := clipped z1.problem (if shift then k.shifted start else start)
  let again := l.refactor || z.refactorPending || !z.factorOf.valid
  let a := p.1.draw 32
  let b := a.2.draw 32
  let now := s.stamp125
  let s := b.2
  let v : Solve := { e with
    span := s.span32, tag := if z.pending then l.tag else 0, noWarm := l.noWarm, noShift := l.noShift, warm := warm, shifted := shift
    it := start, poisoned := (z.pending && r.2.2) || p.2
    listEnd := if l.good then now + a.1.toNat else now, setEnd := if l.good then now + a.1.toNat + b.1.toNat else now
    owes := l.good && again
    phase := if !l.good then .posting else if again then .refactor else .iterate
    ending := if l.good then .running else .rejected }
  (s.setSlot i z1).setLane n { ln with queue := rest, run := some v }

/-- The lane starts its first queued solve (R147, R161). One that runs, or whose posting handshake the dispatcher holds, starts none (R173). -/
def execSolveStart (lane : BitVec 5) (s : State) : Host.Outcome State Fault Refusal :=
  let n := lane.toNat
  let s := s.laneDeadlines n
  let held := s.ts.held.any (fun t => t.lane == some lane)
  match (s.lane n).queue with
  | [] => done s
  | e :: rest => if (s.lane n).run.isSome || held then done s else done (s.startSolve n e rest)

/-- Refactorisation ends (R163 to R165): the inactive buffer becomes active; a poisoned read abandons it (R174). -/
def State.refactored (s : State) (n : Nat) (v : Solve) : State :=
  let i := v.slot.toNat
  let k := s.slotCfg i
  let v := { v with owes := false, listEnd := 0, setEnd := 0, phase := .iterate }
  let r := s.zaRead (s.zaInner i)
  let s := r.1
  let z := s.slot i
  if r.2 then
    (s.setSlot i { z with refactorPending := true }).setLane n { s.lane n with run := some { v with poisoned := true } }
  else
    let f := k.factorise z.problem
    let z := { z with
      factor0 := if z.active then f else z.factor0, factor1 := if z.active then z.factor1 else f, active := !z.active
      refactorPending := false, pivotRepairs := satAdd z.pivotRepairs f.repairs.toNat }
    (s.setSlot i z).setLane n { s.lane n with run := some { v with refactored := true, range := v.range || f.saturated } }

/-- A refactorisation's last column is stored, before its deadline (R165, R168). -/
def execRefactorisationComplete (lane : BitVec 5) (s : State) : Host.Outcome State Fault Refusal :=
  let n := lane.toNat
  let s := s.laneDeadlines n
  match (s.lane n).run with
  | none => done s
  | some v => if v.phase = .refactor then done (s.refactored n v) else done s

/-- An iteration ends (R166): x, z and y are written; the last one leads to the posting. A poisoned read invalidates the active factor (R174). -/
def State.iterated (s : State) (n : Nat) (v : Solve) : State :=
  let i := v.slot.toNat
  let k := s.slotCfg i
  let p := s.zaRead (s.zaInner i)
  let s := p.1
  let z := s.slot i
  let r := k.iterate z.problem z.factorOf v.it
  let c := v.iteration + 1
  let v := { v with
    it := r.1, range := v.range || r.2, iteration := c, poisoned := v.poisoned || p.2, listEnd := 0, setEnd := 0
    phase := if c = k.nIt then .posting else .iterate }
  let drop := fun (f : Factor) => { f with valid := false }
  let z := if p.2 then (if z.active then { z with factor1 := drop z.factor1 } else { z with factor0 := drop z.factor0 }) else z
  (s.setSlot i z).setLane n { s.lane n with run := some v }

/-- An iteration completes, before its deadline (R166, R168). -/
def execIterationComplete (lane : BitVec 5) (s : State) : Host.Outcome State Fault Refusal :=
  let n := lane.toNat
  let s := s.laneDeadlines n
  match (s.lane n).run with
  | none => done s
  | some v => if v.phase = .iterate then done (s.iterated n v) else done s

/-- The lane posts the result of its solve (R167, R172). -/
def execSolvePosting (lane : BitVec 5) (s : State) : Host.Outcome State Fault Refusal :=
  let n := lane.toNat
  let s := s.laneDeadlines n
  match (s.lane n).run with
  | none => done s
  | some v => if v.phase = .posting then done ((s.setLane n { s.lane n with run := none }).zaPosted v) else done s

/-- A slot's solve deadline arrives (R168). A solve whose result is posted already has none. -/
def execSolveDeadline (slot : BitVec 7) (s : State) : Host.Outcome State Fault Refusal := done (s.laneDeadlines (laneOf slot.toNat))

/-- ZA_SLOTs_RES (R177). -/
def State.zaRes (s : State) (i : Nat) : W32 :=
  let z := s.slot i
  let r := z.last
  word [(r.iterations.toNat, 24), (r.status.toNat, 20), (z.activity.toNat, 18), (b2n z.buffer, 17), (b2n z.active, 16),
    ((r.flags &&& 0x1FF).toNat, 0), (b2n z.refactorPending, 9)]

/-- ZA_RESULT (R172, R353): the last result's octets into lots. -/
def State.zaResult (i first : Nat) (s : State) : State × Answer :=
  let k := s.slotCfg i
  let z := s.slot i
  if !z.posted then (s, { status := stNoData })
  else
    let r := s.readMem (s.zaAddr i (if z.buffer then k.result1At else k.result0At)) k.resultLen
    (r.1.copyMem (lotAddr first) r.2.1 r.2.2, { r0 := z.last.seq, r1 := s.zaRes i })

/-- ZA_RESULT. Its copy is made at once, and in a pair it is replicated as its group is (R382). -/
def execZaResult (p : Packet) (s : State) : Host.Outcome State Fault Refusal :=
  let i := param p.params 0 1
  let first := param p.params 2 2
  let lots := lotsFor first 0 (s.slotCfg i).resultLen
  let good := unusedZero p.params [(0, 1), (2, 2)] && decide (i < 128) && decide (first + lots.length ≤ 65536)
  done (serve s p 0x0403 good lots fun s =>
    if s.refusesReplicated then reject s stWrongState
    else
      let r := s.zaResult i first
      if s.replicates && r.2.status = stOk then
        let cmd : ReplCommand := { opcode := 0x0403, params := p.params, list := [] }
        .answer { r.1 with red := { r.1.red with outbox := r.1.red.outbox ++ [.command s.effectSpan cmd] } } r.2
      else .answer r.1 r.2)

end Sys2Proof.Machine
end

