-- ==== Sys2Proof/Machine/Geometry.lean ====
section
/-! DEFINITION. Warden's geometry: chains, capsules, volumes, distances and closing speeds (R208 to R216). Frames, points, distances and speeds are formed exactly from the catalogue's numbers, the containers and the sines; each quantity that R216 names is rounded once, to the safe side (DESIGN CHOICE, log entry 13: the spec states no intermediate roundings). -/
namespace Sys2Proof.Machine

/-- A frame in the cell frame, exact: the rotation by rows with `e` fraction bits, the translation in m with 24 + e. -/
structure Frame where
  e : Nat := 30
  r : List Int := []
  p : List Int := []
  deriving DecidableEq, Repr

def at3 (l : List Int) (i : Nat) : Int := l.getD i 0
def rotAt (r : List Int) (i j : Nat) : Int := at3 r (3 * i + j)

def three (f : Nat → Int) : List Int := [f 0, f 1, f 2]

def mulRot (a b : List Int) : List Int :=
  [0, 1, 2].flatMap (fun i => three (fun j => rotAt a i 0 * rotAt b 0 j + rotAt a i 1 * rotAt b 1 j + rotAt a i 2 * rotAt b 2 j))

/-- A scaled list: each component times 2^n. -/
def upBy (n : Nat) (x : List Int) : List Int := three (fun i => at3 x i * (2 ^ n : Nat))

/-- A point given in a frame with 24 + n fraction bits, in the cell frame with 24 + e + n. -/
def Frame.point (f : Frame) (n : Nat) (x : List Int) : List Int :=
  three (fun i => at3 f.p i * (2 ^ n : Nat) + (rotAt f.r i 0 * at3 x 0 + rotAt f.r i 1 * at3 x 1 + rotAt f.r i 2 * at3 x 2))

def Frame.mul (f g : Frame) : Frame := { e := f.e + g.e, r := mulRot f.r g.r, p := f.point g.e g.p }

/-- Whether the translation lies in Q8.24 of 32 bits (R216). -/
def Frame.fits (f : Frame) : Bool :=
  [0, 1, 2].all (fun i => decide (-((2 ^ (31 + f.e) : Nat) : Int) ≤ at3 f.p i) && decide (at3 f.p i < ((2 ^ (31 + f.e) : Nat) : Int)))

/-- M_j of a revolute joint: a rotation about z (R208, log entry 5). -/
def rotZ (q : Int) : List Int :=
  let c := Config.wardenCos q
  let s := Config.wardenSin q
  [c, -s, 0, s, c, 0, 0, 0, 0x40000000]

def unitRot : List Int := [0x40000000, 0, 0, 0, 0x40000000, 0, 0, 0, 0x40000000]

/-- A joint in the cell frame: its axis with `e` fraction bits, a point on it with 24 + e, and its rates in rad/s or m/s, Q.48. -/
structure Axis where
  prismatic : Bool := false
  e : Nat := 30
  z : List Int := []
  o : List Int := []
  rate : Int := 0
  nom : Int := 0
  deriving DecidableEq, Repr

/-- Safe position of a joint in radians or metres, with 44 fraction bits (R208). -/
def jointQ (j : ChainJoint) (pos : W32) : Int := pos.toInt * j.factor

/-- Whether a joint's q lies in Q8.24 of 32 bits (R216). -/
def jointFits (j : ChainJoint) (pos : W32) : Bool :=
  decide (-((2 ^ 51 : Nat) : Int) ≤ jointQ j pos) && decide (jointQ j pos < ((2 ^ 51 : Nat) : Int))

/-- A frame given in Q2.30 and Q8.24 (R208). -/
def catFrame (r p : List Int) : Frame := { r := r, p := upBy 30 p }

/-- The frames of a chain, frame 0 first, and its joints. -/
def chainFrames (f : Frame) : List (ChainJoint × W32 × Int × Int) → List Frame × List Axis
  | [] => ([f], [])
  | e :: l =>
    let g := f.mul (catFrame e.1.rot e.1.pos)
    let q := jointQ e.1 e.2.1
    let m : Frame := if e.1.prismatic then { r := unitRot, p := [0, 0, q * (2 ^ 10 : Nat)] } else { r := rotZ q, p := [0, 0, 0] }
    let rest := chainFrames (g.mul m) l
    let ax : Axis := { prismatic := e.1.prismatic, e := g.e, z := three (fun i => rotAt g.r i 2), o := g.p, rate := e.2.2.1, nom := e.2.2.2 }
    (f :: rest.1, ax :: rest.2)

def cross (a b : List Int) : List Int :=
  [at3 a 1 * at3 b 2 - at3 a 2 * at3 b 1, at3 a 2 * at3 b 0 - at3 a 0 * at3 b 2, at3 a 0 * at3 b 1 - at3 a 1 * at3 b 0]

def dot3 (a b : List Int) : Int := at3 a 0 * at3 b 0 + at3 a 1 * at3 b 1 + at3 a 2 * at3 b 2

/-- A volume as Warden measures to it, Q8.24 m: a box, or the box that holds a vertical axis, with a radius (R210). -/
structure Solid where
  lo : List Int := []
  hi : List Int := []
  radius : Int := 0
  deriving DecidableEq, Repr

def boxGap (lo hi x : Int) : Int := if x < lo then lo - x else if hi < x then hi - x else 0

/-- A point of a capsule's axis at the fraction n/d, times d, with its gap to the volume's box, times d, and the gap's square. -/
structure Near where
  d : Int := 1
  p : List Int := []
  g : List Int := []
  q : Int := 0
  deriving DecidableEq, Repr

def nearAt (a e : List Int) (v : Solid) (n d : Int) : Near :=
  let p := three (fun i => at3 a i * d + at3 e i * n)
  let g := three (fun i => boxGap (at3 v.lo i * d) (at3 v.hi i * d) (at3 p i))
  { d := d, p := p, g := g, q := dot3 g g }

/-- The fractions at which the squared distance can be least: both ends, and the stationary point of each pattern of faces. -/
def fractions (a e : List Int) (v : Solid) : List (Int × Int) :=
  let opt := [0, 1, 2]
  let pats := opt.flatMap (fun x => opt.flatMap (fun y => opt.map (fun z => [x, y, z])))
  (0, 1) :: (1, 1) :: pats.filterMap (fun s =>
    let on := fun (i : Nat) => s.getD i 1 != 1
    let c := fun (i : Nat) => if s.getD i 1 = 0 then at3 v.lo i else at3 v.hi i
    let den := [0, 1, 2].foldl (fun t i => if on i then t + at3 e i * at3 e i else t) 0
    let num := [0, 1, 2].foldl (fun t i => if on i then t - at3 e i * (at3 a i - c i) else t) 0
    if den = 0 then none else some (clampInt 0 den num, den))

/-- A volume with `n` more fraction bits. -/
def Solid.up (v : Solid) (n : Nat) : Solid := { lo := upBy n v.lo, hi := upBy n v.hi, radius := v.radius * (2 ^ n : Nat) }

/-- The point of a capsule's axis from a to b that is closest to a volume in the same scale: of equal ones the first of `fractions`. -/
def nearest (a b : List Int) (v : Solid) : Near :=
  let e := three (fun i => at3 b i - at3 a i)
  (fractions a e v).foldl (fun m f =>
    let x := nearAt a e v f.1 f.2
    if x.q * (m.d * m.d) < m.q * (x.d * x.d) then x else m) (nearAt a e v 0 1)

def ceilSqrt (n : Nat) : Nat := let r := isqrt 80 n; if r * r = n then r else r + 1

/-- Distance of the surfaces in Q8.24 m, rounded down, of a point with 24 + e fraction bits; 0 for an overlap (R212, R216). -/
def Near.distance (x : Near) (e : Nat) (rc rv : Int) : Int :=
  max 0 ((isqrt 80 (x.q / (x.d * x.d * (2 ^ (2 * e) : Nat))).toNat : Int) - rc - rv)

/-- Closing speed of the axis point in Q8.24 m/s, rounded up; 0 where it lies in the volume or on it (R212, R216). `rv` is the volume's radius in the point's scale. -/
def Near.closing (x : Near) (e : Nat) (rv : Int) (joints : List (Axis × Int)) : Int :=
  if x.q ≤ rv * x.d * (rv * x.d) then 0
  else
    let v := joints.foldl (fun s j =>
      let z := upBy (e - j.1.e) j.1.z
      let o := three (fun i => at3 x.p i - at3 j.1.o i * (2 ^ (e - j.1.e) : Nat) * x.d)
      let u := if j.1.prismatic then three (fun i => at3 z i * (2 ^ (24 + e) : Nat) * x.d) else cross z o
      three (fun i => at3 s i + j.2 * at3 u i)) [0, 0, 0]
    let n := dot3 v x.g
    if n ≤ 0 then 0
    else (ceilSqrt (ceilDiv (n * n) (x.q * x.d * x.d * (2 ^ (96 + 4 * e) : Nat))).toNat : Int)

/-- Whether a value lies in a 32-bit quantity; a saturation makes the arm violate (R216). -/
def fits32 (x : Int) : Bool := decide (minS 32 ≤ x) && decide (x ≤ maxS 32)

/-- Stopping time and distance at a speed, read between rows and rounded up; none above the last row (R214, R216). -/
def stopData : List StopRow → Int → Option (Int × Int)
  | [], _ => none
  | [r], v => if v ≤ r.v then some (r.t, r.s) else none
  | r0 :: r1 :: l, v =>
    if v ≤ r1.v then
      some (r0.t + ceilDiv ((r1.t - r0.t) * (v - r0.v)) (r1.v - r0.v), r0.s + ceilDiv ((r1.s - r0.s) * (v - r0.v)) (r1.v - r0.v))
    else stopData (r1 :: l) v

/-- The constant terms of S_p for an arm and a connection: v_h, T_r and C + Z_d + Z_r (R213). -/
structure SepTerms where
  vh : Int := 0
  tr : Int := 0
  k : Int := 0
  deriving DecidableEq, Repr

/-- S_p(v), rounded up (R213, R216). -/
def SepTerms.sp (w : SepTerms) (rows : List StopRow) (v : Int) : Option Int :=
  (stopData rows v).map (fun e => ceilDiv (w.vh * (w.tr + e.1) + v * w.tr) 16777216 + e.2 + w.k)

/-- v_allow(S), rounded down (R215, R216): the largest speed of the stopping data with S_p(v) ≤ S. -/
def SepTerms.allow (w : SepTerms) (rows : List StopRow) (s : Int) : Int :=
  let f := fun v => (w.sp rows v).getD (maxS 64)
  let rec go : List StopRow → Int → Int
    | r0 :: r1 :: l, best =>
      let a := f r0.v
      let b := f r1.v
      let v := if b ≤ s then r1.v else if a ≤ s then r0.v + floorDiv ((s - a) * (r1.v - r0.v)) (b - a) else best
      go (r1 :: l) (max best v)
    | _, best => best
  if f 0 ≤ s then go rows 0 else 0

end Sys2Proof.Machine
end

