-- ==== Sys2Proof/Machine/Warden.lean ====
section
/-! DEFINITION. Warden's span: occupied volumes, scales, protective stops, DEMAND containers, overrun and lockstep, and the safety commands that Warden answers (R206 to R222, R244). -/
namespace Sys2Proof.Machine

def State.armModel (s : State) (a : Nat) : ArmModel := Table.get {} s.cfg.safety.arms a

/-- Millimetres in Q8.24 m, rounded down and up. -/
def mmDown (x : Int) : Int := floorDiv (x * 16777216) 1000
def mmUp (x : Int) : Int := ceilDiv (x * 16777216) 1000

def boxOf (l : List Int) (r : Int) : Solid := { lo := l.take 3, hi := (l.drop 3).take 3, radius := r }

/-- A volume that is occupied, as Warden measures to it; none where it is not (R210). The axis of a track volume, given in mm, becomes the least box of Q8.24 that holds it: rounded to the safe side (R216). -/
def State.occupied (s : State) (v : VolumeCfg) : Option Solid :=
  let n := v.conn.toNat
  let c := s.connCfg n
  let k := s.wconn n
  let ok := s.applies .a n
  if v.track then
    if !ok then some (boxOf c.coverage 0)
    else if (u8 k.payload 0).getLsbD 0 then
      let x := (u16 k.payload 1).toInt
      let y := (u16 k.payload 3).toInt
      some { lo := [mmDown x, mmDown y, 0], hi := [mmUp x, mmUp y, c.height], radius := mmUp (u16 k.payload 5).toNat }
    else none
  else if !ok || k.fields.getLsbD v.bit.toNat then some (boxOf v.box 0) else none

/-- The occupied volumes with their numbers. -/
def State.volumesNow (s : State) : List (Nat × VolumeCfg × Solid) :=
  s.cfg.safety.volumes.filterMap (fun e => if e.2.used then (s.occupied e.2).map (fun v => (e.1, e.2, v)) else none)

/-- The SAFE_STATE connections of an arm that Warden receives (R208). -/
def State.jointConns (s : State) (a : Nat) : List (Nat × ConnCfg) :=
  s.conns.filter (fun e => e.2.used && e.2.warden && e.2.kind == .safeState && e.2.arm.toNat == a)

/-- A chain joint with its safe position and its safe and nominal rates, Q.48; none where its connection is not accepted (R211). -/
def State.chainJoint (s : State) (a : Nat) (j : ChainJoint) : Option (ChainJoint × W32 × Int × Int) :=
  match (s.jointConns a).find? (fun e => e.2.channel == j.channel) with
  | none => none
  | some e =>
    if s.applies .a e.1 then
      let o := (s.wconn e.1).payload
      some (j, u32 o 0, (u16 o 4).toInt * j.factor * 16384, (Table.get 0 s.saf.nom j.channel).toInt * j.factor)
    else none

/-- What a pair gives (R212, R215): its distance, S_p and closing speed, whether it violates, whether it allows a release, and v_allow with v_nom. -/
structure PairOut where
  capsule : Nat := 0
  volume : Nat := 0
  dist : Int := 0
  sp : Int := 0
  vr : Int := 0
  bad : Bool := false
  clear : Bool := false
  allow : Int := 0
  vnom : Int := 0
  deriving DecidableEq, Repr

/-- T_r: t_sensor + one span + 10 µs + t_drive, in Q8.24 s rounded up (R213). -/
def State.reactTime (s : State) (c : ConnCfg) (m : ArmModel) : Int :=
  c.tSensor + ceilDiv (((s.spanNs : Int) + 10000) * 16777216) 1000000000 + m.tDrive

/-- The pair of a capsule and an occupied volume (R212 to R216). A saturation of a point, a distance, a speed, T_r, S_p or the release sum is a violation. -/
def State.pair (s : State) (m : ArmModel) (fr : List Frame) (ax : List Axis) (n : Nat) (k : Capsule) (v : Nat × VolumeCfg × Solid) : PairOut :=
  let f := fr.getD k.frame {}
  let a := f.point 0 k.a
  let b := f.point 0 k.b
  let u := v.2.2.up f.e
  let x := nearest a b u
  let moved := ax.take k.frame
  let d := x.distance f.e k.r v.2.2.radius
  let vr := x.closing f.e u.radius (moved.map (fun j => (j, j.rate)))
  let vn := x.closing f.e u.radius (moved.map (fun j => (j, j.nom)))
  let c := s.connCfg v.2.1.conn.toNat
  let w : SepTerms := { vh := s.cfg.safety.vH, tr := s.reactTime c m, k := c.c + c.zD + m.zR }
  let sp := w.sp m.stopping vr
  let sp0 := w.sp m.stopping 0
  let spot := fun (p : List Int) => ({ e := f.e, p := p } : Frame).fits
  let free := match sp0 with | some y => y + s.cfg.safety.releaseMargin | none => maxS 32 + 1
  let good := spot a && spot b && fits32 d && fits32 vr && fits32 vn && fits32 w.tr && fits32 w.k && fits32 free
    && (match sp with | some y => fits32 y && decide (y ≤ d) | none => false)
  { capsule := n, volume := v.1, dist := d, sp := sp.getD (maxS 32), vr := vr, bad := !good
    clear := decide (free ≤ d)
    allow := w.allow m.stopping d, vnom := vn }

/-- What Warden finds of an arm in a span: whether a joint is not accepted, whether a joint or a frame saturates, and its pairs. -/
structure ArmOut where
  lost : Bool := false
  unfit : Bool := false
  pairs : List PairOut := []
  deriving DecidableEq, Repr

/-- Number of an arm's first capsule among those of the cell (R209). -/
def State.capsuleBase (s : State) (a : Nat) : Nat := (arms8.take a).foldl (fun n b => n + (s.armModel b).capsules.length) 0

def State.lookAt (s : State) (a : Nat) : ArmOut :=
  let m := s.armModel a
  let js := m.chain.map (s.chainJoint a)
  if js.any Option.isNone || (s.jointConns a).any (fun e => !s.applies .a e.1) then { lost := true }
  else
    let js := js.filterMap id
    let fx := chainFrames (catFrame m.baseRot m.basePos) js
    let vs := s.volumesNow
    let b := s.capsuleBase a
    { unfit := !(js.all (fun e => jointFits e.1 e.2.1) && fx.1.all Frame.fits)
      pairs := (upto m.capsules.length).flatMap (fun i => vs.map (s.pair m fx.1 fx.2 (b + i) (m.capsules.getD i {}))) }

/-- The pair of least S − S_p: the limiting pair. -/
def limiting (l : List PairOut) : Option PairOut :=
  l.foldl (fun b p => match b with
    | none => some p
    | some q => if p.dist - p.sp < q.dist - q.sp then some p else some q) none

/-- v_allow / v_nom of a pair in Q1.15, truncated; 1.0 at most (R215). -/
def PairOut.ratio (p : PairOut) : Int := if p.vnom ≤ 0 then 32768 else min 32768 (floorDiv (p.allow * 32768) p.vnom)

/-- The pair that sets s_cand. -/
def slowest (l : List PairOut) : Option PairOut :=
  l.foldl (fun b p => match b with
    | none => some p
    | some q => if p.ratio < q.ratio then some p else some q) none

def PairOut.cause (p : PairOut) : StopPair :=
  { capsule := BitVec.ofNat 8 p.capsule, volume := BitVec.ofNat 8 p.volume, dist := bvS 32 p.dist, sp := bvS 32 p.sp }

def State.unprotect (s : State) (a : Nat) : State :=
  s.setWarm a { s.warm a with prot := 0, needRestart := false, restartWait := false, clearSince := none }

/-- Warden's decision on an arm (R215 to R218). A saturation of its chain makes it violate (R216); the stop then names the limiting pair that violates, or none. -/
def State.judge (s : State) (first : Bool) (a : Nat) : State :=
  let m := s.armModel a
  let o := s.lookAt a
  let prev := if first then 0 else (s.warm a).scale.toNat
  let bad := o.pairs.filter (fun p => p.bad)
  let cand : Int := (slowest o.pairs).elim 32768 PairOut.ratio
  let low := !o.lost && decide (cand < (m.sMin.toNat : Int))
  let w := s.warm a
  let w := match limiting o.pairs with
    | none => w
    | some p => { w with
        dist := bvS 32 p.dist, sp := bvS 32 p.sp, vr := bvS 32 p.vr, volume := BitVec.ofNat 8 p.volume, capsule := BitVec.ofNat 8 p.capsule }
  let s := s.setWarm a w
  let s := if o.lost then s.protectArm a false 1 {}
    else if !bad.isEmpty || o.unfit then s.protectArm a false 0 ((limiting bad).elim {} PairOut.cause)
    else if low then s.protectArm a false 0 ((slowest o.pairs).elim {} PairOut.cause)
    else s
  let guardOpen := inputs16.any (fun i => (s.siCfg .a i).role == .guard && (s.siCfg .a i).arms.getLsbD a && !s.inputShut .a i)
  let free := !o.lost && !o.unfit && bad.isEmpty && o.pairs.all (fun p => p.clear) && !low && !guardOpen
  let w := s.warm a
  let s :=
    if w.prot = 0 then s
    else if !free then s.setWarm a { w with clearSince := none, restartWait := false }
    else
      let since := w.clearSince.getD s.tb.tb0.ns
      let held := decide (s.cfg.safety.resumeMs * 1000000 ≤ s.since .a since)
      if held && !w.needRestart then s.unprotect a
      else s.setWarm a { w with clearSince := some since, restartWait := held }
  let stopped := (s.warm a).prot != 0 || o.lost || o.unfit || !bad.isEmpty || low || s.enableStop .a a
  let v := if stopped then 0 else min (min cand.toNat (prev + m.sRise.toNat)) 32767
  s.setWarm a { s.warm a with scale := BitVec.ofNat 16 v }

/-- Every connection of Warden whose watchdog time has run out is SAFE (R254). -/
def State.wardenExpires (s : State) : State :=
  s.each (s.conns.map (fun e => e.1)) (fun s n =>
    let c := s.connCfg n
    s.setWconn n ((s.wconn n).expired c.tWdNs (s.wardenNow c)))

/-- Warden's part of a container that this device sends (R206, R250): octets 0 to 7 and 9 to 14 of a DEMAND, octets 0 to 10 of an IO, whose a_bits the spec leaves open. -/
def State.draftConn (s : State) (n : Nat) : State :=
  let c := s.connCfg n
  let u : OutConn := Table.get {} s.saf.outConns n
  let seq := u.seq + 1
  let h := containerHeader c seq (s.wardenNow c)
  let a := c.arm.toNat
  let r : Octets × State := if c.kind = .demand then ([s.demandA a, 0] ++ leBytes 2 (s.slsOf .a a).toNat ++ [0, 0, 0, 0], s)
    else let d := s.draw 32; (leBytes 4 d.1.toNat ++ [0, 0, 0, 0], d.2)
  let o := h ++ r.1 ++ List.replicate 9 0
  { r.2 with saf := { r.2.saf with outConns := Table.put {} r.2.saf.outConns n { u with seq := seq, draft := some o } } }

/-- A Warden overrun (R220): counted, its event, scale 0 for the next span; the second in a row demands an SS1 stop of every arm. -/
def State.wardenOverrun (s : State) : State :=
  let v := s.saf
  let s := { s with saf := { v with overruns := inc v.overruns, late := true, overrunRun := v.overrunRun + 1, wardenOk := false } }
  let s := s.raise { code := 0x0C03, source := srcSaf }
  if 2 ≤ s.saf.overrunRun then
    let why := s.lastCause
    s.each arms8 (fun s a => if (s.armModel a).present then s.protect a true true 2 {} why else s)
  else s

/-- Whether the gather decks for which Warden waits have come or have been given up (R28, R211): those of the running rings that carry connections it uses. -/
def State.wardenReady (s : State) : Bool :=
  !s.saf.ran && s.conns.all (fun e =>
    let r := e.2.ring.toNat
    !(e.2.used && e.2.warden && !e.2.plant && !e.2.sends) || !(s.leads r || s.shadows r) || (s.ring r).gatherDone)

/-- Warden's span (R206, R211 to R221), once in a span. -/
def execWardenRun (s : State) : Host.Outcome State Fault Refusal :=
  if !s.wardenUp || !s.wardenReady then done s
  else
    let old := s
    let s := s.wardenExpires
    let first := s.saf.firstRun
    let vols := s.volumesNow.foldl (fun m e => bitSet m e.1 true) (0 : W64)
    let s := s.each arms8 (fun s a => if (s.armModel a).present then s.judge first a else s)
    let sl := s.slackOf s.cfg.safety.wdnDeadline.toNat
    let s := { s with saf := { s.saf with
      firstRun := false, ran := true, volumes := vols, slack := bvS 32 sl, heartbeat := some s.span32
      wardenOk := !s.saf.late && decide (0 ≤ sl) } }
    let s := if sl < 0 ∧ s.saf.late = false then s.wardenOverrun else s
    let s := s.settle old
    let s := s.each ((s.conns.filter (fun e => e.2.used && e.2.sends && e.2.warden)).map (fun e => e.1)) State.draftConn
    done s.fireWarden

/-- SAF_WDN_DEADLINE passes (R31, R220): an overrun unless Warden's span has completed. -/
def execWardenDeadline (s : State) : Host.Outcome State Fault Refusal :=
  let old := s
  if !s.came .wardenDeadline then done s
  else
  let s := s.disarm .wardenDeadline
  if s.saf.ran || s.saf.late || !s.saf.loadedA then done s
  else if s.saf.halted then done { s with saf := { s.saf with late := true } }
  else done (s.wardenOverrun.settle old)

/-- The span instant begins a new span of Warden: the slack of a span without completion, and the run of overruns (R220, R233). -/
def State.wardenSpan (s : State) : State :=
  let v := s.saf
  if !v.loadedA then s
  else { s with saf := { v with
    slack := if v.ran then v.slack else 0x80000000, overrunRun := if v.late then v.overrunRun else 0, ran := false, late := false } }

/-- A lockstep mismatch (R222): every high-side switch opens, both cores halt, and the registrar logs the event. -/
def execWardenLockstep (s : State) : Host.Outcome State Fault Refusal :=
  if s.saf.halted || s.pwr.inReset || s.pwr.dormant then done s
  else
    let t := { s with saf := { s.saf with halted := true, lockstepErr := true, wardenOk := false } }
    done ((t.raise { code := 0x0C04, source := srcSaf }).settle s)

/-- SAF_SO_STAT (R233): the Parapet's fields come over its status path. -/
def State.soStat (s : State) : W32 :=
  let b := fun (f : Nat → Bool) => outputs8.foldl (fun v n => v + b2n (f n) * 2 ^ n) 0
  word [(s.saf.lsOpenCmd.toNat, 24), (s.saf.hsOpenCmd.toNat, 16)
       , (s.saf.lsClosed.toNat, 8), (b (fun n => (s.chOut .a n).reads), 0)]

/-- SAF_STATUS (R233, R353). -/
def execSafStatus (p : Packet) (s : State) : Host.Outcome State Fault Refusal :=
  done (serve s p 0x0A01 (unusedZero p.params []) [] fun s =>
    .answer s { r0 := s.safStat, r1 := s.saf.sectionA, r2 := s.saf.sectionB, r3 := s.soStat })

/-- SAF_RESTART on the state it acts on (R218). -/
def State.safRestart (a : Nat) (s : State) : State × Answer :=
  let w := s.warm a
  if w.prot = 0 then (s, { status := stWrongState })
  else if !w.restartWait then (s, { status := stCausePresent })
  else ((s.unprotect a).settle s, {})

def execSafRestart (p : Packet) (s : State) : Host.Outcome State Fault Refusal :=
  let a := param p.params 0 1
  done (serve s p 0x0A04 (unusedZero p.params [(0, 1)] && decide (a < 8)) [] fun s =>
    replicate s 0x0A04 p.params [] 0 (State.safRestart a))

/-- SAF_OUTPUT on the state it acts on (R244). -/
def State.safOutput (bits mask : Nat) (s : State) : State × Answer :=
  let t := s.each outputs8 (fun s n =>
    if mask.testBit n then s.setChOut .a n { s.chOut .a n with request := bits.testBit n } else s)
  (t.settle s, {})

def execSafOutput (p : Packet) (s : State) : Host.Outcome State Fault Refusal :=
  done (serve s p 0x0A05 (unusedZero p.params [(0, 1), (1, 1)]) [] fun s =>
    replicate s 0x0A05 p.params [] 0 (State.safOutput (param p.params 0 1) (param p.params 1 1)))

end Sys2Proof.Machine
end

