-- ==== Sys2Proof/Machine/CellState.lean ====
section
/-! DEFINITION. The commands of the cell and arm states (R36 to R40, R123, R314, R319, R348): what they test, their effect at a span instant, and the replicated commands of a pair or a manager (R382, R395). -/
namespace Sys2Proof.Machine

def opIntegrate : W16 := 0x0201
def opEngage : W16 := 0x0202
def opRun : W16 := 0x0203
def opStop : W16 := 0x0204
def opPark : W16 := 0x0205
def opRingsOff : W16 := 0x0206
def opClear : W16 := 0x0207
def opResume : W16 := 0x0208
def opClose : W16 := 0x0209

/-- DEV_CELL_STATE (R45). -/
def State.cellStateReg (s : State) : W32 :=
  word [(s.dev.transitions.toNat, 16), (s.dev.causeKind.toNat, 8), (s.dev.previous.code, 4), (s.dev.cell.code, 0)]

/-- DEV_ARM_STATE (R45). -/
def State.armStateReg (s : State) : W32 := word (arms8.map (fun a => ((s.arm a).code, 2 * a)))

/-- A core from its reset (R314); counters and the debug settings stay (R446). -/
def Core.fresh (c : Core) : Core :=
  { faults := c.faults, items := c.items, holdMax := c.holdMax, steps := c.steps, breaks := c.breaks, watches := c.watches
    dbgSel := c.dbgSel, dbgData := c.dbgData }

/-- Hung cores are reset at the CELL_CLEAR that ends FAULT (R314). -/
def State.resetHung (s : State) : State := s.each cores12 (fun s n => if (s.core n).hung then s.setCore n (s.core n).fresh else s)

/-- Whether decks of a ring are being lost, or a node of it is silent (R92). -/
def Ring.failing (g : Ring) : Bool := decide (2 ≤ g.consecutive.toNat) || g.clearRun.any (fun e => decide (2 ≤ e.2))

/-- Whether the cause of a FAULT may still be there (R38): an open E-stop, a halted Warden, a dip, a REFCLK fault, whatever caused the FAULT (R48, R222, R238, R438); after Warden silent, heartbeats that stay away (R221); after the loss of a sensor or auxiliary ring, decks still lost (R92; log entry 20). -/
def State.causePresent (s : State) : Bool :=
  s.openInput .eStop || s.saf.halted || s.pwr.dips != 0 || s.tb.refFault
    || (s.dev.causeEvent == 0x0C05 && !s.par.beating)
    || (s.dev.causeEvent == 0x0607 && rings14.any (fun r => decide (8 ≤ r) && (s.ring r).phase.runs && decide (2 ≤ (s.ring r).consecutive.toNat)))

/-- The rings of the catalogue. -/
def State.configuredRings (s : State) : List Nat := rings14.filter (fun r => (s.ringCfg r).configured)

/-- Every configured ring carries its cycle. -/
def State.allRingsRun (s : State) : Bool := s.configuredRings.all (fun r => (s.ring r).phase.runs)

/-- Whether what stopped an arm is still there: its ring does not run, still loses decks or has a silent node (R92), or a worker has not its TB0 on the trunk (R399; log entry 20). -/
def State.armCause (s : State) (a : Nat) : Bool :=
  ((s.ringCfg a).configured && (!(s.ring a).phase.runs || (s.ring a).failing)) || (s.cfg.pair.hierRole == 2 && s.tb.tb0.mode != .locked)

/-- The status of a cell or arm command in a state (R37, R38, R40, R123, R319, R341). -/
def State.cellVerdict (s : State) (c : CellCmd) : W16 :=
  let a := c.arg.toNat
  let when_ := fun (b : Bool) => if b then stOk else stWrongState
  if c.opcode = opIntegrate then when_ (s.dev.cell == .loaded && !s.hq.service)
  else if c.opcode = opEngage then
    if s.dev.cell ≠ .parked || s.hq.service then stWrongState
    else if s.stopDemand || s.openInput .eStop || s.openInput .guard || !s.sectionMatch then stCausePresent else stOk
  else if c.opcode = opRun then when_ (s.dev.cell == .hold && (s.cfg.liveDebug || !cores12.any (fun n => (s.core n).halted)))
  else if c.opcode = opStop then when_ (s.dev.cell == .run)
  else if c.opcode = opPark then when_ (s.dev.cell == .run || s.dev.cell == .hold)
  else if c.opcode = opRingsOff then when_ (s.dev.cell == .parked)
  else if c.opcode = opClear then
    if s.dev.cell ≠ .fault then stWrongState else if s.causePresent then stCausePresent else stOk
  else if c.opcode = opResume then
    if s.arm a ≠ .halted || !(s.dev.cell == .hold || s.dev.cell == .run) then stWrongState
    else if s.armCause a then stCausePresent else stOk
  else if c.opcode = opClose then
    when_ ((s.ring a).phase == .line && (s.dev.cell == .parked || (decide (a < 8) && s.arm a == .halted)))
  else stBadOpcode

/-- A set's loops close on the positions at hand: path time 0 and no plan in force at the next run (R131, R188). -/
def State.engageSet (s : State) (a : Nat) : State := s.setArmSet a { s.armSet a with engage := true }

/-- The fault_reset edge of a set's drives (R141). -/
def State.resetDrives (s : State) (a : Nat) : State :=
  s.each (s.setChans a) (fun s c => s.setChan c { s.chan c with resetRequest := true })

/-- The effect of a cell or arm command that is accepted (R37, R40, R123). -/
def State.cellApply (s : State) (c : CellCmd) : State :=
  let a := c.arg.toNat
  if c.opcode = opIntegrate then s.setCell .integrating 0 0 c.opcode
  else if c.opcode = opEngage then (s.setCell .hold 0 0 c.opcode).each sets9 State.engageSet
  else if c.opcode = opRun then s.setCell .run 0 0 c.opcode
  else if c.opcode = opStop then s.beginStop .hold 0 0 c.opcode
  else if c.opcode = opPark then
    (if s.dev.cell = .run then s.beginStop .parked 0 0 c.opcode else s.setCell .parked 0 0 c.opcode)
  else if c.opcode = opRingsOff then s.setCell .loaded 0 0 c.opcode
  else if c.opcode = opClear then
    let goal : CellState := if s.allRingsRun then .parked else .loaded
    (((s.setCell goal 0 0 c.opcode).each sets9 State.resetDrives).resetHung).clearOutputs
  else if c.opcode = opResume then ((s.setArm a .enabled).engageSet a).resetDrives a
  else if c.opcode = opClose then s.listen a
  else s

/-- Result word 0 of a cell or arm command (R353). -/
def State.cellResult (s : State) (opcode : W16) : W32 :=
  if opcode = opResume then s.armStateReg else if opcode = opClose then 0 else s.cellStateReg

/-- A command takes effect, judged by the state it finds, and its reply goes out (R39, R348). -/
def State.runCommand (s : State) (c : CellCmd) : State :=
  let st := s.cellVerdict c
  let s := if st = stOk then s.cellApply c else s
  match c.queue with
  | none => s
  | some q => s.replyAtEffect q.toNat { status := st, r0 := if st = stOk then s.cellResult c.opcode else 0 }

/-- A CELL_STOP reaction that arose in INTEGRATING or PARKED acts at the span instant (R37, R431). -/
def State.applyHeld (s : State) : State :=
  match s.dev.heldStop with
  | none => s
  | some e =>
    let s := { s with dev := { s.dev with heldStop := none } }
    match s.dev.cell with
    | .integrating => s.setCell .fault 0xFF e 0
    | .parked => s.setCell .fault 0xFF e 0
    | _ => s

/-- The cell command that a replicated command spells. -/
def ReplPending.cellCmd (e : ReplPending) : CellCmd :=
  { queue := e.queue, opcode := e.cmd.opcode, arg := BitVec.ofNat 8 (param e.cmd.params 0 1) }

def isCellOp (op : W16) : Bool := op.toNat / 256 == 2

/-- The state that the commands accepted so far leave (R39): each is evaluated against the state that the one before it leaves. -/
def State.predicted (s : State) : State :=
  let go := fun (s : State) (c : CellCmd) => if s.cellVerdict c = stOk then s.cellApply c else s
  let s := s.dev.accepted.foldl go s.applyHeld
  (s.red.repl.filter (fun e => isCellOp e.cmd.opcode)).foldl (fun s e => go s e.cellCmd) s

/-- Acceptance of a cell or arm command (R38, R39, R382): judged now, effective at the next span instant, in a pair or under a manager at its effect span. -/
def State.acceptCell (s : State) (c : CellCmd) (params : BitVec 448) : Served :=
  if s.refusesReplicated then reject s stWrongState
  else
    let st := s.predicted.cellVerdict c
    if st ≠ stOk then reject s st
    else if s.replicates then
      let cmd : ReplCommand := { opcode := c.opcode, params := params, list := [] }
      let e : ReplPending := { effect := s.effectSpan, cmd := cmd, queue := c.queue }
      .later { s with red := { s.red with repl := s.red.repl ++ [e], outbox := s.red.outbox ++ [.command e.effect cmd] } }
    else .later { s with dev := { s.dev with accepted := s.dev.accepted ++ [c] } }

/-- A packet of one of the commands without a parameter. -/
def State.cellPacket (s : State) (p : Packet) (op : W16) : State :=
  serve s p op (unusedZero p.params []) [] (fun s => s.acceptCell { queue := some p.queue, opcode := op } p.params)

/-- A packet of ARM_RESUME or RING_CLOSE; `n` bounds the parameter. -/
def State.argPacket (s : State) (p : Packet) (op : W16) (n : Nat) : State :=
  let a := param p.params 0 1
  serve s p op (unusedZero p.params [(0, 1)] && decide (a < n)) []
    (fun s => s.acceptCell { queue := some p.queue, opcode := op, arg := BitVec.ofNat 8 a } p.params)

/-- CELL_INTEGRATE (R37). -/
def execCellIntegrate (p : Packet) (s : State) : Host.Outcome State Fault Refusal := done (s.cellPacket p opIntegrate)

/-- CELL_ENGAGE (R37). -/
def execCellEngage (p : Packet) (s : State) : Host.Outcome State Fault Refusal := done (s.cellPacket p opEngage)

/-- CELL_RUN (R37, R319). -/
def execCellRun (p : Packet) (s : State) : Host.Outcome State Fault Refusal := done (s.cellPacket p opRun)

/-- CELL_STOP (R37). -/
def execCellStop (p : Packet) (s : State) : Host.Outcome State Fault Refusal := done (s.cellPacket p opStop)

/-- CELL_PARK (R37). -/
def execCellPark (p : Packet) (s : State) : Host.Outcome State Fault Refusal := done (s.cellPacket p opPark)

/-- CELL_RINGS_OFF (R37). -/
def execCellRingsOff (p : Packet) (s : State) : Host.Outcome State Fault Refusal := done (s.cellPacket p opRingsOff)

/-- CELL_CLEAR (R37, R38). -/
def execCellClear (p : Packet) (s : State) : Host.Outcome State Fault Refusal := done (s.cellPacket p opClear)

/-- ARM_RESUME (R40). -/
def execArmResume (p : Packet) (s : State) : Host.Outcome State Fault Refusal := done (s.argPacket p opResume 8)

/-- RING_CLOSE (R123). -/
def execRingClose (p : Packet) (s : State) : Host.Outcome State Fault Refusal := done (s.argPacket p opClose 14)

/-- A replicated command that is not of the cell group, with its answer (R382). ZA_RESULT is served by the unit that got it. -/
def State.replEffect (c : ReplCommand) (queue : Option (BitVec 4)) (s : State) : State × Answer :=
  let p := c.params
  let n := param p 0 1
  match c.opcode.toNat with
  | 0x0301 => s.pgTarget p
  | 0x0302 => s.groupGo (BitVec.ofNat 16 (param p 0 2)) (BitVec.ofNat 16 (param p 2 2))
  | 0x0303 => s.pgStop (param p 0 9)
  | 0x0304 => (s.handoverRequest n (param p 1 1 == 1) queue.toList, {})
  | 0x0305 => s.axStallClear n
  | 0x0401 => s.zaPostList n (BitVec.ofNat 12 (param p 2 2)) c.list false
  | 0x0402 => (s.zaToken n, {})
  | 0x0501 => s.timeStep n (BitVec.ofNat 64 (param p 8 8))
  | 0x0502 => s.timeRate n (BitVec.ofNat 32 (param p 4 4))
  | 0x0601 => s.dioWrite p
  | 0x0602 => s.dioClear
  | 0x0A04 => s.safRestart n
  | 0x0A05 => s.safOutput n (param p 1 1)
  | _ => (s, {})

/-- A replicated command takes effect at its span (R382). -/
def State.runRepl (s : State) (e : ReplPending) : State :=
  if isCellOp e.cmd.opcode then s.runCommand e.cellCmd else (s.replEffect e.cmd e.queue).1

/-- The replicated commands whose effect span has come, in order (R382). -/
def State.runDue (s : State) : State :=
  let due := s.red.repl.filter (fun e => decide ((e.effect - s.span32).toInt ≤ 0))
  let s := { s with red := { s.red with repl := s.red.repl.filter (fun e => decide (0 < (e.effect - s.span32).toInt)) } }
  due.foldl State.runRepl s

end Sys2Proof.Machine
end

