-- ==== Sys2Proof/Machine/Cores.lean ====
section
/-! DEFINITION. How a vector core runs an instruction: moves, the exposed pipeline, control flow, signals and faults (R296 to R320). Each instruction row is one step of core n; RPT takes one row for each repetition. -/
namespace Sys2Proof.Machine

def Core.vreg (c : Core) (i : BitVec 5) : W128 := Table.get 0 c.v i.toNat
def Core.setV (c : Core) (i : BitVec 5) (x : W128) : Core := { c with v := Table.put 0 c.v i.toNat x }
def Core.areg (c : Core) (i : Nat) : W32 := Table.get 0 c.a i
def Core.setA (c : Core) (i : Nat) (x : W32) : Core := { c with a := Table.put 0 c.a i x }
def Core.oreg (c : Core) (i : Nat) : W32 := Table.get 0 c.o i
def Core.setO (c : Core) (i : Nat) (x : W32) : Core := { c with o := Table.put 0 c.o i x }
def Core.acc (c : Core) (i : BitVec 2) : BitVec 320 := Table.get 0 c.ac i.toNat
def Core.setAcc (c : Core) (i : BitVec 2) (x : BitVec 320) : Core := { c with ac := Table.put 0 c.ac i.toNat x }

/-- What an instruction's own part gives: the state (memory and free values), the core, the V register it wrote and the loads it started; or a fault (R315), with the state that the refused access leaves. -/
inductive Ran where
  | ok (s : State) (c : Core) (v : Option (BitVec 5)) (loads : List Load)
  | trap (s : State) (cause : Nat) (addr : Nat)

/-- Causes of R316. -/
def trapPoison : Nat := 1
def trapFabric : Nat := 2
def trapFabricPoison : Nat := 3
def trapAlign : Nat := 4
def trapFetch : Nat := 5
def trapReserved : Nat := 6
def trapControl : Nat := 7
def trapCount : Nat := 8
def trapSlots : Nat := 9
def trapStac : Nat := 10

/-- Internal address of a word of XM or YM. -/
def localWord (n : Nat) (ym : Bool) (w : Nat) : Nat := vcBase + n * 0x100000 + (if ym then ymOff else xmOff) + 16 * (w % 8192)

/-- The new value of an address register after a parallel move (R301). -/
def nextAddress (a o : W32) (mode : BitVec 2) : W32 :=
  let step := (o.setWidth 16).signExtend 32
  let l := o.toNat / 65536
  match mode.toNat with
  | 0 => a
  | 1 => a + step
  | 2 =>
    if l = 0 then a + step
    else
      let p := 2 ^ (if l ≤ 1 then 0 else Nat.log2 (l - 1) + 1)
      let base := a.toNat / p * p
      BitVec.ofNat 32 (base + (((a.toNat - base : Nat) + step.toInt) % (l : Int)).toNat)
  | _ => a + 1

/-- The number of the address register of a move: A0–A7 for X, A8–A15 for Y (R303). -/
def moveReg (m : Move) (ym : Bool) : Nat := m.a.toNat + (if ym then 8 else 0)

/-- The moves of an instruction with their memories. -/
def movesOf (m : Moves) : List (Bool × Move) :=
  (match m.x with | some v => [(false, v)] | none => []) ++ (match m.y with | some v => [(true, v)] | none => [])

/-- The first load of an instruction's moves that reads poisoned data, by its address (R315). -/
def State.poisonedMove (s : State) (n : Nat) (c : Core) (m : Moves) : Option Nat :=
  ((movesOf m).filterMap (fun e =>
    let a := localWord n e.1 (c.areg (moveReg e.2 e.1)).toNat
    if !e.2.store && s.wordPoisoned a then some a else none)).head?

/-- The words of memory that an instruction of core n reads: its own and those of its loads. -/
def State.instrWords (s : State) (n : Nat) (m : Moves) : List Nat :=
  let c := s.core n
  16 * ((vcBase + n * 0x100000 + 8 * c.pc.toNat) / 16)
    :: ((movesOf m).filter (fun e => !e.2.store)).map (fun e => localWord n e.1 (c.areg (moveReg e.2 e.1)).toNat)

/-- An access of a move matches a watchpoint (R320). -/
def Core.watched (c : Core) (ym : Bool) (word : Nat) (write : Bool) : Bool :=
  (upto 2).any (fun k =>
    let w := Table.get 0 c.watches k
    w.getLsbD 31 && (if write then w.getLsbD 30 else w.getLsbD 29) && w.getLsbD 28 == ym && (w.setWidth 13).toNat == word % 8192)

/-- A V register takes the loads that land at the end of the step; where two of them, or a load and the instruction's result, meet in one register the value is free (log entry 17). -/
def land (s : State) (c : Core) (wrote : Option (BitVec 5)) (loads : List Load) : State × Core :=
  let r := loads.foldl (fun (r : State × Core × List Load) l =>
    let clash := wrote == some l.v || r.2.2.any (fun e => e.v == l.v && (e.mask &&& l.mask) != 0)
    if clash then
      let d := r.1.draw 128
      (d.2, r.2.1.setV l.v d.1, l :: r.2.2)
    else (r.1, r.2.1.setV l.v ((r.2.1.vreg l.v &&& ~~~ l.mask) ||| (l.value &&& l.mask)), l :: r.2.2)) (s, c, [])
  (r.1, r.2.1)

/-- The parallel moves of an instruction: stores take the register values that the step reads, loads start, and address registers are updated, the move's update standing over the instruction's (R301, R309). `old` is the core as the step read it. -/
def moves (n : Nat) (m : Moves) (old : Core) (s : State) (c : Core) : State × Core × List Load :=
  (movesOf m).foldl (fun r e =>
    let s := r.1
    let c := r.2.1
    let i := moveReg e.2 e.1
    let w := (old.areg i).toNat % 8192
    let a := localWord n e.1 w
    let c := { (c.setA i (nextAddress (old.areg i) (old.oreg e.2.o.toNat) e.2.mode)) with watchHit := c.watchHit || c.watched e.1 w e.2.store }
    if e.2.store then ((s.writeMem a (leBytes 16 (old.vreg e.2.v).toNat)).1, c, r.2.2)
    else (s, c, r.2.2 ++ [{ v := e.2.v, value := BitVec.ofNat 128 (ofLe (s.octets a 16)), mask := BitVec.allOnes 128 }])) (s, c, [])

/-- The next instruction in sequence under the loop levels, innermost first (R312). -/
def sequence (pc : BitVec 14) : List LoopLevel → BitVec 14 × List LoopLevel
  | [] => (pc + 1, [])
  | l :: t => if l.last = pc then (if 1 < l.left then (l.first, { l with left := l.left - 1 } :: t) else sequence pc t) else (pc + 1, l :: t)

def LoopLevel.holds (l : LoopLevel) (pc : BitVec 14) : Bool := decide (l.first.toNat ≤ pc.toNat) && decide (pc.toNat ≤ l.last.toNat)

/-- A taken branch ends the levels whose bodies do not hold its target, from the innermost on (R312). -/
def leave (target : BitVec 14) : List LoopLevel → List LoopLevel
  | [] => []
  | l :: t => if l.holds target then l :: t else leave target t

/-- Moves PC past the instruction (R310 to R312): a repetition stays, a last delay slot transfers, all else goes in sequence. -/
def Core.flow (c : Core) : Core :=
  match c.rpt with
  | some k =>
    if 1 < k then { c with rpt := some (k - 1) }
    else
      let q := sequence c.pc c.loops
      { c with rpt := none, rptTail := true, pc := q.1, loops := q.2 }
  | none =>
    let c := { c with rptTail := false }
    match c.transfer with
    | some t =>
      if 1 < t.slots then { c with pc := c.pc + 1, transfer := some { t with slots := t.slots - 1 } }
      else if t.taken then { c with transfer := none, pc := t.target, loops := if t.ends then leave t.target c.loops else c.loops }
      else
        let q := sequence c.pc c.loops
        { c with transfer := none, pc := q.1, loops := q.2 }
    | none =>
      let q := sequence c.pc c.loops
      { c with pc := q.1, loops := q.2 }

/-- An instruction boundary at which the core may take a signal (R313). -/
def Core.open_ (c : Core) : Bool := c.transfer.isNone && c.rpt.isNone && !c.rptTail

/-- A signal waits (R313). -/
def Core.signalled (c : Core) : Bool := c.haltReq || c.stepDone || c.breakHit || c.watchHit

/-- Notes the step at which the oldest waiting signal came, from which its wait is counted (R313). -/
def Core.noted (c : Core) : Core := { c with sigAt := if c.signalled then some (c.sigAt.getD c.steps) else none }

/-- How many steps the oldest waiting signal has waited, as VC_n_HOLD counts them (R313). -/
def Core.waited (c : Core) : BitVec 11 := BitVec.ofNat 11 (min 2047 (c.steps - c.sigAt.getD c.steps).toNat)

/-- After an instruction: a single step that is complete, and a breakpoint at the next instruction, become signals (R318, R320). -/
def Core.arrive (c : Core) : Core :=
  let whole := c.transfer.isNone && c.rpt.isNone
  ({ c with stepDone := c.stepDone || (c.stepping && whole), breakHit := c.breakHit || (c.item.isSome && c.atBreak) } : Core).noted

/-- Whether core n runs its next instruction now: an item is in progress, the core is neither halted nor stalled by the dispatcher (R325), and no signal is due at this boundary (R313). -/
def State.coreRuns (s : State) (n : Nat) : Bool :=
  let c := s.core n
  decide (n < 12) && c.item.isSome && !c.halted && !(c.signalled && c.open_)
    && !s.ts.held.any (fun t => match t.core with | some k => k.toNat == n | none => false)

/-- The descriptor of the item in progress. -/
def State.itemDesc (s : State) (n : Nat) : Desc := match (s.core n).item with | some d => s.desc d | none => {}

/-- The class of a core fault: as the catalogue sets it, else ARM_STOP for an item with an arm and WARN for one without (R432). -/
def State.faultClass (s : State) (arm : Byte) : BitVec 3 :=
  match lookupClass s.cfg.eventClasses 0x1301 with
  | some k => k
  | none => if arm.toNat < 8 then 2 else 1

/-- A fault abandons the item, with no completion token (R316). The data name the core, the arm and the cause (log entry 17). -/
def State.coreFault (s : State) (n cause addr : Nat) : State :=
  let k := s.itemDesc n
  let r := land s (s.core n) none (s.core n).loads
  let s := r.1
  let c := r.2
  let c := { c with
    faultCause := BitVec.ofNat 4 cause, faultPc := c.pc, faults := inc c.faults
    faultAddr := if cause ≤ 4 then BitVec.ofNat 40 addr else c.faultAddr
    item := none, due := none, transfer := none, rpt := none, rptTail := false, loads := []
    stepDone := c.stepDone || c.stepping }
  let s := (s.setCore n c.noted).missArm k.arm
  s.raise { code := 0x1301, source := srcVc, data := BitVec.ofNat 32 (n + 256 * k.arm.toNat + 65536 * cause)
            arm := if k.arm.toNat < 8 then some k.arm.toNat else none, cls := some (s.faultClass k.arm) }

/-- Kinds of instruction for the checks of R310 and R311. -/
inductive OpKind where
  | plain
  | control
  | fabric
  deriving DecidableEq, Repr

/-- Runs an instruction of core n whose own part is `body` and whose moves are `m`. `steps` is how many steps it takes (R297). -/
def State.runInstr (s : State) (n : Nat) (kind : OpKind) (reserved : Bool) (m : Moves) (steps : Nat) (body : State → Core → Ran) : State :=
  if !s.coreRuns n then s
  else
    let c := s.core n
    if s.wordPoisoned (vcBase + n * 0x100000 + 8 * c.pc.toNat) then (s.readMem (vcBase + n * 0x100000 + 8 * c.pc.toNat) 8).1.coreFault n trapFetch 0
    else if reserved || m.reserved then s.coreFault n trapReserved 0
    else if (kind = .control && !(c.transfer.isNone && c.rpt.isNone)) || (kind = .fabric && c.rpt.isSome) then s.coreFault n trapControl 0
    else match s.poisonedMove n c m with
      | some a => (s.readMem a 16).1.coreFault n trapPoison a
      | none =>
        let s := s.demand (s.instrWords n m)
        match body s c with
        | .trap s' cause a => s'.coreFault n cause a
        | .ok s' c' wrote loads =>
          let landed := land s' c' wrote c.loads
          let moved := moves n m c landed.1 landed.2
          let d := moved.2.1
          let d := { d with loads := moved.2.2 ++ loads, steps := d.steps + BitVec.ofNat 64 steps, itemSteps := d.itemSteps + steps }
          let d := if kind = .control then d else d.flow
          moved.1.setCore n d.arrive

/-- An arithmetic instruction of format P whose result is a V register. -/
def State.runVector (s : State) (n : Nat) (f : FormatP) (bad : Bool) (result : State → Core → State × Core × W128) : State :=
  s.runInstr n .plain bad f.mv 1 (fun s c => let r := result s c; .ok r.1 (r.2.1.setV f.vd r.2.2) (some f.vd) [])

/-- An instruction whose result the spec does not state writes a free value to its V register (log entry 17). -/
def State.runFree (s : State) (n : Nat) (f : FormatP) : State :=
  s.runVector n f (f.w == 3) (fun s c => let d := s.draw 128; (d.2, c, d.1))

end Sys2Proof.Machine
end

