-- ==== Sys2Proof/Machine/Control.lean ====
section
/-! DEFINITION. Control instructions, long moves, scalar instructions, token sends, END, and the debug access to the vector cores (R302 to R322, R333, R334). -/
namespace Sys2Proof.Machine

/-- The condition of a branch, call or return (R304). -/
def condHolds (cond : BitVec 4) (a : W32) : Option Bool :=
  match cond.toNat with
  | 0 => some true
  | 1 => some (a == 0)
  | 2 => some (a != 0)
  | 3 => some (decide (a.toInt < 0))
  | 4 => some (decide (0 ≤ a.toInt))
  | _ => none

/-- Whether two delay slots would reach past the last instruction of the innermost body (R312). -/
def Core.slotsPast (c : Core) : Bool :=
  match c.loops with
  | [] => false
  | l :: _ => l.holds c.pc && decide (l.last.toNat < c.pc.toNat + 2)

/-- A control transfer takes effect after two delay slots (R310). -/
def Core.transfers (c : Core) (taken ends : Bool) (target : BitVec 14) : Core :=
  { c with pc := c.pc + 1, rptTail := false, transfer := some { ends := ends, slots := 2, taken := taken, target := target } }

/-- Runs a branch, call or return. -/
def State.runTransfer (s : State) (n : Nat) (cond : BitVec 4) (a : BitVec 4) (mv : Moves) (go : State → Core → Bool → State × Core) : State :=
  s.runInstr n .control (condHolds cond 0).isNone mv 1 (fun s c =>
    if c.slotsPast then .trap s trapSlots 0
    else let r := go s c ((condHolds cond (c.areg a.toNat)).getD false); .ok r.1 r.2 none [])

/-- BRANCH (R310, R312). -/
def execBranch (n : BitVec 4) (cond : BitVec 4) (a : BitVec 4) (target : BitVec 14) (mv : Moves) (s : State) : Host.Outcome State Fault Refusal :=
  done (s.runTransfer n.toNat cond a mv (fun s c taken => (s, c.transfers taken true target)))

/-- CALL (R310): the return address is that of the instruction after the delay slots (log entry 17). -/
def execCall (n : BitVec 4) (cond : BitVec 4) (a : BitVec 4) (target : BitVec 14) (mv : Moves) (s : State) : Host.Outcome State Fault Refusal :=
  done (s.runTransfer n.toNat cond a mv (fun s c taken =>
    let d := c.transfers taken false target
    (s, if taken then { d with returns := (c.pc + 3) :: c.returns } else d)))

/-- RETURN (R310): to the last call's return address; a free value where there is none (log entry 17). -/
def execReturnOp (n : BitVec 4) (cond : BitVec 4) (a : BitVec 4) (mv : Moves) (s : State) : Host.Outcome State Fault Refusal :=
  done (s.runTransfer n.toNat cond a mv (fun s c taken =>
    match c.returns with
    | [] => if taken then let d := s.draw 14; (d.2, c.transfers true false d.1) else (s, c.transfers false false 0)
    | t :: rest => (s, { (c.transfers taken false t) with returns := if taken then rest else c.returns })))

/-- RPT (R311): the next instruction runs n times. -/
def execRpt (n : BitVec 4) (count : RptCount) (mv : Moves) (s : State) : Host.Outcome State Fault Refusal :=
  done (s.runInstr n.toNat .control false mv 1 (fun s c =>
    let k := match count with
      | .imm m => m.toNat + 1
      | .reg a => (c.areg a.toNat).toNat
    if k = 0 || 1024 < k then .trap s trapCount 0
    else
      let q := sequence c.pc c.loops
      .ok s { c with rpt := some k, rptTail := false, pc := q.1, loops := q.2 } none []))

/-- LOOP (R312): the body from the next instruction through the target runs An times. -/
def execLoop (n : BitVec 4) (a : BitVec 4) (target : BitVec 14) (mv : Moves) (s : State) : Host.Outcome State Fault Refusal :=
  done (s.runInstr n.toNat .control false mv 1 (fun s c =>
    let k := (c.areg a.toNat).toNat
    if k = 0 || 65536 < k || 2 ≤ c.loops.length then .trap s trapCount 0
    else .ok s { c with rptTail := false, pc := c.pc + 1, loops := { first := c.pc + 1, last := target, left := k } :: c.loops } none []))

/-- NOP (R302): no effect besides its moves. -/
def execNop (n : BitVec 4) (mv : Moves) (s : State) : Host.Outcome State Fault Refusal :=
  done (s.runInstr n.toNat .plain false mv 1 (fun s c => .ok s c none []))

/-- The completion of an item (R31, R32, R334): its stamp enters the VC slack; a stamp past the deadline is an overrun, once, whether the deadline's signal or the completion comes first; then the completion token with the core's V0. -/
def State.complete (s : State) (n d : Nat) (k : Desc) (v0 : W128) : State :=
  let what := CompareKind.itemDeadline (BitVec.ofNat 10 d)
  let s := match (s.core n).due with
    | none => s
    | some t =>
      let late := decide (s.slackTo t.toNat < 0)
      let s : State := { s with dev := { s.dev with vc := s.dev.vc.complete s.span.toNat (s.slackTo t.toNat) } }
      if k.vcDeadline then
        (if !late then { s with ts := { s.ts with vcDone := s.ts.vcDone ++ [d] } }
         else if s.ts.vcMissed.contains d || t.toNat < s.spanStart then s else s.vcMiss d)
      else if (s.instantOf what).isSome then (let u := s.disarm what; if late then u.vcOverrun d else u)
      else s
  if k.doneToken.getLsbD 15 then s
  else s.sendToken { entry := k.doneToken.setWidth 12, operand := v0, core := some (BitVec.ofNat 4 n) }

/-- END (R332, R334). -/
def execEndItem (n : BitVec 4) (mv : Moves) (s : State) : Host.Outcome State Fault Refusal :=
  let i := n.toNat
  done (s.runInstr i .control false mv 1 (fun s c =>
    let t := match c.item with
      | none => s
      | some d => s.complete i d (s.desc d) (c.vreg 0)
    .ok t { c with item := none, due := none, items := inc c.items, pc := c.pc + 1, rptTail := false, loops := [], returns := [] } none []))

/-- Octets of a size field: 16, 32, 64 or 128 bits (R304). -/
def sizeOctets (sz : BitVec 2) : Nat := 2 ^ (sz.toNat + 1)

/-- Where a long move's element lies in its word and its V register, in octets (log entry 17). -/
def elementAt (f : FormatL) : Nat := f.elem.toNat * sizeOctets f.size % 16

/-- The word of XM or YM that a long move names (R296, R304). -/
def longWord (f : FormatL) (c : Core) : Nat := (c.areg f.a.toNat + f.offset.signExtend 32).toNat % 8192

def noMoves : Moves := { x := none, y := none, reserved := false }

def elementMask (off len : Nat) : W128 := BitVec.ofNat 128 ((2 ^ (8 * len) - 1) * 2 ^ (8 * off))

/-- LONG_LOAD (R304, R309): the element lands at the end of the next step. -/
def execLongLoad (n : BitVec 4) (f : FormatL) (s : State) : Host.Outcome State Fault Refusal :=
  done (s.runInstr n.toNat .plain f.reserved noMoves 1 (fun s c =>
    let w := longWord f c
    let a := localWord n.toNat f.ym w
    if s.wordPoisoned a then .trap (s.readMem a 16).1 trapPoison a
    else .ok (s.demand [a]) { c with watchHit := c.watchHit || c.watched f.ym w false } none
      [{ v := f.v, value := BitVec.ofNat 128 (ofLe (s.octets a 16)), mask := elementMask (elementAt f) (sizeOctets f.size) }]))

/-- LONG_STORE (R297, R304): a narrow store takes two steps and faults on a poisoned word (R405). -/
def execLongStore (n : BitVec 4) (f : FormatL) (s : State) : Host.Outcome State Fault Refusal :=
  let len := sizeOctets f.size
  done (s.runInstr n.toNat .plain f.reserved noMoves (if len = 16 then 1 else 2) (fun s c =>
    let w := longWord f c
    let a := localWord n.toNat f.ym w
    let o := sliceO (leBytes 16 (c.vreg f.v).toNat) (elementAt f) len
    if len < 16 && s.wordPoisoned a then .trap (s.writeMem (a + elementAt f) o).1 trapPoison a
    else .ok (s.writeMem (a + (elementAt f)) o).1 { c with watchHit := c.watchHit || c.watched f.ym w true } none []))

/-- SCALAR_OP: the spec states no operation for an opcode, so the destination takes a free value (R304, log entry 17). -/
def execScalarOp (n : BitVec 4) (_op : BitVec 6) (f : FormatS) (s : State) : Host.Outcome State Fault Refusal :=
  done (s.runInstr n.toNat .plain f.reserved noMoves 1 (fun s c =>
    let d := s.draw 32
    .ok d.2 (if f.destO then c.setO (f.dest.toNat % 8) d.1 else c.setA f.dest.toNat d.1) none []))

/-- LANE_MOVE (R304). A move of a 32-bit lane is exact, as is that of the low 16 bits of an A register into a 16-bit lane; what the spec leaves open is free (log entry 17). -/
def execLaneMove (n : BitVec 4) (toV : Bool) (w : BitVec 2) (f : FormatS) (s : State) : Host.Outcome State Fault Refusal :=
  done (s.runInstr n.toNat .plain f.reserved noMoves 1 (fun s c =>
    let b := if w = 0 then 16 else 32
    let i := f.lane.toNat
    let inside := decide (w.toNat < 2) && decide (i * b < 128)
    if toV then
      if inside then
        let m := elementMask (i * b / 8) (b / 8)
        let x := (c.areg f.src.toNat).setWidth 128 <<< (i * b)
        .ok s (c.setV f.v ((c.vreg f.v &&& ~~~ m) ||| (x &&& m))) (some f.v) []
      else let d := s.draw 128; .ok d.2 (c.setV f.v d.1) (some f.v) []
    else if inside && w = 1 then .ok s (c.setA f.dest.toNat ((c.vreg f.v).extractLsb' (i * 32) 32)) none []
    else let d := s.draw 32; .ok d.2 (c.setA f.dest.toNat d.1) none []))

/-- TOKEN_SEND (R304, R325). -/
def execTokenSend (n : BitVec 4) (f : FormatF) (s : State) : Host.Outcome State Fault Refusal :=
  done (s.runInstr n.toNat .fabric f.reserved noMoves 1 (fun s c =>
    .ok (s.sendToken { entry := f.entry, operand := c.vreg f.v, core := some n }) c none []))

/-- Whether the signal that VC_n_STAT.halt_cause codes so waits: 1 halt request, 2 breakpoint, 3 watchpoint, 4 step (R322). -/
def Core.waitsFor (c : Core) (cause : BitVec 3) : Bool :=
  if cause = 1 then c.haltReq else if cause = 2 then c.breakHit else if cause = 3 then c.watchHit else if cause = 4 then c.stepDone else false

/-- A waiting signal, named by its cause, is taken at an open boundary: the core halts, and its prefetched item is recalled (R313, R318, R331). -/
def execCoreSignalTaken (n : BitVec 4) (cause : BitVec 3) (s : State) : Host.Outcome State Fault Refusal :=
  let i := n.toNat
  let c := s.core i
  if 12 ≤ i || !c.waitsFor cause || !c.open_ || c.halted then done s
  else
    let s := s.setCore i { c with
      halted := true, haltCause := cause, haltReq := false, stepDone := false, breakHit := false, watchHit := false, stepping := false
      sigAt := none, holdMax := if c.holdMax.toNat < c.waited.toNat then c.waited else c.holdMax }
    done (s.unfill i)

/-- BUDGET_OVERRUN (R333): once for an item. The data name the descriptor and the core (log entry 17). -/
def execBudgetOverrun (n : BitVec 4) (s : State) : Host.Outcome State Fault Refusal :=
  let i := n.toNat
  let c := s.core i
  match c.item with
  | none => done s
  | some d =>
    if c.overBudget || decide (c.itemSteps ≤ (s.desc d).budget.toNat) then done s
    else
      let s := s.setCore i { c with overBudget := true }
      let s := { s with ts := { s.ts with budgetOverruns := inc s.ts.budgetOverruns } }
      done (s.raise { code := 0x0F02, source := srcTs, data := BitVec.ofNat 32 (d + 65536 * i) })

/-- CORE_HUNG (R314). The data name the core (log entry 17). -/
def execCoreHung (n : BitVec 4) (s : State) : Host.Outcome State Fault Refusal :=
  let i := n.toNat
  let c := s.core i
  match c.item with
  | none => done s
  | some d =>
    if c.hung || decide (c.itemSteps < (s.desc d).budget.toNat + 65536) then done s
    else done ((s.setCore i { c with hung := true }).raise { code := 0x1302, source := srcVc, data := BitVec.ofNat 32 i })

/-- Whether a requester may write the debug fields (R322). -/
def State.debugMay (s : State) (who : Requester) : Bool := who == .debug || (who == .host && s.hq.service)

/-- A debug write without effect (R320, R322); a host's is counted as R341 states as well. -/
def State.debugRefused (s : State) (who : Requester) : State :=
  let s := { s with vc := { s.vc with writesRefused := inc s.vc.writesRefused } }
  if who = .host && !s.hq.service then s.hostRefused else s

/-- VC_n_CTL.halt_req (R317). -/
def execVcHaltReq (by_ : Requester) (n : BitVec 4) (s : State) : Host.Outcome State Fault Refusal :=
  let i := n.toNat
  if 12 ≤ i then done s
  else if !s.debugMay by_ then done (s.debugRefused by_)
  else if s.dev.cell == .parked || s.dev.cell == .hold || s.cfg.liveDebug then
    done (if (s.core i).halted then s else s.setCore i ({ s.core i with haltReq := true } : Core).noted)
  else done { s with vc := { s.vc with haltRefused := inc s.vc.haltRefused } }

/-- VC_n_CTL.run (R318). -/
def execVcRun (by_ : Requester) (n : BitVec 4) (s : State) : Host.Outcome State Fault Refusal :=
  let i := n.toNat
  if 12 ≤ i then done s
  else if !s.debugMay by_ then done (s.debugRefused by_)
  else done (if (s.core i).halted then s.setCore i { s.core i with halted := false, haltCause := 0 } else s)

/-- VC_n_CTL.step (R318): one instruction of the item, then a halt. -/
def execVcStep (by_ : Requester) (n : BitVec 4) (s : State) : Host.Outcome State Fault Refusal :=
  let i := n.toNat
  if 12 ≤ i then done s
  else if !s.debugMay by_ then done (s.debugRefused by_)
  else
    let c := s.core i
    done (if c.halted && c.item.isSome then s.setCore i { c with halted := false, haltCause := 0, stepping := true } else s)

/-- The value that VC_n_DBG_SEL.sel names (R322). -/
def Core.selected (c : Core) (sel : Nat) : W128 :=
  if sel < 0x20 then Table.get 0 c.v sel
  else if sel < 0x30 then (c.areg (sel - 0x20)).setWidth 128
  else if sel < 0x38 then (c.oreg (sel - 0x30)).setWidth 128
  else if 0x40 ≤ sel ∧ sel < 0x4C then (Table.get 0 c.ac ((sel - 0x40) / 3)).extractLsb' (128 * ((sel - 0x40) % 3)) 128
  else 0

/-- Bits of an accumulator replaced by a selected part. -/
def accPart (x : BitVec 320) (part : Nat) (v : W128) : BitVec 320 :=
  let m := (BitVec.allOnes 128).setWidth 320 <<< (128 * part)
  (x &&& ~~~ m) ||| ((v.setWidth 320 <<< (128 * part)) &&& m)

def Core.setSelected (c : Core) (sel : Nat) (x : W128) : Core :=
  if sel < 0x20 then { c with v := Table.put 0 c.v sel x }
  else if sel < 0x30 then c.setA (sel - 0x20) (x.setWidth 32)
  else if sel < 0x38 then c.setO (sel - 0x30) (x.setWidth 32)
  else if 0x40 ≤ sel ∧ sel < 0x4C then
    let i := (sel - 0x40) / 3
    { c with ac := Table.put 0 c.ac i (accPart (Table.get 0 c.ac i) ((sel - 0x40) % 3) x) }
  else c

/-- VC_n_DBG_DATA0–3 as one value. -/
def Core.debugData (c : Core) : W128 :=
  BitVec.ofNat 128 ((upto 4).foldl (fun a k => a + (Table.get 0 c.dbgData k).toNat * 2 ^ (32 * k)) 0)

/-- VC_n_DBG_SEL.go (R320). -/
def execVcDbgSelGo (by_ : Requester) (n : BitVec 4) (value : W32) (s : State) : Host.Outcome State Fault Refusal :=
  let i := n.toNat
  let c := s.core i
  if 12 ≤ i then done s
  else if !s.debugMay by_ || !c.halted then done (s.debugRefused by_)
  else
    let sel := value.toNat % 512
    let c := { c with dbgSel := value &&& 0x400001FF }
    if value.getLsbD 30 then done (s.setCore i (c.setSelected sel c.debugData))
    else
      let x := c.selected sel
      done (s.setCore i { c with dbgData := (upto 4).foldl (fun t k => Table.put 0 t k (x.extractLsb' (32 * k) 32)) c.dbgData })

/-- IM_WRITE (R296): the registrar alone writes instruction memory. -/
def execImWrite (by_ : Requester) (n : BitVec 4) (word : BitVec 14) (value : W64) (s : State) : Host.Outcome State Fault Refusal :=
  if 12 ≤ n.toNat then done s
  else if by_ ≠ .registrar then done { s with vc := { s.vc with writesRefused := inc s.vc.writesRefused } }
  else done (s.writeMem (vcBase + n.toNat * 0x100000 + 8 * word.toNat) (leBytes 8 value.toNat)).1

/-- A read of VC_n_STEPS_LO latches STEPS_HI (R322). -/
def State.readStepsLo (s : State) (by_ : Requester) (n : Nat) : State :=
  s.latch by_ (latchSteps n) ((s.core n).steps.extractLsb' 32 32)

def execVcStepsLoRead (by_ : Requester) (n : BitVec 4) (s : State) : Host.Outcome State Fault Refusal :=
  if n.toNat < 12 then done ((s.readStepsLo by_ n.toNat).returned ((s.core n.toNat).steps.setWidth 32)) else done s

end Sys2Proof.Machine
end

