-- ==== Sys2Proof/Machine/Counters.lean ====
section
/-! DEFINITION. Counters and sticky flags by block (R433, R434): what CNT_CLEAR clears, and what a snapshot restores (R446). -/
namespace Sys2Proof.Machine

/-- Two tables entry by entry. -/
def Table.merge {α : Type} [DecidableEq α] (d : α) (f : α → α → α) (src dst : Table α) : Table α :=
  (dst ++ src).foldl (fun t e => Table.put d t e.1 (f (Table.get d src e.1) (Table.get d dst e.1))) []

/-- The blocks as they stand, as a snapshot holds them. -/
def State.snapshot (s : State) : Snapshot :=
  { dev := s.dev, tb := s.tb, pwr := s.pwr, hq := s.hq, lr := s.lr, le := s.le, za := s.za, pg := s.pg, ax := s.ax, dio := s.dio
    saf := s.saf, memc := s.memc, crc := s.crc, ts := s.ts, cat := s.cat, red := s.red, evt := s.evt, vc := s.vc }

def EngineClass.counters (o e : EngineClass) : EngineClass := { e with overruns := o.overruns, paceLow := o.paceLow, slackMin := o.slackMin }
def TimeBase.counters (o e : TimeBase) : TimeBase := { e with steps := o.steps, hostSteps := o.hostSteps, clamped := o.clamped }
def PlantPort.counters (o e : PlantPort) : PlantPort :=
  { e with rxOk := o.rxOk, txOk := o.txOk, fcs := o.fcs, length := o.length, filter := o.filter, pause := o.pause, nobuf := o.nobuf
           txDrop := o.txDrop, pslUnknown := o.pslUnknown, pslBad := o.pslBad }
def Rail.counters (o e : Rail) : Rail := { e with warnings := o.warnings, dwells := o.dwells, resets := o.resets, minMv := o.minMv }
def Queue.counters (o e : Queue) : Queue := { e with replies := o.replies, badSeq := o.badSeq, badDoorbell := o.badDoorbell }
def Port.counters (o e : Port) : Port :=
  { e with idleErr := o.idleErr, deckErr := o.deckErr, deckOk := o.deckOk, damaged := o.damaged, poisoned := o.poisoned
           malformed := o.malformed, unknown := o.unknown, linkDowns := o.linkDowns, syncLosses := o.syncLosses }
def Ring.counters (o e : Ring) : Ring :=
  { e with lostGather := o.lostGather, lostDeliver := o.lostDeliver, ringLoss := o.ringLoss, retries := o.retries
           failures := o.failures, noAnswer := o.noAnswer, missed := o.missed }
def LeFlags.counters (o e : LeFlags) : LeFlags := { o with driveOff := e.driveOff, torqueLimited := e.torqueLimited }
def LeChan.counters (o e : LeChan) : LeChan := { e with limited := o.limited, extrap := o.extrap, flags := o.flags.counters e.flags }
def LeSet.counters (o e : LeSet) : LeSet := { e with underruns := o.underruns, lostKnots := o.lostKnots, badScale := o.badScale }
def Lane.counters (o e : Lane) : Lane := { e with solves := o.solves, deadlineHits := o.deadlineHits }
def ZaSlot.counters (o e : ZaSlot) : ZaSlot :=
  { e with truncated := o.truncated, stale := o.stale, rejected := o.rejected, suspect := o.suspect, postOverrun := o.postOverrun
           startSkipped := o.startSkipped, pivotRepairs := o.pivotRepairs, rangeExceeded := o.rangeExceeded }
def PgChan.counters (o e : PgChan) : PgChan :=
  { e with superseded := o.superseded, refused := o.refused, limitStops := o.limitStops, replans := o.replans }
def PgSet.counters (o e : PgSet) : PgSet := { e with gaps := o.gaps }
def AxModule.counters (o e : AxModule) : AxModule :=
  { e with
    pw := { e.pw with faultCuts := o.pw.faultCuts, ocCuts := o.pw.ocCuts, forceConflict := o.pw.forceConflict, overflow := o.pw.overflow }
    fb := { e.fb with idxErr := o.fb.idxErr, glitch := o.fb.glitch, illegal := o.fb.illegal, idxMismatch := o.fb.idxMismatch
                      laStalls := o.fb.laStalls, devStalls := o.fb.devStalls } }
def WArm.counters (o e : WArm) : WArm := { e with protStops := o.protStops, parViolations := o.parViolations }
def Region.counters (o e : Region) : Region := { e with laps := o.laps, scrubCe := o.scrubCe, scrubUe := o.scrubUe }
def CrcCtx.counters (o e : CrcCtx) : CrcCtx :=
  { e with finishes := o.finishes, mismatches := o.mismatches, mismatch := o.mismatch, poisoned := o.poisoned }
def Core.counters (o e : Core) : Core :=
  { e with faults := o.faults, items := o.items, holdMax := o.holdMax, accSat := o.accSat, sat := o.sat }

/-- The counters and sticky flags of block row `b` of R44 taken from a snapshot (R434). -/
def State.withCounters (s : State) (o : Snapshot) (b : Nat) : State :=
  match b with
  | 0 => { s with dev := { s.dev with vc := o.dev.vc.counters s.dev.vc, za := o.dev.za.counters s.dev.za, le := o.dev.le.counters s.dev.le } }
  | 1 => { s with tb := { s.tb with
      tb0 := o.tb.tb0.counters s.tb.tb0, tb1 := o.tb.tb1.counters s.tb.tb1, tb2 := o.tb.tb2.counters s.tb.tb2, tb3 := o.tb.tb3.counters s.tb.tb3
      ports := Table.merge {} PlantPort.counters o.tb.ports s.tb.ports } }
  | 2 => { s with pwr := { s.pwr with rails := Table.merge {} Rail.counters o.pwr.rails s.pwr.rails } }
  | 3 => { s with hq := { s.hq with
      regRefused := o.hq.regRefused, hostWrites := o.hq.hostWrites, hostReads := o.hq.hostReads, badFlag := o.hq.badFlag
      fabricRefused := o.hq.fabricRefused, lastValid := o.hq.lastValid, lastWrite := o.hq.lastWrite, lastLot := o.hq.lastLot
      queues := Table.merge {} Queue.counters o.hq.queues s.hq.queues } }
  | 5 => { s with lr := { s.lr with
      ports := Table.merge {} Port.counters o.lr.ports s.lr.ports, rings := Table.merge {} Ring.counters o.lr.rings s.lr.rings } }
  | 6 => { s with le := { s.le with
      refused := o.le.refused, lateChannels := o.le.lateChannels, lateRuns := o.le.lateRuns
      chans := Table.merge {} LeChan.counters o.le.chans s.le.chans, sets := Table.merge {} LeSet.counters o.le.sets s.le.sets } }
  | 7 => { s with za := { s.za with
      lanes := Table.merge {} Lane.counters o.za.lanes s.za.lanes, slots := Table.merge {} ZaSlot.counters o.za.slots s.za.slots } }
  | 8 => { s with pg := { s.pg with
      emptyStarts := o.pg.emptyStarts, chans := Table.merge {} PgChan.counters o.pg.chans s.pg.chans
      sets := Table.merge {} PgSet.counters o.pg.sets s.pg.sets } }
  | 9 => { s with ax := { s.ax with loadOverrun := o.ax.loadOverrun, mods := Table.merge {} AxModule.counters o.ax.mods s.ax.mods } }
  | 10 => { s with dio := { s.dio with
      refused := o.dio.refused, frameErr := o.dio.frameErr, faults := o.dio.faults, wdExpiries := o.dio.wdExpiries, wdExpired := o.dio.wdExpired } }
  | 11 => { s with saf := { s.saf with
      overruns := o.saf.overruns, rejects := o.saf.rejects, violations := o.saf.violations, silent := o.saf.silent
      zoneChanges := o.saf.zoneChanges, discA := o.saf.discA, discB := o.saf.discB, tpA := o.saf.tpA, tpB := o.saf.tpB
      lockstepErr := o.saf.lockstepErr, arms := Table.merge {} WArm.counters o.saf.arms s.saf.arms } }
  | 12 => { s with memc := { s.memc with
      corrected := o.memc.corrected, uncorrectable := o.memc.uncorrectable, poisoned := o.memc.poisoned, aborted := o.memc.aborted
      rmwCorrected := o.memc.rmwCorrected, regions := Table.merge {} Region.counters o.memc.regions s.memc.regions } }
  | 13 => { s with crc := { s.crc with
      refused := o.crc.refused, busyRefused := o.crc.busyRefused, ctxs := Table.merge {} CrcCtx.counters o.crc.ctxs s.crc.ctxs } }
  | 14 => { s with ts := { s.ts with
      tokens := o.ts.tokens, collisions := o.ts.collisions, unrouted := o.ts.unrouted, recalls := o.ts.recalls
      budgetOverruns := o.ts.budgetOverruns, stale := o.ts.stale, skipped := o.ts.skipped } }
  | 15 => { s with cat := { s.cat with commits := o.cat.commits, rejected := o.cat.rejected, storeErrors := o.cat.storeErrors } }
  | 16 => { s with red := { s.red with
      mismatched := o.red.mismatched, takeovers := o.red.takeovers, transfers := o.red.transfers, withdrawals := o.red.withdrawals
      recordErrors := o.red.recordErrors, divergences := o.red.divergences, trunkLosses := o.red.trunkLosses
      stopsRelayed := o.red.stopsRelayed } }
  | 17 => { s with evt := { s.evt with lost := o.evt.lost, reactions := o.evt.reactions } }
  | 18 => { s with vc := { s.vc with
      haltRefused := o.vc.haltRefused, writesRefused := o.vc.writesRefused, cores := Table.merge {} Core.counters o.vc.cores s.vc.cores } }
  | _ => s

/-- The reset counts of the always-on island (R446, R450). -/
def PwrState.counts (o p : PwrState) : PwrState :=
  { p with brownOuts := o.brownOuts, rstNs := o.rstNs, watchdogs := o.watchdogs, warms := o.warms, dormants := o.dormants, parapets := o.parapets }

/-- Clears one block (R434): the Parapet's counters at its next evaluation, the field die's at the next exchange frame. -/
def State.clearBlock (s : State) (b : Nat) : State :=
  if b = 10 then { s with dio := { s.dio with refused := 0, cntClearReq := true } }
  else if b = 11 then
    let t := s.withCounters {} 11
    { t with saf := { t.saf with violations := s.saf.violations, silent := s.saf.silent, zoneChanges := s.saf.zoneChanges
                                 discB := s.saf.discB, tpB := s.saf.tpB }
             par := { t.par with clearDue := true } }
  else if b = 2 then
    let t := s.withCounters {} 2
    { t with pwr := ({} : PwrState).counts t.pwr }
  else s.withCounters {} b

/-- CNT_CLEAR (R434). It is not replicated. -/
def execCntClear (p : Packet) (s : State) : Host.Outcome State Fault Refusal :=
  let m := param p.params 0 4
  done (serve s p 0x0701 (unusedZero p.params [(0, 4)] && decide (m < 2 ^ 19)) [] fun s =>
    .answer (s.each ((upto 19).filter (fun b => m.testBit b)) State.clearBlock) {})

end Sys2Proof.Machine
end

