-- ==== Sys2Proof/Machine/Parapet.lean ====
section
/-! DEFINITION. The Parapet: its time, connections, evaluation, heartbeat watch, status path, reset and start, and the acceptance of a safety section (R205, R206, R221 to R228, R233, R251 to R254, R259 to R261, R443). -/
namespace Sys2Proof.Machine

/-- The Parapet's ring connections take a state (R252, R254). -/
def State.parRing (s : State) (hit : ConnCfg → Bool) (f : SafConn → SafConn) : State :=
  s.each ((s.parConns.filter (fun e => !e.2.plant && hit e.2)).map (fun e => e.1)) (fun s n => s.setPconn n (f (s.pconn n)))

/-- A container reaches the Parapet over the serial path (R205, R251, R252). Without a copy of TB0 no age test can pass. -/
def execParapetContainerReceived (conn : BitVec 8) (octets : Octets) (s : State) : Host.Outcome State Fault Refusal :=
  let n := conn.toNat
  let c := s.parConn n
  match s.parNow with
  | none => done s
  | some now =>
    if s.par.up && c.used && c.parapet && !c.plantTime then
      done ((s.setPconn n ((s.pconn n).take .b c octets now (-2000)).1).settle s)
    else done s

/-- The Parapet's part of a container (R206, R250): demand_b, or b_bits, which the spec leaves open; then check B. -/
def State.parapetPart (s : State) (c : ConnCfg) (o : Octets) : Octets × State :=
  if c.kind = .demand then (spliceO o 8 [s.demandB c.arm.toNat], s)
  else let d := s.draw 32; (put32 o 11 d.1, d.2)

/-- The Parapet returns its part of a container and check B; Warden forms check A over its own octets with the returned part (R206, R250). -/
def execDemandOctetsReceived (conn : BitVec 8) (octets : Octets) (s : State) : Host.Outcome State Fault Refusal :=
  let n := conn.toNat
  let u : OutConn := Table.get {} s.saf.outConns n
  match u.draft with
  | none => done s
  | some d =>
    if !s.par.up || s.saf.halted then done s
    else
      let c := s.connCfg n
      let r := s.parapetPart (s.parConn n) (sliceO octets 0 24)
      let b := checkB (s.parConn n).identity r.1
      let o := if c.kind = .demand then spliceO d 8 (sliceO r.1 8 1) else spliceO d 11 (sliceO r.1 11 4)
      let o := put32 (put32 o 15 (checkA c.identity o)) 19 b
      done { r.2 with saf := { r.2.saf with outConns := Table.put {} r.2.saf.outConns n { u with draft := none, octets := o } } }

/-- A span mark (R252): the first after a reset sets the copy; a mark within 2 µs trims it by at most 1/2,048 of the time since the mark before; others are ignored, and the eighth in a row takes the ring connections to SAFE. -/
def execSpanMarkReceived (ns32 : W32) (s : State) : Host.Outcome State Fault Refusal :=
  if !s.par.up then done s
  else
    let old := s
    let now2 := s.par.clock
    match s.parNow with
    | none => done { s with par := { s.par with ns32 := some ns32, copyAt := now2, lastMark := now2, ignored := 0 } }
    | some copy =>
      let diff := (ns32 - copy).toInt
      let lim : Int := (s.since .b s.par.lastMark / 2048 : Nat)
      let mark := fun (p : ParState) => { p with lastMark := now2 }
      if 8 ≤ s.par.ignored then
        let s : State := { s with par := { mark s.par with ns32 := some ns32, copyAt := now2, ignored := 0 } }
        done ((s.parRing (fun _ => true) (fun _ => {})).settle old)
      else if -2000 ≤ diff ∧ diff ≤ 2000 then
        done { s with par := { mark s.par with
          ns32 := s.par.ns32.map (fun v => v + BitVec.ofInt 32 (clampInt (-lim) lim diff)), ignored := 0 } }
      else
        let s : State := { s with par := { mark s.par with ignored := s.par.ignored + 1, ignoredMarks := inc s.par.ignoredMarks } }
        if s.par.ignored = 8 then
          let s := s.parRing (fun _ => true) (fun k => { k with state := .safe, run := 0 })
          let d := s.parStamp
          let s := { d.2 with par := { d.2.par with log := d.2.par.log ++ [ParEntry.timeLost d.1] } }
          let s := if s.coreUp then s.raisePar { code := 0x0C0A, source := srcPar } else s
          done (s.settle old)
        else done s

/-- An integration mark puts the ring's connections into STARTING (R254). -/
def execIntegrationMarkReceived (r : BitVec 4) (s : State) : Host.Outcome State Fault Refusal :=
  if s.par.up then done ((s.parRing (fun c => c.ring == r) (fun _ => {})).settle s) else done s

/-- The watchdog time of a connection's newest accepted container has run out in a channel (R254, R255). -/
def execConnectionWatchdogExpiry (ch : Channel) (conn : BitVec 8) (s : State) : Host.Outcome State Fault Refusal :=
  let n := conn.toNat
  match ch with
  | .a => let c := s.connCfg n; done ((s.setWconn n ((s.wconn n).expired c.tWdNs (s.wardenNow c))).settle s)
  | .b =>
    match s.parNow with
    | none => done s
    | some now => done ((s.setPconn n ((s.pconn n).expired (s.parConn n).tWdNs now)).settle s)

/-- The Parapet's occupied set of detection fields (R223). -/
def State.parOccupied (s : State) : W64 :=
  let conns := s.parConns.foldl (fun (m : W64) e =>
    let c := e.2
    let ok := s.applies .b e.1
    let k := s.pconn e.1
    if !c.used || !c.parapet then m
    else match c.kind with
      | .fields => m ||| (if ok then k.fields &&& c.fieldMask else c.fieldMask)
      | .track => if !ok || (u8 k.payload 0).getLsbD 0 then m ||| c.fieldMask else m
      | _ => m) 0
  inputs16.foldl (fun m i =>
    let k := s.siCfg .b i
    if k.role == .guard && !s.inputShut .b i then m ||| k.fields else m) conns

def State.zoneCfg (s : State) (z : BitVec 5) : ZoneCfg := Table.get {} s.parSection.zones z.toNat

/-- The zone state (R223). -/
def State.zoneNow (s : State) : BitVec 5 :=
  let occ := s.parOccupied
  (upto 32).foldl (fun z i => if ((s.zoneCfg (BitVec.ofNat 5 i)).trigger &&& occ) != 0 then BitVec.ofNat 5 i else z) 0

/-- A change of zone state (R226): its grace time starts; a change in a running grace keeps the end and the old rule; a grace time of 0 applies at once. -/
def State.changeZone (s : State) (z : BitVec 5) : State :=
  if z = s.par.zone then s
  else
    let p := s.par
    let prev := if (s.zoneCfg z).graceMs = 0 then none else (match p.oldZone with | some o => some o | none => some p.zone)
    { s with par := { p with zone := z, oldZone := prev, zoneChanges := inc p.zoneChanges } }

/-- The entry of a zone state and a joint channel in the rule table (R224). What lies past the table's end stands for a joint that is not configured. -/
def ruleEntry (o : Octets) (z j : Nat) : Rule :=
  let at_ := (z * 64 + j) * 10
  if o.length < at_ + 10 then {} else { lo := u32 o at_, hi := u32 o (at_ + 4), vmax := u16 o (at_ + 8) }

/-- Whether a joint is configured: it has an entry other than the marker in some zone state (R224). -/
def SafetyCfg.jointConfigured (k : SafetyCfg) (j : Nat) : Bool := (upto 32).any (fun z => ruleEntry k.rules z j != {})

def looser (a b : Rule) : Rule :=
  { lo := if a.lo.toInt ≤ b.lo.toInt then a.lo else b.lo, hi := if a.hi.toInt ≤ b.hi.toInt then b.hi else a.hi
    vmax := if a.vmax.toNat ≤ b.vmax.toNat then b.vmax else a.vmax }

/-- The rule in force for a joint (R224, R226). -/
def State.ruleOf (s : State) (j : Nat) : Rule :=
  let o := s.parSection.rules
  let r := ruleEntry o s.par.zone.toNat j
  match s.par.oldZone with
  | none => r
  | some z => looser r (ruleEntry o z.toNat j)

/-- Whether a configured joint is in violation of the rule in force (R225). -/
def State.jointViolates (s : State) (n : Nat) (c : ConnCfg) : Bool :=
  let r := s.ruleOf c.channel
  if !s.parSection.jointConfigured c.channel then false
  else if !s.applies .b n then true
  else
    let o := (s.pconn n).payload
    let x := (u32 o 0).toInt
    let v := (u16 o 4).toInt
    decide (x < r.lo.toInt) || decide (r.hi.toInt < x) || decide ((r.vmax.toNat : Int) < (if v < 0 then -v else v))

def State.armViolates (s : State) (a : Nat) : Bool :=
  s.parConns.any (fun e => e.2.used && e.2.parapet && e.2.kind == .safeState && e.2.arm.toNat == a && s.jointViolates e.1 e.2)

/-- What an evaluation finds of an arm (R227): an onset is reported once. -/
def State.evaluateArm (s : State) (a : Nat) : State :=
  let p := s.parm a
  let v := s.armViolates a
  let s := s.setParm a { p with violating := v, holding := p.holding || v }
  if v && !p.violating then
    if s.coreUp then
      let s := s.raisePar { code := 0x0C02, source := srcPar, data := BitVec.ofNat 32 a, arm := some a }
      { s with par := { s.par with onsets := s.par.onsets ++ [(BitVec.ofNat 3 a, s.lastCause)] } }
    else s
  else s

/-- The evaluation of every 8 µs (R225 to R227): an accepted section comes into force, counters asked for are cleared, then zone, joints and test vectors. -/
def execParapetEvaluation (vectorsPass : Bool) (s : State) : Host.Outcome State Fault Refusal :=
  if !s.par.up then done s
  else
    let old := s
    let p := s.par
    let s : State := { s with par := { p with selected := (match p.switchTo with | some b => some b | none => p.selected), switchTo := none } }
    let p := s.par
    let s : State := if p.clearDue then
        { s with par := { p with violations := 0, silent := 0, zoneChanges := 0, disc := 0, tp := 0, clearDue := false } }
      else s
    let s : State := match s.parNow with
      | none => s
      | some now => s.each (s.parConns.map (fun e => e.1)) (fun s n => s.setPconn n ((s.pconn n).expired (s.parConn n).tWdNs now))
    let s : State := s.changeZone s.zoneNow
    let s : State := s.each arms8 State.evaluateArm
    let p := s.par
    let s : State := if arms8.any (fun a => (s.parm a).violating) then { s with par := { p with violations := inc p.violations } } else s
    let p := s.par
    let s : State := if vectorsPass then s
      else { s with par := { p with internalFault := true, log := p.log ++ [ParEntry.testVector] } }
    done (s.settle old)

/-- The grace time ends (R226). -/
def execGraceEnd (s : State) : Host.Outcome State Fault Refusal := done { s with par := { s.par with oldZone := none } }

/-- The hold time after a cleared violation ends (R227). -/
def execParapetHoldEnd (a : BitVec 3) (s : State) : Host.Outcome State Fault Refusal :=
  let p := s.parm a.toNat
  if p.violating then done s else done ((s.setParm a.toNat { p with holding := false }).settle s)

/-- The heartbeat window in quarter ns, that of the section in force: cycles of 31.25 ns (R221). -/
def State.beatWindow (s : State) : Nat := s.parSection.windowCycles * 125

/-- Whether a gap in ns lies beyond the window. Without a section no window is set, and no gap counts (DESIGN CHOICE, log entry 13). -/
def State.beatGap (s : State) (gap : Nat) : Bool := s.par.selected.isSome && decide (s.beatWindow < 4 * gap)

/-- Warden silent (R221, R228): every low-side switch opens, the Parapet logs it, and the event is raised, later where the core die cannot record it. -/
def State.wardenSilent (s : State) : State :=
  let d := s.parStamp
  let s := d.2
  let e := ParEntry.wardenSilent d.1
  let p := s.par
  let s := { s with par := { p with
    beating := false, beatsGood := false, silent := inc p.silent, log := p.log ++ [e]
    toReport := if s.coreUp then p.toReport else p.toReport ++ [e] } }
  if s.coreUp then s.raisePar { code := 0x0C05, source := srcPar } else s

/-- A heartbeat reaches the Parapet (R221, R228); `gap` in ns. Gaps count from the first heartbeat after its start. -/
def execHeartbeatReceived (_span : W32) (gap : Nat) (s : State) : Host.Outcome State Fault Refusal :=
  if !s.par.up then done s
  else
    let t := if s.par.firstBeat && s.par.beating && s.beatGap gap then s.wardenSilent else s
    done ({ t with par := { t.par with firstBeat := true, beating := true } }.settle s)

/-- The heartbeat window runs out (R221, R228). -/
def execWardenSilent (s : State) : Host.Outcome State Fault Refusal :=
  if s.par.up && s.par.beating then done (s.wardenSilent.settle s) else done s

/-- Heartbeats have arrived for 1 s without a gap (R228). -/
def execHeartbeatRestored (s : State) : Host.Outcome State Fault Refusal :=
  if s.par.up && s.par.beating then done ({ s with par := { s.par with beatsGood := true } }.settle s) else done s

/-- What the status path carries of the Parapet's outputs: commanded open, and read closed. -/
def State.lowSides (s : State) : Byte × Byte :=
  let f := fun (g : SafOutput → Bool) => outputs8.foldl (fun v n => bitSet v n (g (s.chOut .b n))) (0 : Byte)
  (f (fun o => !o.closed), f (fun o => o.reads))

/-- An entry of the Parapet's log that the core die could not record is raised after its release (R228). -/
def State.raiseEntry (s : State) (e : ParEntry) : State :=
  match e with
  | .wardenSilent v => s.raise { code := 0x0C05, source := srcPar, parapet := true, ns32 := some v, locked := some false }
  | _ => s

/-- A status report arrives (R227, R228, R233): the Parapet's fields of the SAF block, its section's CRC, and the onsets, for which Warden demands an SS1 stop. -/
def execParapetStatusReport (s : State) : Host.Outcome State Fault Refusal :=
  if !s.par.up || !s.coreUp then done s
  else
    let old := s
    let p := s.par
    let ls := s.lowSides
    let crc := match p.selected with
      | none => s.saf.sectionB
      | some b => if b then p.copyB.crc else p.copyA.crc
    let s := { s with saf := { s.saf with
      parapetOk := !p.internalFault, lastReport := s.tb.tb0.ns, grace := p.oldZone.isSome, zone := p.zone
      siB := s.siBNow, violations := p.violations, silent := p.silent, zoneChanges := p.zoneChanges, discB := p.disc, tpB := p.tp
      lsOpenCmd := ls.1, lsClosed := ls.2, sectionB := crc, reportedB := s.saf.reportedB || p.selected.isSome } }
    let s := s.each arms8 (fun s a => s.setWarm a { s.warm a with parDemand := (s.parm a).violating || (s.parm a).holding })
    let s := p.onsets.foldl (fun s e =>
      let a := e.1.toNat
      let s := s.setWarm a { s.warm a with parViolations := inc (s.warm a).parViolations }
      if s.wardenUp then s.protect a true true 3 {} e.2 else s) s
    let s := p.toReport.foldl State.raiseEntry s
    done ({ s with par := { s.par with onsets := [], toReport := [] } }.settle old)

/-- No status report within the window (R233). -/
def execParapetStatusTimeout (s : State) : Host.Outcome State Fault Refusal :=
  done ({ s with saf := { s.saf with parapetOk := false } }.safVector s)

/-- A staged copy lapses after 600 s (R261). -/
def execStagedCopyLapse (s : State) : Host.Outcome State Fault Refusal := done { s with par := { s.par with staged := none } }

/-- A Parapet reset (R439, R443): its low-side switches open, a staged copy lapses, and section_match reads 0 until it reports again. -/
def State.parapetReset (s : State) : State :=
  let old := s
  let w := s.pwr
  let s := { s with
    par := { s.par with up := false, staged := none, switchTo := none, outputs := [], inputs := rawInputs s.par.inputs, onsets := [] }
    saf := { s.saf with sectionB := 0, reportedB := false, parapetOk := false }
    pwr := { w with causeParapet := true, parapets := inc w.parapets } }
  s.settle old

def execParapetReset (s : State) : Host.Outcome State Fault Refusal := done s.parapetReset

/-- The newer complete copy, by serial arithmetic (R259). -/
def ParState.newest (p : ParState) : Option Bool :=
  if p.copyA.complete && p.copyB.complete then some (decide (0 < (p.copyB.seq - p.copyA.seq).toInt))
  else if p.copyA.complete then some false
  else if p.copyB.complete then some true
  else none

/-- The Parapet starts (R228, R235, R242, R252, R254, R259, R443): it keeps its store and its log, and everything else begins anew. -/
def execParapetStart (s : State) : Host.Outcome State Fault Refusal :=
  if s.par.up then done s
  else
    let p := s.par
    let s' := { s with par := { ({} : ParState) with
      up := true, clock := p.clock, startedAt := p.clock, inputs := rawInputs p.inputs, copyA := p.copyA, copyB := p.copyB, selected := p.newest, log := p.log, toReport := p.toReport } }
    done (s'.settle s)

/-- Whether the cell lets a section be staged or accepted (R261). -/
def State.maySection (s : State) : Bool := s.dev.cell == .loaded || s.dev.cell == .parked

/-- SAF_STAGE (R260, R261). With the Parapet in its reset the section cannot be passed to it. -/
def execSafStage (p : Packet) (s : State) : Host.Outcome State Fault Refusal :=
  done (serve s p 0x0A02 (unusedZero p.params [(0, 4)]) [] fun s =>
    let crc := BitVec.ofNat 32 (param p.params 0 4)
    if !s.maySection then reject s stWrongState
    else if crc ≠ s.cfg.safety.sectionCrc then reject s stCheckMismatch
    else if !s.par.up then reject s stFailed
    else
      let toB := s.par.selected == some false
      let old := if toB then s.par.copyB else s.par.copyA
      let c := { old with complete := false, crc := crc, section_ := s.cfg.safety }
      let v := s.par
      let v := if toB then { v with copyB := c } else { v with copyA := c }
      .answer { s with par := { v with staged := some (toB, s.par.clock) } } {})

/-- Whether SAF_KEY has read asserted in both channels for 1 s (R260). -/
def State.keyHeld (s : State) : Bool :=
  s.saf.keyLevel && s.par.keyLevel && decide (1000000000 ≤ s.since .a s.saf.keySince) && decide (1000000000 ≤ s.since .b s.par.keySince)

/-- SAF_ACCEPT (R260, R261). -/
def execSafAccept (p : Packet) (s : State) : Host.Outcome State Fault Refusal :=
  done (serve s p 0x0A03 (unusedZero p.params [(0, 4)]) [] fun s =>
    let crc := BitVec.ofNat 32 (param p.params 0 4)
    match s.par.staged with
    | none => reject s stWrongState
    | some st =>
      let c := if st.1 then s.par.copyB else s.par.copyA
      let o := if st.1 then s.par.copyA else s.par.copyB
      if !s.maySection || 600000000000 < s.since .b st.2 then reject s stWrongState
      else if crc ≠ c.crc ∨ crc ≠ s.saf.sectionA then reject s stCheckMismatch
      else if !s.keyHeld then reject s stKeyAbsent
      else
        let c := { c with seq := o.seq + 1, complete := true }
        let v := s.par
        let v := if st.1 then { v with copyB := c } else { v with copyA := c }
        let s := { s with par := { v with staged := none, switchTo := some st.1, log := v.log ++ [ParEntry.accepted s.tb.tb2.ns crc] } }
        .answer (s.raise { code := 0x0C09, source := srcSaf }) {})

end Sys2Proof.Machine
end

