-- ==== Sys2Proof/Machine/Limits.lean ====
section
/-! DEFINITION. The limits that the manual sets for a catalogue with numbers (R368 CONTENT), section by section. Schedule checks that need Plajan's worst cases (R19, R144, R176, R207, R219, R335) stay with Config.contentGood (log entry 21). -/
namespace Sys2Proof.Machine

/-- The classes that the EVENTS section may set, per code (R432). -/
def eventRange (code : W16) : Nat × Nat :=
  match code.toNat with
  | 0x0101 => (0, 3)
  | 0x0102 => (2, 4)
  | 0x0103 => (1, 3)
  | 0x0104 => (1, 3)
  | 0x0106 => (1, 3)
  | 0x0607 => (1, 4)
  | 0x0608 => (1, 3)
  | 0x060A => (0, 3)
  | 0x0703 => (1, 4)
  | 0x0705 => (1, 3)
  | 0x0B01 => (0, 3)
  | 0x0D01 => (0, 1)
  | 0x0D02 => (1, 4)
  | 0x0D03 => (1, 3)
  | 0x0D04 => (0, 1)
  | 0x0E01 => (0, 3)
  | 0x0F01 => (1, 3)
  | 0x0F02 => (0, 3)
  | 0x1301 => (1, 4)
  | 0x1302 => (3, 4)
  | _ => let k := ((lookupClass eventTable code).getD 1).toNat; (k, k)

def within (lo hi : Nat) (v : Nat) : Bool := decide (lo ≤ v) && decide (v ≤ hi)

/-- An optional setting within its limits. -/
def optWithin (lo hi : Nat) (v : Option Nat) : Bool := match v with | some n => within lo hi n | none => true

/-- Runs of addresses (first, length) pairwise apart. -/
def runsApart : List (Nat × Nat) → Bool
  | [] => true
  | a :: t => t.all (fun b => decide (a.1 + a.2 ≤ b.1) || decide (b.1 + b.2 ≤ a.1)) && runsApart t

/-- Pairwise different. -/
def distinct {α : Type} [DecidableEq α] : List α → Bool
  | [] => true
  | a :: t => !t.contains a && distinct t

/-- A ring (R75, R90, R96, R101): 255 is no claim, 16 nodes, data-loss times of 3 to 64 spans, decks of 2,048 octets. -/
def RingCfg.good (c : RingCfg) : Bool :=
  c.claim != 255 && decide (c.nodes.length ≤ 16) && c.nodes.all (fun n => n.dataLoss == 0 || within 3 64 n.dataLoss.toNat)
    && decide (c.deckLen true ≤ 2048) && decide (c.deckLen false ≤ 2048)

/-- A joint record (R125, R126, R128) of channel `c`: its mode, arm, ring, shifts, limits and leader. -/
def Catalogue.chanGood (g : Catalogue) (c : Nat) (k : ChanCfg) : Bool :=
  let lead := Table.get {} g.chans k.leader.toNat
  !k.used ||
  (decide (c < 72) && decide (k.mode.toNat ≤ 5) && decide (k.arm.toNat ≤ 8)
    && (if c < 64 then decide (k.ring.toNat < 8) else k.ring == 11 || k.ring == 12 || k.ring == 0xFF)
    && k.shifts.all (fun x => decide (-16 ≤ x.toInt) && decide (x.toInt ≤ 15))
    && decide (0 < k.vLim.toInt) && decide (k.iMin.toInt ≤ k.iMax.toInt) && decide (k.tqMin.toInt ≤ k.tqMax.toInt)
    && (k.mode != 5 || (decide (k.leader.toNat < c) && lead.used && lead.mode != 5)))

/-- The panels of the used channels, those on rings (R125): no two name the same. -/
def Catalogue.panelsGood (g : Catalogue) : Bool :=
  let l := (g.chans.filter (fun e => e.2.used && e.2.ring != 0xFF)).map (fun e => e.2)
  distinct (l.map (fun k => (k.ring, k.gatherOff))) && distinct (l.map (fun k => (k.ring, k.deliverOff)))

/-- A set of LE_ARMa_CTL (R134); an underrun limit of 0 stands for none given. -/
def SetCfg.good (k : SetCfg) : Bool := decide (k.underrunLimit.toNat ≤ 64) && decide (k.knotLog2.toNat ≤ 6)

def exponents (l : List Int) : Bool := l.all (fun e => decide (-64 ≤ e) && decide (e ≤ 63))

/-- A solver slot (R148 to R151, R160): sizes, exponents, the exponent of ρ, placement, and a deadline after the start. -/
def SlotCfg.good (k : SlotCfg) (spanNs : Nat) : Bool :=
  !k.enabled ||
  (within 1 256 k.n.toNat && within 1 768 k.m.toNat && decide (k.nnzPa.toNat ≤ 24576) && decide (k.nnzL.toNat ≤ 49152)
    && decide (1 ≤ k.nIt.toNat) && within 1 32 k.eX.length && within 1 64 k.eZ.length && within 1 2048 k.listCap.toNat
    && exponents (k.eX ++ k.eQ ++ k.eZ ++ k.eY ++ k.eV ++ k.eW ++ k.eXt ++ k.eNu ++ k.eZt ++ k.eC ++ k.eT ++ k.eL)
    && (k.eP ++ k.eA).all exponents && exponents [k.sigma.e, k.alpha.e, k.dMin.e, k.rho.e] && decide (k.rho.e ≤ 53)
    && k.base.toNat % 64 == 0 && decide (k.base.toNat + k.footprint ≤ 524288)
    && decide ((if k.token then 0 else k.offsetNs.toNat) < k.dlSpans.toNat * spanNs + k.dlOffset.toNat))

/-- The footprints of a lane's slots lie apart and within its memory (R149). -/
def Catalogue.laneGood (g : Catalogue) (n : Nat) : Bool :=
  let l := (g.slots.filter (fun e => e.2.enabled && e.1 / 4 == n)).map (fun e => (e.2.base.toNat, e.2.footprint))
  runsApart l && decide (l.foldl (fun t e => t + e.2) 0 ≤ 524288)

/-- A profile channel (R179, R195): positive limits, stop limits no lower than d_max and j_max, HARD on auxiliary channels only, limit inputs among the 48 pins. -/
def ProfCfg.good (k : ProfCfg) (c : Nat) : Bool :=
  !k.enabled ||
  ([k.vMax, k.aMax, k.dMax, k.jMax, k.dStop, k.jStop].all (fun x => x != 0)
    && decide (k.dMax.toNat ≤ k.dStop.toNat) && decide (k.jMax.toNat ≤ k.jStop.toNat)
    && (!k.hard || decide (64 ≤ c)) && [k.limitNeg, k.limitPos].all (fun p => p == 0x3F || decide (p.toNat < 48)))

/-- The feedback kinds of a module's mode (R263). -/
def modeAllows (mode kind : Nat) : Bool :=
  match mode with
  | 0 => true
  | 1 => kind == 1
  | 2 => kind == 2 || kind == 3 || kind == 0
  | 3 => kind == 2 || kind == 0
  | 4 => kind == 2 || kind == 0
  | _ => false

/-- An auxiliary module and its feedback (R263 to R283); `before` is the module before it. -/
def Catalogue.axGood (g : Catalogue) (n : Nat) (k before : AxCfg) : Bool :=
  let c := Table.get {} g.chans (64 + n)
  let period := k.nDiv.toNat + 1
  !k.enable ||
  (modeAllows k.mode.toNat k.kind.toNat
    && (if k.direct then c.mode == 0 else c.ring == 0xFF)
    && (!k.syncIn || (n != 0 && k.nDiv == before.nDiv))
    && k.top.toNat == spanLength g.spanCode / 4 / (2 * period) && decide (250 ≤ 2 * k.top.toNat)
    && decide (k.phase.toNat ≤ k.top.toNat) && decide (k.minPulse.toNat ≤ 500) && decide (k.dead.toNat ≤ 500)
    && decide (k.setup.toNat ≤ 2500) && (k.mode != 4 || within 25 2500 k.width.toNat)
    && (k.kind == 0 || within 5 25000 k.spacing.toNat) && decide (k.hallShift.toNat ≤ 5)
    && decide (k.react.toNat ≤ 2) && (!k.laEn || decide (n < 2)) && (!k.devEn || k.kind != 0))

/-- A field pin (R288, R294). -/
def PinCfg.good (k : PinCfg) : Bool :=
  if k.output then decide (k.safe.toNat ≤ 2) else within 1 (if k.continuous then 1000 else 4) k.filter.toNat

/-- An arm of the safety section (R208, R209, R214): every chain joint has a SAFE_STATE connection of Warden. -/
def SafetyCfg.armGood (k : SafetyCfg) (a : Nat) (m : ArmModel) : Bool :=
  !m.present ||
  (decide (a < 8) && decide (m.chain.length ≤ 8) && decide (m.capsules.length ≤ 12)
    && m.chain.all (fun j => k.conns.any (fun e =>
      e.2.used && e.2.warden && e.2.kind == .safeState && e.2.arm.toNat == a && e.2.channel == j.channel))
    && decide (m.stopping.length ≤ 8) && (m.capsules.isEmpty || !m.stopping.isEmpty)
    && (m.stopping.isEmpty || (m.stopping.headD {}).v == 0)
    && (m.stopping.zip (m.stopping.drop 1)).all (fun e => decide (e.1.v < e.2.v)))

/-- A connection (R210, R256, R258): T_exp and T_wd within the limits of its carriage, a coverage box for a TRACK. -/
def ConnCfg.good (c : ConnCfg) (spanNs : Nat) : Bool :=
  !c.used ||
  ((if c.plant then within 250 500000 c.periodUs && within 500000 1000000000 c.tExpNs && within c.tExpNs 2000000000 c.tWdNs
    else within spanNs (16 * spanNs) c.tExpNs && within c.tExpNs (64 * spanNs) c.tWdNs)
    && (c.kind != .track || c.coverage.length == 6))

/-- A safe input (R235, R237, R240). -/
def SiCfg.good (k : SiCfg) : Bool :=
  k.filterUs % 100 == 0 && within 100 10000 k.filterUs && within 1 500 k.discMs && (k.tpA.isNone || k.tpA != k.tpB)

/-- A safe output (R243, R246). -/
def SoCfg.good (k : SoCfg) : Bool :=
  decide (k.offDelayMs ≤ 10000) && k.darkUs % 10 == 0 && within 100 300 k.darkUs && within 1000 60000 k.darkMs

/-- The mode selector (R239): 2 to 4 inputs, and no mode less restricted in any arm than mode 0 is restricted by. -/
def modesGood (l : List ModeCfg) : Bool :=
  let m0 := l.headD {}
  l.isEmpty ||
  (within 2 4 l.length && l.all (fun m => (upto 8).all (fun a =>
    let x := (m0.sls.getD a 0).toNat
    let y := (m.sls.getD a 0).toNat
    (y == 0 || (x != 0 && decide (x ≤ y))) && ((m.enabling.getD a none).isNone || (m0.enabling.getD a none).isSome))))

/-- The safety section (R208 to R261). -/
def SafetyCfg.good (k : SafetyCfg) (spanNs : Nat) : Bool :=
  k.arms.all (fun e => k.armGood e.1 e.2)
    && decide (k.arms.foldl (fun n e => n + e.2.capsules.length) 0 ≤ 96)
    && k.volumes.all (fun e => decide (e.1 < 64)) && k.zones.all (fun e => decide (e.1 < 32) && decide (e.2.graceMs ≤ 1000))
    && k.conns.all (fun e => e.2.good spanNs) && decide ((k.conns.filter (fun e => e.2.used)).length ≤ 256)
    && decide ((k.conns.filter (fun e => e.2.used && e.2.plant)).length ≤ 64)
    && (upto 64).all (fun j => !k.jointConfigured j
      || k.conns.any (fun e => e.2.used && e.2.parapet && e.2.kind == .safeState && e.2.channel == j))
    && k.inputs.all (fun e => e.2.good) && k.outputs.all (fun e => e.2.good) && modesGood k.modes
    && within 10 1000 k.testPeriodMs && k.pulseUs % 10 == 0 && within 200 1000 k.pulseUs && decide (4 * k.pulseUs ≤ k.testPeriodMs * 1000)
    && decide (26843546 ≤ k.vH) && decide (0 ≤ k.releaseMargin) && decide (k.resumeMs ≤ 10000) && within 100 10000 k.holdMs

/-- A descriptor (R323). -/
def Desc.good (d : Desc) : Bool :=
  !d.used ||
  (decide (d.count.toNat ≤ 4) && d.affinity != 0 && !(d.vcDeadline && d.ownDeadline) && d.budget != 0
    && decide (d.firstEntry.toNat + d.count.toNat ≤ 4096) && (d.arm == 0xFF || decide (d.arm.toNat < 8)))

/-- A template row (R336): its trigger, and a released descriptor without operands. -/
def Catalogue.rowGood (g : Catalogue) (k : TplRow) : Bool :=
  !k.enabled ||
  (decide (k.trigger.toNat ≤ 3) && (!k.release || (let d := Table.get {} g.descs k.target.toNat; d.used && d.count == 0)))

/-- The CODE section (R323, R336). -/
def Catalogue.codeGood (g : Catalogue) : Bool :=
  g.descBase.toNat % 32 == 0 && g.descs.all (fun e => decide (e.1 < 1024) && e.2.good)
    && runsApart ((g.descs.filter (fun e => e.2.used && e.2.count != 0)).map (fun e => (e.2.firstEntry.toNat, e.2.count.toNat)))
    && g.rows.all (fun e => decide (e.1 < 64) && g.rowGood e.2)

/-- A ring served by a pair (R390): data-loss times and the times of its DEMAND connections from 4 spans on. -/
def Catalogue.sharedGood (g : Catalogue) (r : Nat) (k : RingCfg) : Bool :=
  let four := 4 * spanLength g.spanCode
  k.nodes.all (fun n => n.dataLoss == 0 || decide (4 ≤ n.dataLoss.toNat))
    && g.safety.conns.all (fun e => !(e.2.used && e.2.kind == .demand && !e.2.plant && e.2.ring.toNat == r)
      || (decide (four ≤ e.2.tExpNs) && decide (four ≤ e.2.tWdNs)))

/-- The pair and the hierarchy (R378, R390, R393): a pair has no local channel and no DIRECT module; at most 8 workers. -/
def Catalogue.pairGood (g : Catalogue) : Bool :=
  decide (g.pair.workerAt.length ≤ 8)
    && (!g.pair.pair || (g.chans.all (fun e => !(e.2.used && e.2.ring == 0xFF)) && g.ax.all (fun e => !(e.2.enable && e.2.direct))
      && g.rings.all (fun e => !g.pair.sharedRings.getLsbD e.1 || g.sharedGood e.1 e.2)))

/-- The SCHEDULE, PLANT and EVENTS sections, and the settings of the chapters on power (R20, R22, R24, R37, R64, R68, R294, R429, R432, R438, R441, R461). -/
def Catalogue.timesGood (c : Catalogue) : Bool :=
  decide (c.spanCode.toNat ≤ 5) && within 63 1000 c.gatherOffset.toNat && within 4 64 c.returnGuard.toNat
    && within 50 2000 c.integrationMs && within 1000 1000000 c.reacquireNs && within 500 30000 c.syncLossMs
    && optWithin 500 20000 (c.dwellUs.map (·.toNat)) && optWithin 10 1000 (c.watchdogMs.map (·.toNat))
    && optWithin 1 1000 (c.dioTimeout.map (·.toNat)) && decide (4 * spanLength c.spanCode ≤ (c.dioTimeout.elim 10 (·.toNat)) * 1000000)
    && optWithin 1 1024 (c.threshold.map (·.toNat))
    && c.ports.all (fun e => decide (e.2.serdes.toNat / 2 ^ 28 ≤ 8)) && c.plants.all (fun e => decide (e.2.multicast.length ≤ 8))
    && c.eventClasses.all (fun e => let r := eventRange e.1; within r.1 r.2 e.2.toNat)

/-- The limits that the chapters state with numbers (R368 CONTENT). -/
def Catalogue.withinLimits (c : Catalogue) : Bool :=
  c.timesGood && c.rings.all (fun e => e.2.good)
    && c.chans.all (fun e => c.chanGood e.1 e.2) && c.panelsGood && c.sets.all (fun e => e.2.good)
    && c.slots.all (fun e => decide (e.1 < 128) && e.2.good (spanLength c.spanCode)) && (upto 32).all c.laneGood
    && c.profs.all (fun e => e.2.good e.1)
    && (upto 8).all (fun n => c.axGood n (Table.get {} c.ax n) (Table.get {} c.ax (n - 1)))
    && c.pins.all (fun e => e.2.good) && c.safety.good (spanLength c.spanCode) && c.codeGood && c.pairGood

end Sys2Proof.Machine
end

