-- ==== Sys2Proof/Machine/Ptp.lean ====
section
/-! DEFINITION. The PTP engine on the plant ports: frames, messages, the choice of a master, path delay and TB1 (R62, R66 to R68). What IEEE 1588-2019 and IEEE 802.1AS-2020 fix and the spec only names is PRESUMED (log entry 9). Time is counted in 2^-16 ns. -/
namespace Sys2Proof.Machine

/-- Port states of IEEE 1588-2019 (R69). -/
def ptpListening : BitVec 4 := 4
def ptpMaster : BitVec 4 := 6
def ptpPassive : BitVec 4 := 7
def ptpUncalibrated : BitVec 4 := 8
def ptpSlave : BitVec 4 := 9

def plantIndex (port : Bool) : Nat := if port then 1 else 0

def State.plantCfg (s : State) (n : Nat) : PlantCfg := Table.get {} s.cfg.plants n

/-- An enabled plant port; the core die's MAC does not run in reset or DORMANT. -/
def State.plantOn (s : State) (n : Nat) : Bool := (s.plantCfg n).enable && !s.pwr.inReset && !s.pwr.dormant

def State.portState (s : State) (n : Nat) (v : BitVec 4) : State := s.setPlant n { s.plant n with portState := v }

/-- A number of `n` octets, most significant first, as Ethernet sends it. -/
def beBytes (n v : Nat) : Octets := (leBytes n v).reverse

def beField (o : Octets) (off len : Nat) : Nat := ofLe (sliceO o off len).reverse

/-- A unicast address of the catalogue, whose octet 0 lies in bits 7:0 (R69), as it reads on the wire. -/
def addressOf (m : BitVec 48) : Nat := ofLe (leBytes 6 m.toNat).reverse

/-- The 802.1Q tag of a port (R66). -/
def tagOf (pcp : BitVec 3) (vid : BitVec 12) : Octets := [0x81, 0x00] ++ beBytes 2 (pcp.toNat * 8192 + vid.toNat)

/-- A frame with its FCS (R63; log entry 24). -/
def withFcs (o : Octets) : Octets := o ++ leBytes 4 (crcOf .crc32 o).toNat

/-- The addresses of PTP that a port accepts (R64). -/
def ptpAddress : Nat := 0x011B19000000
def peerAddress : Nat := 0x0180C200000E

/-- The offset of the EtherType, after any 802.1Q tag (R65). -/
def etherAt (o : Octets) : Nat := if beField o 12 2 = 0x8100 then 16 else 12

/-- Message types (IEEE 1588-2019). -/
def msgSync : Nat := 0x0
def msgDelayReq : Nat := 0x1
def msgPdelayReq : Nat := 0x2
def msgPdelayResp : Nat := 0x3
def msgFollowUp : Nat := 0x8
def msgDelayResp : Nat := 0x9
def msgPdelayFollowUp : Nat := 0xA
def msgAnnounce : Nat := 0xB

/-- The message in a frame. -/
def ptpBody (frame : Octets) : Octets := frame.drop (etherAt frame + 2)

def ptpType (m : Octets) : Nat := (u8 m 0).toNat % 16

/-- A message's correctionField, in 2^-16 ns. -/
def ptpCorrection (m : Octets) : Int := (BitVec.ofNat 64 (beField m 8 8)).toInt

def ptpSeq (m : Octets) : W16 := BitVec.ofNat 16 (beField m 30 2)

/-- A timestamp of a message: seconds and nanoseconds. -/
def ptpTime (m : Octets) (off : Nat) : Int := ((beField m off 6 * 1000000000 + beField m (off + 6) 4) * 65536 : Nat)

/-- A timestamp's octets; the fraction goes into a correctionField. -/
def timeOctets (t : Nat) : Octets := beBytes 6 (t / 65536 / 1000000000) ++ beBytes 4 (t / 65536 % 1000000000)

/-- The clock identity: the EUI-64 of P0's address. -/
def State.clockId (s : State) : Octets :=
  let a := beBytes 6 (addressOf (s.plantCfg 0).mac)
  a.take 3 ++ [0xFF, 0xFE] ++ a.drop 3

def State.portId (s : State) (n : Nat) : Octets := s.clockId ++ beBytes 2 (n + 1)

/-- controlField of a message type. -/
def ptpControl (type : Nat) : Byte :=
  match type with
  | 0x0 => 0
  | 0x1 => 1
  | 0x8 => 2
  | 0x9 => 3
  | _ => 5

/-- A PTP frame of a port: addresses, tag with the PTP class's PCP (R66), header and body, padded, with its FCS. -/
def State.ptpFrame (s : State) (n type flags : Nat) (corr : Int) (seq : W16) (body : Octets) : Octets :=
  let c := s.plantCfg n
  let peer := c.profileAs || type == msgPdelayReq || type == msgPdelayResp || type == msgPdelayFollowUp
  let m := [BitVec.ofNat 8 ((if c.profileAs then 16 else 0) + type), 0x12] ++ beBytes 2 (34 + body.length) ++ [c.domain, 0] ++ beBytes 2 flags
    ++ beBytes 8 (BitVec.ofInt 64 corr).toNat ++ [0, 0, 0, 0] ++ s.portId n ++ beBytes 2 seq.toNat
    ++ [ptpControl type, if type = msgSync ∨ type = msgFollowUp then c.logSync else 0x7F] ++ body
  let o := beBytes 6 (if peer then peerAddress else ptpAddress) ++ beBytes 6 (addressOf c.mac) ++ tagOf c.pcpPtp c.vid ++ [0x88, 0xF7] ++ m
  withFcs (o ++ List.replicate (60 - o.length) 0)

/-- A frame starts once the wire is idle, in strict priority of class, and is never interrupted (R66). -/
def PlantPort.start (t : PlantPort) : PlantPort :=
  match t.wire with
  | .idle =>
    match t.ptpQueue with
    | f :: r => { t with ptpQueue := r, wire := .ptp f }
    | [] =>
      match t.pslQueue with
      | f :: r => { t with pslQueue := r, wire := .psl f }
      | [] =>
        match t.rawQueue with
        | f :: r => { t with rawQueue := r, wire := .raw f }
        | [] => t
  | _ => t

/-- A PTP frame joins its class's queue. -/
def State.ptpSend (s : State) (n : Nat) (frame : Octets) : State :=
  s.setPlant n ({ s.plant n with ptpQueue := (s.plant n).ptpQueue ++ [frame] } : PlantPort).start

/-- Changes what the PTP engine keeps of a port. -/
def State.setPtp (s : State) (n : Nat) (f : PtpPort → PtpPort) : State := s.setPlant n { s.plant n with ptp := f (s.plant n).ptp }

/-- The sequenceId of the next message of a type, which advances. -/
def State.ptpNext (s : State) (n type : Nat) : W16 × State :=
  (Table.get 0 (s.plant n).ptp.seqs type, s.setPtp n (fun q => { q with seqs := Table.upd 0 q.seqs type (· + 1) }))

/-- The Follow_Up information TLV of 802.1AS. -/
def followTlv (as : Bool) : Octets := if as then [0, 3, 0, 28, 0, 0x80, 0xC2, 0, 0, 1] ++ List.replicate 22 0 else []

/-- A data set to compare: priority1, class, accuracy, variance, priority2, identity, steps removed. -/
def setKey (p1 cls acc var p2 id steps : Nat) : Nat :=
  ((((((p1 * 2 ^ 8 + cls) * 2 ^ 8 + acc) * 2 ^ 16 + var) * 2 ^ 8 + p2) * 2 ^ 64 + id) * 2 ^ 16 + steps)

/-- The device's own data set: the defaults of the standard. -/
def State.ownKey (s : State) : Nat := setKey 128 248 0xFE 0xFFFF 128 (beField s.clockId 0 8) 0

/-- An Announce body: its own data set. -/
def State.announceBody (s : State) : Octets :=
  List.replicate 10 0 ++ [0, 37, 0, 128, 248, 0xFE, 0xFF, 0xFF, 128] ++ s.clockId ++ [0, 0, 0xA0]

def masterOf (m : Octets) : MasterSet :=
  { key := setKey (u8 m 47).toNat (u8 m 48).toNat (u8 m 49).toNat (beField m 50 2) (u8 m 52).toNat (beField m 53 8) (beField m 61 2)
    grandmaster := BitVec.ofNat 64 (beField m 53 8), parent := sliceO m 20 10 }

/-- Whether a port follows a master. -/
def State.follows (s : State) (n : Nat) : Bool :=
  (s.plant n).portState == ptpUncalibrated || (s.plant n).portState == ptpSlave

/-- PTP selects the master heard on a port (R67, R68): TB1 goes to ACQUIRING where it is another, and the other port is at most PASSIVE. -/
def State.ptpSelect (s : State) (n : Nat) (x : MasterSet) : State :=
  let o := 1 - n
  let fresh := s.tb.grandmaster != some x.grandmaster || !s.follows n
  let s := { s with tb := { s.tb with parent := x.parent } }
  if !fresh then s
  else
    let s := { s with tb := { s.tb with grandmaster := some x.grandmaster, bigOffsets := 0, master := false, lastSync := s.tb.tb2.ns } }
    let s := s.portState n ptpUncalibrated
    let s := if (s.plantCfg o).enable then s.portState o ptpPassive else s
    s.setMode 1 .acquiring

/-- The device becomes master on the ports that the catalogue marks, with TB1 as its own reference (R67, R68). -/
def State.ptpMasters (s : State) : State :=
  let s := { s with tb := { s.tb with master := true, grandmaster := none } }
  let s := s.each [0, 1] (fun s n =>
    if !(s.plantCfg n).enable then s else s.portState n (if (s.plantCfg n).masterCapable then ptpMaster else ptpListening))
  match s.tb.tb1.mode with
  | .free => s
  | _ => s.setMode 1 .holdover

/-- Whether a port may become MASTER. -/
def State.masterAble (s : State) (n : Nat) : Bool := (s.plantCfg n).enable && (s.plantCfg n).masterCapable

/-- The choice among the masters heard and, where the catalogue marks a port, the device itself (R67). -/
def State.ptpChoose (s : State) : State :=
  let l := [0, 1].filterMap (fun n => if (s.plantCfg n).enable then (s.plant n).ptp.announce.map (fun x => (n, x)) else none)
  let best := l.foldl (fun b e => match b with
    | none => some e
    | some c => if e.2.key < c.2.key then some e else some c) (none : Option (Nat × MasterSet))
  let able := s.masterAble 0 || s.masterAble 1
  match best with
  | none => if able then s.ptpMasters else s
  | some e => if able && decide (s.ownKey < e.2.key) then s.ptpMasters else s.ptpSelect e.1 e.2

/-- Whole ns and fraction of a number of 2^-16 ns. -/
def wholeNs (d : Int) : W64 := BitVec.ofInt 64 (d / 65536)
def partNs (d : Int) : W32 := BitVec.ofInt 32 (d % 65536 * 65536)

/-- An offset from master is measured (R68): the one step in ACQUIRING, fraction included, then rate alone. The servo's rate is not stated (log entry 9). -/
def State.ptpOffset (s : State) (n : Nat) (off : Int) : State :=
  let s := s.setTimeBase 1 { s.tb.tb1 with offset := bvS 32 (roundDiv off 256) }
  match s.tb.tb1.mode with
  | .acquiring =>
    let s := s.stepTb 1 (wholeNs (-off)) false (partNs (-off))
    (s.setMode 1 .locked).portState n ptpSlave
  | .locked =>
    let big := if (s.cfg.reacquireNs : Int) * 65536 < (if off < 0 then -off else off) then s.tb.bigOffsets + 1 else 0
    let s := { s with tb := { s.tb with bigOffsets := big } }
    if 8 ≤ big then
      ({ s with tb := { s.tb with bigOffsets := 0 } }.setMode 1 .acquiring).portState n ptpUncalibrated
    else
      let d := s.draw 32
      d.2.setTimeBase 1 (d.2.tb.tb1.withRate d.1.toInt)
  | _ => s

/-- The difference from master to slave of a Sync, and the offset that it gives with the mean path delay. -/
def State.ptpMeasure (s : State) (n : Nat) (diff : Int) : State :=
  (s.setPtp n (fun q => { q with sync := none, diff := diff })).ptpOffset n (diff - (s.plant n).ptp.delay)

/-- A mean path delay (R69). -/
def State.ptpDelay (s : State) (n : Nat) (d : Int) : State :=
  (s.setPlant n { s.plant n with pathDelay := BitVec.ofInt 32 (roundDiv d 256) }).setPtp n (fun q => { q with delay := d })

/-- A received event message's stamp on TB1, with the 64 ns of R62. -/
def State.eventRx (s : State) (n : Nat) (rx : FrameStamps) : Nat := eventPoint (rx.tb1.arrived (s.alignment (24 + n)))

/-- A message of the master that the port follows (R67, R68). -/
def State.ptpFromMaster (s : State) (n : Nat) (m : Octets) (rx : Nat) : State :=
  let type := ptpType m
  let q := (s.plant n).ptp
  if sliceO m 20 10 ≠ s.tb.parent then s
  else if type = msgSync then
    let twoStep := (u8 m 6).getLsbD 1
    let s := { s with tb := { s.tb with lastSync := s.tb.tb2.ns } }
    if twoStep then s.setPtp n (fun q => { q with sync := some (ptpSeq m, (rx : Int), ptpCorrection m) })
    else if (s.plantCfg n).profileAs then s
    else s.ptpMeasure n ((rx : Int) - ptpTime m 34 - ptpCorrection m)
  else
    match q.sync with
    | none => s
    | some y => if y.1 = ptpSeq m then s.ptpMeasure n (y.2.1 - ptpTime m 34 - y.2.2 - ptpCorrection m) else s

/-- A Delay_Resp to this port's request (R67). -/
def State.ptpDelayResp (s : State) (n : Nat) (m : Octets) : State :=
  match (s.plant n).ptp.request with
  | some (seq, some t3) =>
    if seq = ptpSeq m ∧ sliceO m 44 10 = s.portId n ∧ sliceO m 20 10 = s.tb.parent then
      let q := (s.plant n).ptp
      (s.setPtp n (fun q => { q with request := none })).ptpDelay n (roundDiv (q.diff + (ptpTime m 34 - ptpCorrection m - t3)) 2)
    else s
  | _ => s

/-- The peer's answers to this port's peer delay request (R67). -/
def State.ptpPeer (s : State) (n : Nat) (m : Octets) (rx : Nat) : State :=
  let q := (s.plant n).ptp
  if sliceO m 44 10 ≠ s.portId n then s
  else if ptpType m = msgPdelayResp then
    match q.peer with
    | some (seq, some t1) =>
      if seq = ptpSeq m then s.setPtp n (fun q => { q with peer := none, peerResp := some (seq, (rx : Int) - t1 + ptpTime m 34 - ptpCorrection m) }) else s
    | _ => s
  else
    match q.peerResp with
    | some (seq, v) =>
      if seq = ptpSeq m then (s.setPtp n (fun q => { q with peerResp := none })).ptpDelay n (roundDiv (v - ptpTime m 34 - ptpCorrection m) 2) else s
    | none => s

/-- A master's answer to a delay request (R67): the receive stamp on TB1. -/
def State.ptpAnswers (s : State) (n : Nat) (m : Octets) (rx : Nat) : State :=
  s.ptpSend n (s.ptpFrame n msgDelayResp 0 (ptpCorrection m - (rx % 65536 : Nat)) (ptpSeq m) (timeOctets rx ++ sliceO m 20 10))

/-- An end station's answer to a peer delay request; its Follow_Up goes out once it has been transmitted (R67). -/
def State.ptpAnswersPeer (s : State) (n : Nat) (m : Octets) (rx : Nat) : State :=
  s.ptpSend n (s.ptpFrame n msgPdelayResp 0x0200 (-(rx % 65536 : Nat)) (ptpSeq m) (timeOctets rx ++ sliceO m 20 10))

/-- Whether the engine takes a message: its version, its profile and its domain (R67). -/
def PlantCfg.ptpTakes (c : PlantCfg) (m : Octets) : Bool :=
  decide (34 ≤ m.length) && (u8 m 1).toNat % 16 == 2 && u8 m 4 == (if c.profileAs then 0 else c.domain)
    && (u8 m 0).toNat / 16 == (if c.profileAs then 1 else 0)

/-- The PTP engine takes a message (R67, R68). -/
def State.ptpHandle (s : State) (n : Nat) (m : Octets) (rx : Nat) : State :=
  let c := s.plantCfg n
  let type := ptpType m
  if !c.ptpTakes m then s
  else if type = msgAnnounce then
    if sliceO m 20 8 = s.clockId then s else (s.setPtp n (fun q => { q with announce := some (masterOf m) })).ptpChoose
  else if type = msgSync ∨ type = msgFollowUp then (if s.follows n then s.ptpFromMaster n m rx else s)
  else if c.profileAs then
    if type = msgPdelayReq then s.ptpAnswersPeer n m rx
    else if type = msgPdelayResp ∨ type = msgPdelayFollowUp then s.ptpPeer n m rx
    else s
  else if type = msgDelayReq then (if (s.plant n).portState = ptpMaster then s.ptpAnswers n m rx else s)
  else if type = msgDelayResp then (if s.follows n then s.ptpDelayResp n m else s)
  else s

/-- PTP_FRAME_RECEIVED (R67, R68): the engine takes an accepted PTP frame of a port, `place` telling which of those that wait (log entry 9). -/
def execPtpFrameReceived (port : Bool) (place : Nat) (s : State) : Host.Outcome State Fault Refusal :=
  let n := plantIndex port
  let t := s.plant n
  match t.ptpIn[place]? with
  | none => done s
  | some x =>
    let s := s.setPlant n { t with ptpIn := t.ptpIn.eraseIdx place }
    if s.plantOn n then done (s.ptpHandle n (ptpBody x.1) (s.eventRx n x.2)) else done s

/-- What follows from the transmission of a PTP event message, stamped on TB1 (R60, R62, R67): the Follow_Up of a Sync and of a peer response, and the departure of a request. -/
def State.ptpSent (s : State) (n : Nat) (frame : Octets) (tx : Nat) : State :=
  let m := ptpBody frame
  let as := (s.plantCfg n).profileAs
  match ptpType m with
  | 0x0 => s.ptpSend n (s.ptpFrame n msgFollowUp 0 (tx % 65536 : Nat) (ptpSeq m) (timeOctets tx ++ followTlv as))
  | 0x1 => s.setPtp n (fun q => { q with request := some (ptpSeq m, some (tx : Int)) })
  | 0x2 => s.setPtp n (fun q => { q with peer := some (ptpSeq m, some (tx : Int)) })
  | 0x3 => s.ptpSend n (s.ptpFrame n msgPdelayFollowUp 0 (tx % 65536 : Nat) (ptpSeq m) (timeOctets tx ++ sliceO m 44 10))
  | _ => s

/-- No Sync for the sync-loss time: TB1 goes to HOLDOVER (R68). As master, and before a master was selected, there is none to lose. -/
def execSyncLossTimeout (s : State) : Host.Outcome State Fault Refusal :=
  match s.tb.grandmaster with
  | none => done s
  | some _ =>
    if (s.tb.tb2.ns - s.tb.lastSync).toNat < s.cfg.syncLossMs * 1000000 then done s
    else
      let s := { s with tb := { s.tb with grandmaster := none } }
      let s := s.each [0, 1] (fun s n =>
        if s.follows n then (s.setPtp n (fun q => { q with announce := none, sync := none })).portState n ptpListening else s)
      match s.tb.tb1.mode with
      | .locked => done (s.setMode 1 .holdover)
      | .acquiring => done (s.setMode 1 .holdover)
      | _ => done s

/-- A message of a type leaves with its next sequenceId. -/
def State.ptpEmit (s : State) (n type flags : Nat) (body : Octets) : State :=
  let q := s.ptpNext n type
  q.2.ptpSend n (q.2.ptpFrame n type flags 0 q.1 body)

/-- The periodic messages of the PTP engine (R67): Announce and two-step Sync as master, peer delay requests of an 802.1AS end station, delay requests of a slave. A master-capable port that has heard no better master becomes MASTER. -/
def execPtpMessageInterval (port : Bool) (s : State) : Host.Outcome State Fault Refusal :=
  let n := plantIndex port
  let c := s.plantCfg n
  if !s.plantOn n then done s
  else
    let s := if c.masterCapable && !s.follows 0 && !s.follows 1 && (s.plant n).portState != ptpMaster then s.ptpChoose else s
    let s := if (s.plant n).portState = ptpMaster then
        (s.ptpEmit n msgAnnounce 0x0008 s.announceBody).ptpEmit n msgSync 0x0200 (List.replicate 10 0)
      else s
    done (if c.profileAs then s.ptpEmit n msgPdelayReq 0 (List.replicate 20 0)
      else if s.follows n then s.ptpEmit n msgDelayReq 0 (List.replicate 10 0) else s)

end Sys2Proof.Machine
end

