-- ==== Sys2Proof/Machine/Signature.lean ====
section
/-! DEFINITION. The signature of an image (R12, R366, R368): SHA-256 of FIPS 180-4 and the verification of ECDSA over the curve P-256 of FIPS 186-5. -/
namespace Sys2Proof.Machine

/-- The round constants of SHA-256. -/
def shaK : List W32 :=
  [0x428A2F98, 0x71374491, 0xB5C0FBCF, 0xE9B5DBA5, 0x3956C25B, 0x59F111F1, 0x923F82A4, 0xAB1C5ED5] ++
  [0xD807AA98, 0x12835B01, 0x243185BE, 0x550C7DC3, 0x72BE5D74, 0x80DEB1FE, 0x9BDC06A7, 0xC19BF174] ++
  [0xE49B69C1, 0xEFBE4786, 0x0FC19DC6, 0x240CA1CC, 0x2DE92C6F, 0x4A7484AA, 0x5CB0A9DC, 0x76F988DA] ++
  [0x983E5152, 0xA831C66D, 0xB00327C8, 0xBF597FC7, 0xC6E00BF3, 0xD5A79147, 0x06CA6351, 0x14292967] ++
  [0x27B70A85, 0x2E1B2138, 0x4D2C6DFC, 0x53380D13, 0x650A7354, 0x766A0ABB, 0x81C2C92E, 0x92722C85] ++
  [0xA2BFE8A1, 0xA81A664B, 0xC24B8B70, 0xC76C51A3, 0xD192E819, 0xD6990624, 0xF40E3585, 0x106AA070] ++
  [0x19A4C116, 0x1E376C08, 0x2748774C, 0x34B0BCB5, 0x391C0CB3, 0x4ED8AA4A, 0x5B9CCA4F, 0x682E6FF3] ++
  [0x748F82EE, 0x78A5636F, 0x84C87814, 0x8CC70208, 0x90BEFFFA, 0xA4506CEB, 0xBEF9A3F7, 0xC67178F2]

/-- The initial hash value of SHA-256. -/
def shaH : List W32 := [0x6A09E667, 0xBB67AE85, 0x3C6EF372, 0xA54FF53A, 0x510E527F, 0x9B05688C, 0x1F83D9AB, 0x5BE0CD19]

def bigEndian (o : Octets) : Nat := o.foldl (fun v x => v * 256 + x.toNat) 0

/-- The padded message: a one bit, zeros, and the length in bits in 8 octets. -/
def shaPad (o : Octets) : Octets :=
  o ++ [0x80] ++ List.replicate ((119 - o.length % 64) % 64) 0 ++ (leBytes 8 (8 * o.length)).reverse

/-- The first 16 words of a block, newest first. -/
def shaWords (o : Octets) : List W32 := (upto 16).foldl (fun l i => BitVec.ofNat 32 (bigEndian (sliceO o (4 * i) 4)) :: l) []

def shaSmall0 (x : W32) : W32 := x.rotateRight 7 ^^^ x.rotateRight 18 ^^^ (x >>> 3)
def shaSmall1 (x : W32) : W32 := x.rotateRight 17 ^^^ x.rotateRight 19 ^^^ (x >>> 10)
def shaBig0 (x : W32) : W32 := x.rotateRight 2 ^^^ x.rotateRight 13 ^^^ x.rotateRight 22
def shaBig1 (x : W32) : W32 := x.rotateRight 6 ^^^ x.rotateRight 11 ^^^ x.rotateRight 25

/-- The message schedule of a block: 64 words. -/
def shaSchedule (o : Octets) : List W32 :=
  ((upto 48).foldl (fun l _ =>
    (shaSmall1 (l.getD 1 0) + l.getD 6 0 + shaSmall0 (l.getD 14 0) + l.getD 15 0) :: l) (shaWords o)).reverse

/-- A round on the working variables a to h. -/
def shaRound (v : List W32) (k w : W32) : List W32 :=
  match v with
  | [a, b, c, d, e, f, g, h] =>
    let t1 := h + shaBig1 e + ((e &&& f) ^^^ (~~~e &&& g)) + k + w
    let t2 := shaBig0 a + ((a &&& b) ^^^ (a &&& c) ^^^ (b &&& c))
    [t1 + t2, a, b, c, d + t1, e, f, g]
  | _ => v

def shaBlock (h : List W32) (o : Octets) : List W32 :=
  List.zipWith (· + ·) h ((shaK.zip (shaSchedule o)).foldl (fun v e => shaRound v e.1 e.2) h)

/-- The SHA-256 digest as a number, its first octet the most significant. -/
def sha256 (o : Octets) : Nat :=
  let p := shaPad o
  ((upto (p.length / 64)).foldl (fun h i => shaBlock h (sliceO p (64 * i) 64)) shaH).foldl (fun v x => v * 2 ^ 32 + x.toNat) 0

def p256P : Nat := 0xFFFFFFFF00000001000000000000000000000000FFFFFFFFFFFFFFFFFFFFFFFF
def p256N : Nat := 0xFFFFFFFF00000000FFFFFFFFFFFFFFFFBCE6FAADA7179E84F3B9CAC2FC632551
def p256B : Nat := 0x5AC635D8AA3A93E7B3EBBD55769886BC651D06B0CC53B0F63BCE3C3E27D2604B
def p256X : Nat := 0x6B17D1F2E12C4247F8BCE6E563A440F277037D812DEB33A0F4A13945D898C296
def p256Y : Nat := 0x4FE342E2FE1A7F9B8EE7EB4A7C0F9E162BCE33576B315ECECBB6406837BF51F5

/-- x to the power e modulo m, over `bits` bits of e, most significant first. -/
def powMod (m x e bits : Nat) : Nat :=
  ((upto bits).reverse).foldl (fun r i => let r := r * r % m; if e.testBit i then r * x % m else r) 1

/-- Inverse modulo a prime m. -/
def invMod (m x : Nat) : Nat := powMod m (x % m) (m - 2) 256

/-- A point of P-256 in Jacobian coordinates; z = 0 is the point at infinity. -/
structure EcPoint where
  x : Nat := 1
  y : Nat := 1
  z : Nat := 0
  deriving DecidableEq, Repr

/-- a − b modulo p. -/
def subP (a b : Nat) : Nat := (a + p256P - b % p256P) % p256P

def EcPoint.double (q : EcPoint) : EcPoint :=
  let zz := q.z * q.z % p256P
  let yy := q.y * q.y % p256P
  let m := 3 * (subP q.x zz * (q.x + zz) % p256P) % p256P
  let s := 4 * q.x * yy % p256P
  let x := subP (m * m) (2 * s)
  { x := x, y := subP (m * subP s x) (8 * yy * yy), z := 2 * q.y * q.z % p256P }

def EcPoint.add (a b : EcPoint) : EcPoint :=
  if a.z = 0 then b
  else if b.z = 0 then a
  else
    let az := a.z * a.z % p256P
    let bz := b.z * b.z % p256P
    let u1 := a.x * bz % p256P
    let u2 := b.x * az % p256P
    let s1 := a.y * bz * b.z % p256P
    let s2 := b.y * az * a.z % p256P
    if u1 = u2 then (if s1 = s2 then a.double else {})
    else
      let h := subP u2 u1
      let r := subP s2 s1
      let hh := h * h % p256P
      let hhh := h * hh % p256P
      let v := u1 * hh % p256P
      let x := subP (r * r) (hhh + 2 * v)
      { x := x, y := subP (r * subP v x) (s1 * hhh), z := h * a.z * b.z % p256P }

/-- k times a point. -/
def EcPoint.times (q : EcPoint) (k : Nat) : EcPoint :=
  ((upto 256).reverse).foldl (fun r i => let r := r.double; if k.testBit i then r.add q else r) {}

/-- Whether x and y are a point of the curve. -/
def onCurve (x y : Nat) : Bool :=
  decide (x < p256P) && decide (y < p256P) && y * y % p256P == (x * x * x + (p256P - 3) * x + p256B) % p256P

/-- Whether an ECDSA P-256 signature over the SHA-256 digest of a message verifies against a public key: its x in the upper half of 512 bits, its y in the lower (R366, R372). The signature is r, then s, each of 32 octets, most significant first (R365). -/
def signatureVerifies (msg : Octets) (key : BitVec 512) (sig : Octets) : Bool :=
  let r := bigEndian (sliceO sig 0 32)
  let s := bigEndian (sliceO sig 32 32)
  let x := key.toNat / 2 ^ 256
  let y := key.toNat % 2 ^ 256
  let w := invMod p256N s
  let g : EcPoint := { x := p256X, y := p256Y, z := 1 }
  let t := (g.times (sha256 msg * w % p256N)).add (({ x := x, y := y, z := 1 } : EcPoint).times (r * w % p256N))
  let zi := invMod p256P t.z
  decide (1 ≤ r) && decide (r < p256N) && decide (1 ≤ s) && decide (s < p256N) && onCurve x y
    && t.z != 0 && (t.x * (zi * zi % p256P) % p256P) % p256N == r

end Sys2Proof.Machine
end

