-- ==== Sys2Proof/Machine/Store.lean ====
section
/-! DEFINITION. The store die and the catalogue (R363 to R374): copies and their tests, owner keys, firmware images, and a catalogue coming into force (R37, R70, R323, R370). -/
namespace Sys2Proof.Machine

/-- Images of the store: catalogue A and B, firmware A and B (R363). -/
def imageBase (i : Nat) : Nat := if i < 2 then i * 0x800000 else 0x1000000 + (i - 2) * 0x400000
def imageArea (i : Nat) : Nat := if i < 2 then 0x800000 else 0x400000

def State.storeRead (s : State) (a len : Nat) : Octets := (upto len).map (fun i => Table.get 0 s.cat.store (a + i))

def State.storeWrite (s : State) (a : Nat) (o : Octets) : State :=
  { s with cat := { s.cat with store := (o.zipIdx a).foldl (fun m x => Table.put 0 m x.2 x.1) s.cat.store } }

/-- A store failure (R364): counted, with its address. -/
def State.storeError (s : State) (a : W32) : State :=
  let s := { s with cat := { s.cat with storeErrors := inc s.cat.storeErrors } }
  s.raise { code := 0x1002, source := srcCat, data := a }

def State.copyStat (s : State) (i : Nat) : CopyStat := Table.get {} s.cat.copies i
def State.setCopyStat (s : State) (i : Nat) (v : CopyStat) : State := { s with cat := { s.cat with copies := Table.put {} s.cat.copies i v } }
def State.ownerKey (s : State) (k : Nat) : OwnerKey := Table.get {} s.cat.keys k

/-- The length field of an image, and its octets (R365). -/
def State.imageLength (s : State) (i : Nat) : Nat := fieldO (s.storeRead (imageBase i) 512) 8 4
def State.image (s : State) (i : Nat) : Octets := s.storeRead (imageBase i) (s.imageLength i)

def zeroed (o : Octets) (off len : Nat) : Octets := spliceO o off (List.replicate len 0)

/-- What the crc covers (R366). -/
def crcCover (o : Octets) : Octets := zeroed o 12 12

/-- What the signature covers (R366). -/
def signCover (o : Octets) : Octets := zeroed (zeroed o 12 12) 32 64

/-- A directory entry (R365). -/
structure Section where
  type : Nat := 0
  off : Nat := 0
  len : Nat := 0
  deriving DecidableEq, Repr

def directory (o : Octets) : List Section :=
  (upto (min (fieldO o 6 2) 32)).map (fun i => { type := fieldO o (128 + 12 * i) 2, off := fieldO o (132 + 12 * i) 4, len := fieldO o (136 + 12 * i) 4 })

/-- The directory of an image (R366, R367); the types of firmware sections are not given and not tested. -/
def sectionsGood (fw : Bool) (o : Octets) : Bool :=
  let d := directory o
  let n := fieldO o 6 2
  let ts := d.map (·.type)
  decide (1 ≤ n) && decide (n ≤ 32)
    && d.all (fun e => e.off % 64 == 0 && decide (512 ≤ e.off) && decide (e.off + e.len ≤ fieldO o 8 4))
    && runsApart (d.map (fun e => (e.off, e.len)))
    && (fw || (distinct ts && ts.all (fun t => decide (1 ≤ t) && decide (t ≤ 11)) && [1, 2, 3, 4, 5, 6, 7, 8].all (fun t => ts.contains t)))

/-- The SAFETY section's own octets (R370). -/
def safetyOctets (o : Octets) : Octets :=
  match (directory o).find? (fun e => e.type == 7) with
  | some e => sliceO o e.off e.len
  | none => []

/-- T_exp and T_wd in force (R256): those of the catalogue, else 3 spans on a ring and 3 send periods on a plant port. -/
def ConnCfg.settled (c : ConnCfg) (spanNs : Nat) : ConnCfg :=
  let d := 3 * (if c.plant then c.periodUs * 1000 else spanNs)
  { c with tExpNs := c.tExp.getD d, tWdNs := c.tWd.getD d }

/-- The catalogue that an image spells, with the defaults of its connections and the CRC of its safety section (R233, R256, R367). -/
def catalogueOf (o : Octets) : Catalogue :=
  let c := Config.sectionsOf o
  let conns := c.safety.conns.foldl (fun t e => Table.put {} t e.1 (e.2.settled (spanLength c.spanCode))) []
  { c with inForce := true, safety := { c.safety with sectionCrc := crc32c (safetyOctets o), conns := conns } }

/-- The key changes of a KEYS section applied one after another; none where one breaks R372. -/
def applyKeys (slot : Nat) (keys : Table OwnerKey) : List KeyChange → Option (Table OwnerKey)
  | [] => some keys
  | .place k v :: t =>
    if (Table.get {} keys k.toNat).state = .empty then applyKeys slot (Table.put {} keys k.toNat { state := .active, key := v }) t else none
  | .revoke k :: t =>
    let o := Table.get {} keys k.toNat
    if o.state = .active ∧ k.toNat ≠ slot then applyKeys slot (Table.put {} keys k.toNat { o with state := .revoked }) t else none

/-- The key that a KEYS section places into a slot. -/
def placedKey (slot : Nat) (l : List KeyChange) : Option (BitVec 512) :=
  l.findSome? (fun c => match c with | .place k v => if k.toNat = slot then some v else none | .revoke _ => none)

def State.noKeyActive (s : State) : Bool := (upto 16).all (fun k => (s.ownerKey k).state != .active)

/-- The key that an image is verified against: the owner key it names, or on a unit without one the key its KEYS section places (R368, R372); Maelengo's for firmware (R373). -/
def State.imageKey (s : State) (fw : Bool) (o : Octets) : Option (BitVec 512) :=
  if fw then some Config.firmwareKey
  else
    let k := (u8 o 24).toNat
    if s.noKeyActive then (if k < 16 then placedKey k (Config.sectionsOf o).keys else none)
    else if k < 16 ∧ (s.ownerKey k).state = .active then some (s.ownerKey k).key else none

def completeWord : W32 := 0xA5C35A3C

/-- The reason of R368 for an image. A commit leaves out the tests INCOMPLETE and CRC (R371). -/
def State.imageReason (s : State) (i : Nat) (commit : Bool) : Byte :=
  let fw := decide (2 ≤ i)
  let h := s.storeRead (imageBase i) 512
  let len := s.imageLength i
  if !commit && u32 h 20 != completeWord then 1
  else if u32 h 0 ≠ (if fw then 0x57544D46 else 0x47544143) then 2
  else if (u16 h 4).toNat = 0 ∨ s.cat.formatMax.toNat < (u16 h 4).toNat then 3
  else if len % 64 ≠ 0 ∨ len < 4096 ∨ imageArea i < len then 4
  else
    let o := s.image i
    if !commit && u32 h 16 != crc32c (crcCover o) then 5
    else match s.imageKey fw o with
      | none => 6
      | some k =>
        if !signatureVerifies (signCover o) k (sliceO o 32 64) then 7
        else if !sectionsGood fw o then 8
        else if !fw && !((catalogueOf o).withinLimits && Config.contentGood o && (applyKeys (u8 o 24).toNat s.cat.keys (Config.sectionsOf o).keys).isSome) then 9
        else 0

/-- The registers of an image after its header has been read and tested (R374). -/
def State.recordImage (s : State) (i : Nat) (reason : Byte) : State :=
  let h := s.storeRead (imageBase i) 512
  s.setCopyStat i {
    valid := reason == 0, complete := u32 h 20 == completeWord, reason := reason
    keySlot := if 2 ≤ i then 0 else (u8 h 24).setWidth 4, seq := u32 h 12, length := u32 h 8, crc := u32 h 16 }

/-- An image under the loader or the boot ROM: a failed read makes it invalid with STORE_ECC (R364). -/
def State.testImage (s : State) (i : Nat) (io : StoreIo) : State × Bool :=
  let bad := match io.failed with
    | some a => decide (imageBase i ≤ a.toNat) && decide (a.toNat < imageBase i + imageArea i)
    | none => false
  if bad then ((s.recordImage i 10).storeError (io.failed.getD 0), false)
  else
    let r := s.imageReason i false
    (s.recordImage i r, r == 0)

/-- Serial order: whether a is newer than b (R369). -/
def newer (a b : W32) : Bool := decide (0 < (a - b).toInt)

/-- The copy in force of two (R369), and whether the order is ambiguous. -/
def pickCopy (va vb : Bool) (a b : W32) : Option Bool × Bool :=
  if va && vb then
    (if a = b ∨ a - b = 0x80000000 then (some false, true) else (some (newer b a), false))
  else if va then (some false, false) else if vb then (some true, false) else (none, false)

/-- Code and descriptors go to the memories (R323, R367); words that are written whole lose their poison (R404). -/
def State.loadCode (s : State) : State :=
  let s := { s with mem := (s.cfg.code : List (Nat × Byte)).foldl (fun m e => Table.put 0 m e.1 e.2) s.mem }
  let s := (s.cfg.code : List (Nat × Byte)).foldl (fun s e => s.setPoison (16 * (e.1 / 16)) false) s
  (s.cfg.descs : List (Nat × Desc)).foldl (fun s e => (s.writeMem (s.descTable + 32 * e.1) e.2.octets).1) s

/-- The role of a unit whose catalogue has come into force (R375, R376): a pair decides who is ACTIVE on the rings. -/
def State.startRole (s : State) : State :=
  { s with red := { s.red with role := if s.cfg.pair.pair then .passive else .single } }

/-- Plant ports listen once their catalogue enables them (R67, R70; log entry 21). -/
def State.startPlants (s : State) : State :=
  s.each [0, 1] (fun s n => s.setPlant n { s.plant n with portState := if (s.plantCfg n).enable then ptpListening else 3 })

/-- A link port that the catalogue disables ignores its receiver (R70): its link goes down (R71). -/
def State.dropPorts (s : State) : State :=
  s.each (upto 32) (fun s n =>
    let o := s.port n
    if (s.portCfg n).enabled || !(o.linkUp || o.pcsSync) then s
    else s.setPort n { o with
      pcsSync := false, linkUp := false, request := none
      linkDowns := if o.linkUp then inc o.linkDowns else o.linkDowns })

/-- A copy comes into force (R37): LOADED, with what the sections set, and INTEGRATING where auto-integrate is set. -/
def State.intoForce (s : State) (copy : Bool) (kind : Byte) (opcode : W16) : State :=
  let old := s
  let o := s.image (b2n copy)
  let st := s.copyStat (b2n copy)
  let c := catalogueOf o
  let s := { s with
    cfg := c
    cat := { s.cat with loaded := true, copy := copy, curSeq := st.seq, curCrc := st.crc }
    pwr := { s.pwr with wdTimeoutMs := c.watchdogMs.getD 100, loadedMs := BitVec.ofNat 16 (min ((s.tb.tb2.ns - s.pwr.releasedAt).toNat / 1000000) 0xFFFE) }
    saf := { s.saf with loadedA := true, sectionA := c.safety.sectionCrc, conns := [], outConns := [], raw := [] } }
  let s := (s.loadCode.startRole.startPlants.dropPorts).setCell .loaded kind 0 opcode
  let s := s.each (upto 8) State.axSettle
  let s := s.settle old
  if c.autoIntegrate then s.setCell .integrating 0xFE 0 0 else s

/-- Data of a catalogue event: the copy in the low octet; the rest is not stated (log entry 21). -/
def State.raiseCat (s : State) (n : Nat) : State :=
  let d := s.draw 24
  d.2.raise { code := 0x1001, source := srcCat, data := (d.1 ++ BitVec.ofNat 8 n : BitVec 32) }

/-- CATALOGUE_LOAD (R368, R369): both copies tested, one brought into force. With none the cell stays UNCATALOGUED. -/
def execCatalogueLoad (io : StoreIo) (s : State) : Host.Outcome State Fault Refusal :=
  if s.dev.cell ≠ .uncatalogued || s.pwr.inReset || s.pwr.dormant || !s.vc.regRunning then done s
  else
    let a := s.testImage 0 io
    let b := a.1.testImage 1 io
    let s := b.1
    let p := pickCopy a.2 b.2 (s.copyStat 0).seq (s.copyStat 1).seq
    match p.1 with
    | none => done { s with pwr := { s.pwr with loadedMs := 0xFFFF } }
    | some c =>
      let s := if p.2 then s.raiseCat 0 else s
      done ((s.raiseCat (b2n c)).intoForce c 0xFE 0)

/-- The image in use of catalogue or firmware: its index, if any. -/
def State.inUse (s : State) (fw : Bool) : Option Nat :=
  if fw then (if s.vc.regRunning then some (2 + b2n s.vc.regImage) else none) else if s.cat.loaded then some (b2n s.cat.copy) else none

/-- The target of a write: the image not in use, or image B (R371, R373). -/
def State.target (s : State) (fw : Bool) : Nat :=
  match s.inUse fw with
  | some i => (if fw then 2 else 0) + (1 - i % 2)
  | none => if fw then 3 else 1

def State.targetOpen (s : State) (fw : Bool) : Bool := if fw then s.cat.fwTargetOpen else s.cat.targetOpen

def State.setTargetOpen (s : State) (fw v : Bool) : State :=
  if fw then { s with cat := { s.cat with fwTargetOpen := v } }
  else { s with cat := { s.cat with targetOpen := v, target := (s.target false) == 1 } }

/-- The octets that a failed access at an address leaves done: those before it (R364; log entry 21). -/
def upToFailure (io : StoreIo) (a : Nat) (o : Octets) : Octets :=
  match io.failed with
  | some f => o.take (f.toNat - a)
  | none => o

/-- Opens the target: its complete field becomes 0 first (R371). -/
def State.openTarget (s : State) (fw : Bool) : State :=
  let t := s.target fw
  let s := s.storeWrite (imageBase t + 20) [0, 0, 0, 0]
  (s.setCopyStat t { s.copyStat t with complete := false }).setTargetOpen fw true

/-- What a write at an image offset stores: the host's octets, but those of the header's device fields, 12 to 23, stay as they are (R365). -/
def State.writtenOctets (s : State) (t off : Nat) (o : Octets) : Octets :=
  if off = 0 then spliceO o 12 (s.storeRead (imageBase t + 12) 12) else o

/-- CAT_WRITE and FW_WRITE (R371, R373). -/
def State.imageWrite (s : State) (p : Packet) (op : W16) (fw : Bool) (io : StoreIo) : State :=
  let first := param p.params 0 2
  let n := param p.params 2 2
  let off := param p.params 4 4
  let flag := param p.params 8 1
  let good := unusedZero p.params [(0, 2), (2, 2), (4, 4), (8, 1)] && within 1 2048 n && decide (off % 4096 = 0) && decide (flag < 2)
    && decide (first + n ≤ 65536) && decide (off + 4096 * n ≤ imageArea (if fw then 2 else 0))
  serve s p op good (lotRun first n) fun s =>
    if flag = 0 ∧ ¬ s.targetOpen fw then reject s stWrongState
    else
      let t := s.target fw
      let head := imageBase t + 20
      let opens := flag = 1
      let failHead := opens && (match io.failed with | some a => decide (head ≤ a.toNat) && decide (a.toNat < head + 4) | none => false)
      if failHead then .answer (s.storeError (io.failed.getD 0)) { status := stStoreError }
      else
        let s := if opens then s.openTarget fw else s
        let r := s.readMem (lotAddr first) (4096 * n)
        if r.2.2 then .answer (r.1.enginePoison srcCat) { status := stFailed }
        else
          let a := imageBase t + off
          let s := r.1.storeWrite a (upToFailure io a (s.writtenOctets t off r.2.1))
          match io.failed with
          | some f => .answer (s.storeError f) { status := stStoreError }
          | none => .answer s { r0 := BitVec.ofNat 32 (4096 * n) }

/-- CAT_WRITE (R371). -/
def execCatWrite (p : Packet) (io : StoreIo) (s : State) : Host.Outcome State Fault Refusal := done (s.imageWrite p 0x0101 false io)

/-- FW_WRITE (R373). -/
def execFwWrite (p : Packet) (io : StoreIo) (s : State) : Host.Outcome State Fault Refusal := done (s.imageWrite p 0x0105 true io)

/-- CAT_VERIFY (R371): crc and length of the open target. The crc over a length beyond the area is not stated (log entry 21). -/
def execCatVerify (p : Packet) (io : StoreIo) (s : State) : Host.Outcome State Fault Refusal :=
  done (serve s p 0x0102 (unusedZero p.params []) [] fun s =>
    if !s.cat.targetOpen then reject s stWrongState
    else match io.failed with
      | some f => .answer (s.storeError f) { status := stStoreError }
      | none =>
        let t := s.target false
        let len := s.imageLength t
        if imageArea 0 < len then
          let d := s.draw 32
          .answer d.2 { r0 := d.1, r1 := BitVec.ofNat 32 len }
        else .answer s { r0 := crc32c (crcCover (s.image t)), r1 := BitVec.ofNat 32 len })

/-- A commit that fails (R371): complete stays 0, and the commit is counted. -/
def State.commitFails (s : State) (t : Nat) (reason : Byte) (st : W16) : Served :=
  let s := if reason = 0 then s else s.setCopyStat t { s.copyStat t with valid := false, reason := reason }
  .answer { s with cat := { s.cat with rejected := inc s.cat.rejected } } { status := st }

/-- The header of a committed image: seq, crc, then complete (R371). -/
def State.commitHeader (s : State) (t : Nat) (seq crc : W32) : State :=
  let b := imageBase t
  let s := ((s.storeWrite (b + 12) (leBytes 4 seq.toNat)).storeWrite (b + 16) (leBytes 4 crc.toNat)).storeWrite (b + 20) (leBytes 4 completeWord.toNat)
  s.recordImage t 0

/-- CAT_COMMIT and FW_COMMIT (R371 to R373). -/
def State.commit (s : State) (p : Packet) (op : W16) (fw : Bool) (io : StoreIo) : State :=
  let crc := BitVec.ofNat 32 (param p.params 0 4)
  serve s p op (unusedZero p.params [(0, 4)]) [] fun s =>
    let t := s.target fw
    let o := s.image t
    let reason := s.imageReason t true
    let install := !fw && s.noKeyActive && (placedKey (u8 o 24).toNat (Config.sectionsOf o).keys).isSome
    if !s.targetOpen fw then reject s stWrongState
    else if !fw && !(s.dev.cell == .uncatalogued || s.dev.cell == .loaded) then reject s stWrongState
    else match io.failed with
    | some f => .answer (s.storeError f) { status := stStoreError }
    | none =>
      if [2, 3, 4, 6].contains reason then s.commitFails t reason stFailed
      else if install && !s.hq.service then reject s stWrongState
      else if reason = 7 then s.commitFails t reason stBadSignature
      else if reason ≠ 0 then s.commitFails t reason stFailed
      else if crc ≠ crc32c (crcCover o) then s.commitFails t 0 stCheckMismatch
      else
        let seq := match s.inUse fw with
          | some i => u32 (s.storeRead (imageBase i) 512) 12 + 1
          | none => 1
        let keys := if fw then s.cat.keys else (applyKeys (u8 o 24).toNat s.cat.keys (Config.sectionsOf o).keys).getD s.cat.keys
        let s := s.setTargetOpen fw false
        let s := { s with cat := { s.cat with keys := keys, commits := inc s.cat.commits } }
        let s := s.commitHeader t seq crc
        let s := if install then s.raiseCat (u8 o 24).toNat else s
        let s := if fw then s else s.intoForce (t == 1) 0 op
        .answer s { r0 := seq }

/-- CAT_COMMIT (R371, R372). -/
def execCatCommit (p : Packet) (io : StoreIo) (s : State) : Host.Outcome State Fault Refusal := done (s.commit p 0x0103 false io)

/-- FW_COMMIT (R373): for use at the next core-die reset. -/
def execFwCommit (p : Packet) (io : StoreIo) (s : State) : Host.Outcome State Fault Refusal := done (s.commit p 0x0106 true io)

/-- CAT_READ (R353, R371). -/
def execCatRead (p : Packet) (io : StoreIo) (s : State) : Host.Outcome State Fault Refusal :=
  let c := param p.params 0 1
  let first := param p.params 2 2
  let n := param p.params 4 2
  let off := param p.params 8 4
  let good := unusedZero p.params [(0, 1), (2, 2), (4, 2), (8, 4)] && decide (c < 2) && decide (1 ≤ n) && decide (first + n ≤ 65536)
    && decide (off + 4096 * n ≤ imageArea 0)
  done (serve s p 0x0104 good (lotRun first n) fun s =>
    let a := imageBase c + off
    let o := upToFailure io a (s.storeRead a (4096 * n))
    let s := s.copyMem (lotAddr first) o false
    match io.failed with
    | some f => .answer (s.storeError f) { status := stStoreError }
    | none => .answer s { r0 := BitVec.ofNat 32 (4096 * n) })

/-- The boot ROM selects the firmware (R373): the newer valid image, else the other with fw_fallback where the image that failed is complete and newer. -/
def State.bootFirmware (s : State) (io : StoreIo) : State :=
  let a := s.testImage 2 io
  let b := a.1.testImage 3 io
  let s := b.1
  let ca := s.copyStat 2
  let cb := s.copyStat 3
  match (pickCopy a.2 b.2 ca.seq cb.seq).1 with
  | none => { s with vc := { s.vc with regRunning := false, regImage := false, regMajor := 0, regMinor := 0 }, cat := { s.cat with fwFallback := false } }
  | some i =>
    let v := Config.firmwareVersion (s.image (2 + b2n i))
    let back := if i then !a.2 && ca.complete && newer ca.seq cb.seq else !b.2 && cb.complete && newer cb.seq ca.seq
    { s with vc := { s.vc with regRunning := true, regImage := i, regMajor := v.extractLsb' 8 8, regMinor := v.setWidth 8 }
             cat := { s.cat with fwFallback := back } }

end Sys2Proof.Machine
end

