-- ==== Sys2Proof/Machine/Events.lean ====
section
/-! DEFINITION. The event unit, the event log and EVT_READ (R423 to R429). -/
namespace Sys2Proof.Machine

/-- The 32 octets of a record (R423). -/
def Record.octets (r : Record) : Octets :=
  leBytes 4 r.seq.toNat ++ leBytes 4 r.span.toNat ++ leBytes 4 r.ns32.toNat ++ leBytes 8 r.tb2.toNat ++ leBytes 2 r.code.toNat
    ++ [r.source, r.flags] ++ leBytes 4 r.data.toNat ++ leBytes 4 r.cause.toNat

def State.evtThreshold (s : State) : Nat := (s.cfg.threshold.getD 1).toNat

def bufferSize : Nat := 1024
def logSize : Nat := 65536

/-- A record takes its seq and joins the buffer (R425); vector 18 under R429. A record of the Parapet takes its TB2 here (R424); that of a REFCLK fault carries the last TB2 value before it (R48). -/
def State.sequence (s : State) (r : Record) : State :=
  let e := s.evt
  let r := { r with seq := e.nextSeq, tb2 := if r.flags.getLsbD 4 && r.code != 0x0201 then s.tb.tb2.ns else r.tb2 }
  let reach := decide (s.evtThreshold ≤ (e.nextSeq + 1 - e.reference).toNat) && !e.raised
  let s := { s with evt := { e with nextSeq := e.nextSeq + 1, last := r, buffer := e.buffer ++ [r], raised := e.raised || reach } }
  if reach || decide (2 ≤ r.flags.toNat % 8) then s.vector 18 else s

/-- The record of the events that were lost (R427). -/
def State.lostRecord (s : State) : Record :=
  s.record { code := 0x1201, source := srcEvt, data := BitVec.ofNat 32 s.evt.lostDue } 1

/-- EVENT_SEQUENCED (R425, R427): the head of the queues is sequenced; while the buffer is full it is counted and dropped; when room returns, one record tells how many were lost. -/
def execEventSequenced (s : State) : Host.Outcome State Fault Refusal :=
  if s.pwr.inReset || s.pwr.dormant then done s
  else if s.evt.buffer.length < bufferSize then
    if s.evt.lostDue ≠ 0 then
      let r := s.lostRecord
      done (({ s with evt := { s.evt with lostDue := 0 } } : State).sequence r)
    else match s.evt.queue with
      | [] => done s
      | r :: rest => done (({ s with evt := { s.evt with queue := rest } } : State).sequence r)
  else match s.evt.queue with
    | [] => done s
    | _ :: rest => done { s with evt := { s.evt with queue := rest, lost := inc s.evt.lost, lostDue := s.evt.lostDue + 1 } }

/-- A record goes into the log, over the oldest when it is full (R427). -/
def EvtState.store (e : EvtState) (r : Record) : EvtState :=
  let first := e.log.isEmpty
  let full := decide (logSize ≤ e.log.length)
  let log := if full then Table.drop e.log e.oldestSeq.toNat else e.log
  { e with log := Table.put {} log r.seq.toNat r, oldestSeq := if first then r.seq else if full then e.oldestSeq + 1 else e.oldestSeq }

/-- EVENT_LOG_WRITE (R427): the oldest record of the buffer; a failed write is a store error and the record waits. -/
def execEventLogWrite (io : StoreIo) (s : State) : Host.Outcome State Fault Refusal :=
  if s.pwr.inReset || s.pwr.dormant then done s
  else match s.evt.buffer with
  | [] => done s
  | r :: rest =>
    match io.failed with
    | some a => done (s.storeError a)
    | none => done { s with evt := { s.evt.store r with buffer := rest } }

/-- The whole buffer goes into the log (R444, R448). -/
def State.flushEvents (s : State) : State :=
  { s with evt := { s.evt.buffer.foldl EvtState.store s.evt with buffer := [] } }

/-- The oldest record that EVT_READ can copy; none where there is no record. -/
def EvtState.oldest (e : EvtState) : Option W32 :=
  if e.log.isEmpty then e.buffer.head?.map (·.seq) else some e.oldestSeq

/-- A sequenced record by its seq. -/
def EvtState.find (e : EvtState) (q : W32) : Record :=
  match e.buffer.find? (fun r => r.seq == q) with
  | some r => r
  | none => Table.get {} e.log q.toNat

/-- EVT_READ (R428): records in seq order, from the requested one or the oldest, until the lots are full or the newest has been copied. -/
def execEvtRead (p : Packet) (s : State) : Host.Outcome State Fault Refusal :=
  let from_ := BitVec.ofNat 32 (param p.params 0 4)
  let first := param p.params 4 2
  let n := param p.params 6 2
  let good := unusedZero p.params [(0, 4), (4, 2), (6, 2)] && decide (1 ≤ n) && decide (first + n ≤ 65536)
  done (serve s p 0x0702 good (lotRun first n) fun s =>
    match s.evt.oldest with
    | none => reject s stNoData
    | some o =>
      let start := if (from_ - o).toInt < 0 then o else from_
      if 0 ≤ (start - s.evt.nextSeq).toInt then reject s stNoData
      else
        let k := min (128 * n) (s.evt.nextSeq - start).toNat
        let rs := (upto k).map (fun i => s.evt.find (start + BitVec.ofNat 32 i))
        let next := start + BitVec.ofNat 32 k
        let s := s.copyMem (lotAddr first) (rs.flatMap Record.octets) false
        .answer { s with evt := { s.evt with reference := next, raised := false } } { r0 := BitVec.ofNat 32 k, r1 := next })

end Sys2Proof.Machine
end

