-- ==== Sys2Proof/Machine/Host.lean ====
section
/-! DEFINITION. The host interface (R340 to R362): identity and service mode, queues and doorbells, lots and the shared window, resets of the PCIe function and link. -/
namespace Sys2Proof.Machine

/-- Whether the host reaches the BARs (R340, R445). -/
def State.hostMay (s : State) : Bool := s.hq.linkUp && s.hq.hostReady && !s.pwr.inReset && !s.pwr.dormant

/-- DEV_ID (R45). -/
def devId : W32 := 0x80645C16

/-- VC_REG_STAT (R322). -/
def State.vcRegStat (s : State) : W32 :=
  word [(b2n s.vc.regRunning, 31), (b2n s.vc.regImage, 30), (s.vc.regMajor.toNat, 8), (s.vc.regMinor.toNat, 0)]

/-- DEV_NOP (R353). -/
def execDevNop (p : Packet) (s : State) : Host.Outcome State Fault Refusal :=
  done (serve s p 0x0001 (unusedZero p.params []) [] fun s => .answer s { r0 := s.span32 })

/-- DEV_INFO (R353). -/
def execDevInfo (p : Packet) (s : State) : Host.Outcome State Fault Refusal :=
  done (serve s p 0x0002 (unusedZero p.params []) [] fun s =>
    .answer s { r0 := devId, r1 := s.dev.stepping, r2 := s.vcRegStat, r3 := s.cat.curSeq })

/-- DEV_SERVICE (R341). -/
def execDevService (p : Packet) (s : State) : Host.Outcome State Fault Refusal :=
  let v := param p.params 0 1
  done (serve s p 0x0004 (unusedZero p.params [(0, 1)] && decide (v < 2)) [] fun s =>
    let may := s.dev.cell == .uncatalogued || s.dev.cell == .loaded || s.dev.cell == .parked
    if v = 0 then .answer { s with hq := { s.hq with service := false } } {}
    else if may then .answer { s with hq := { s.hq with service := true } } {}
    else reject s stWrongState)

/-- Lots of a run, 0 standing for 65,536 (R353). -/
def runLength (n : Nat) : Nat := if n = 0 then 65536 else n

/-- LOT_GRANT (R357): all or nothing. -/
def execLotGrant (p : Packet) (s : State) : Host.Outcome State Fault Refusal :=
  let first := param p.params 0 2
  let n := runLength (param p.params 2 2)
  done (serve s p 0x0801 (unusedZero p.params [(0, 2), (2, 2)] && decide (first + n ≤ 65536)) [] fun s =>
    let l := lotRun first n
    if l.all (fun i => s.lot i == 1) then .answer (s.each l (fun s i => s.setLot i 2)) { r0 := BitVec.ofNat 32 n }
    else reject s stLotNotOwned)

/-- Whether a command in progress names a lot. -/
def State.lotInUse (s : State) (l : Nat) : Bool :=
  s.hq.queues.any (fun e => match e.2.busy with | some c => c.lots.contains l | none => false)

/-- LOT_RELEASE (R357): a released LOCKED lot leaves its pool. -/
def execLotRelease (p : Packet) (s : State) : Host.Outcome State Fault Refusal :=
  let first := param p.params 0 2
  let n := runLength (param p.params 2 2)
  done (serve s p 0x0802 (unusedZero p.params [(0, 2), (2, 2)] && decide (first + n ≤ 65536)) [] fun s =>
    let l := (lotRun first n).filter (fun i => (s.lot i == 2 || s.lot i == 3) && !s.lotInUse i)
    let s := s.each l (fun s i => s.setLot i 1)
    .answer { s with hq := { s.hq with pool0 := s.hq.pool0.filter (fun i => !l.contains i), pool1 := s.hq.pool1.filter (fun i => !l.contains i) } }
      { r0 := BitVec.ofNat 32 l.length })

/-- The ring sizes of a write of HQ_CQn_CFG (R361). -/
def sqField (v : W32) : BitVec 4 := v.setWidth 4
def rqField (v : W32) : BitVec 4 := v.extractLsb' 4 4
def ringSize (k : BitVec 4) : Bool := decide (4 ≤ k.toNat) && decide (k.toNat ≤ 12)

/-- CQ_ENABLE (R344): the rings start empty. A size that R344 does not give is refused (log entry 23). -/
def execCqEnable (q : BitVec 4) (value : W32) (s : State) : Host.Outcome State Fault Refusal :=
  let n := q.toNat
  let u := s.queue n
  if !s.hostMay then done s
  else if u.enable || !ringSize (sqField value) || !ringSize (rqField value) then done s.hostRefused
  else done (s.setQueue n { u with
    enable := true, active := true, sqLog2 := sqField value, rqLog2 := rqField value
    sqHead := 0, sqTail := 0, rqTail := 0, rqHead := 0, phase := true })

/-- CQ_DISABLE (R344): fetching stops; a command in progress completes and writes its reply. On a disabled queue the write sets the sizes. -/
def execCqDisable (q : BitVec 4) (value : W32) (s : State) : Host.Outcome State Fault Refusal :=
  let n := q.toNat
  let u := s.queue n
  if !s.hostMay then done s
  else if u.enable then done (s.setQueue n { u with enable := false, active := u.busy.isSome })
  else done (s.setQueue n { u with sqLog2 := sqField value, rqLog2 := rqField value })

/-- A doorbell value that has no effect (R345). -/
def Queue.refuses (u : Queue) (k : BitVec 4) (v : W32) : Bool := !u.enable || decide (Queue.entries k ≤ v.toNat)

def State.badDoorbell (s : State) (n : Nat) : State := s.setQueue n { s.queue n with badDoorbell := inc (s.queue n).badDoorbell }

/-- SUBMISSION_TAIL_DOORBELL (R345). `unknown` are packets behind the old tail whose opcode is not in the table, which the registrar takes with it. -/
def execSubmissionTailDoorbell (q : BitVec 4) (value : W32) (unknown : List UnknownPacket) (s : State) : Host.Outcome State Fault Refusal :=
  let n := q.toNat
  let u := s.queue n
  if !s.hostMay then done s
  else if u.refuses u.sqLog2 value then done (s.badDoorbell n)
  else done (unknown.foldl (fun s x => serveUnknown s q x) (s.setQueue n { u with sqTail := value.setWidth 16 }))

/-- REPLY_HEAD_DOORBELL (R345). -/
def execReplyHeadDoorbell (q : BitVec 4) (value : W32) (s : State) : Host.Outcome State Fault Refusal :=
  let n := q.toNat
  let u := s.queue n
  if !s.hostMay then done s
  else if u.refuses u.rqLog2 value then done (s.badDoorbell n)
  else done (s.setQueue n { u with rqHead := value.setWidth 16 })

/-- Whether a flag write makes a transition of the host (R357). -/
def hostFlag (old new : BitVec 2) : Bool := (old == 0 && new == 1) || (old == 1 && new == 0) || (old == 1 && new == 2)

/-- One field of a flag write (R358). -/
def State.flagField (s : State) (l : Nat) (v : BitVec 2) : State :=
  if v = 3 ∨ v = s.lot l then s
  else if hostFlag (s.lot l) v then s.setLot l v
  else { s with hq := { s.hq with badFlag := inc s.hq.badFlag } }

/-- LOT_FLAG_WRITE (R358). -/
def execLotFlagWrite (w : BitVec 12) (value : W32) (enables : BitVec 4) (s : State) : Host.Outcome State Fault Refusal :=
  if !s.hostMay then done s
  else done (s.each ((upto 16).filter (fun i => enables.getLsbD (i / 4))) (fun s i => s.flagField (16 * w.toNat + i) (value.extractLsb' (2 * i) 2)))

/-- A host access without ownership (R360). -/
def State.hostBarred (s : State) (l : Nat) (write : Bool) : State :=
  let h := s.hq
  { s with hq := { h with
    hostWrites := if write then inc h.hostWrites else h.hostWrites, hostReads := if write then h.hostReads else inc h.hostReads
    lastValid := true, lastWrite := write, lastLot := BitVec.ofNat 16 l } }

def State.deviceLot (s : State) (l : Nat) : Bool := s.lot l == 2 || s.lot l == 3

/-- HOST_WINDOW_WRITE (R357, R360, R405): a part that is aborted raises its event with the address. -/
def execHostWindowWrite (offset : BitVec 28) (octets : Octets) (s : State) : Host.Outcome State Fault Refusal :=
  let l := offset.toNat / 4096
  if !s.hostMay then done s
  else if s.deviceLot l then done (s.hostBarred l true)
  else
    let a := windowBase + offset.toNat
    let r := s.writeMem a octets
    if r.2 then done (r.1.raise { code := 0x0D05, source := srcMem, data := BitVec.ofNat 32 a }) else done r.1

/-- HOST_WINDOW_READ (R357, R360). -/
def execHostWindowRead (offset : BitVec 28) (len : Nat) (s : State) : Host.Outcome State Fault Refusal :=
  let l := offset.toNat / 4096
  if !s.hostMay then done s
  else if s.deviceLot l then
    let s := s.hostBarred l false
    done { s with hq := { s.hq with readValue := List.replicate len 0xFF } }
  else
    let r := s.readMem (windowBase + offset.toNat) len
    done { r.1 with hq := { r.1.hq with readValue := r.2.1 } }

/-- The effects of a Function Level Reset or a loss of the link (R342). Lots that only packets not yet fetched name are not known to the device here (log entry 23). -/
def State.functionReset (s : State) : State :=
  let held := s.hq.queues.flatMap (fun e => match e.2.busy with | some c => c.lots | none => [])
  let s := s.each (held.filter (fun l => s.lot l == 2)) (fun s l => s.setLot l 1)
  let s := s.each (upto 16) (fun s n =>
    let u := s.queue n
    s.setQueue n { u with enable := false, active := u.busy.isSome, discard := u.busy.isSome })
  { s with hq := { s.hq with msix := [] } }

/-- FUNCTION_LEVEL_RESET (R342). -/
def execFunctionLevelReset (s : State) : Host.Outcome State Fault Refusal := done s.functionReset

/-- The PCIe link goes down (R342). -/
def State.linkLost (s : State) : State :=
  let s := s.functionReset
  { s with hq := { s.hq with linkUp := false } }

/-- PCIE_LINK_LOSS (R342). -/
def execPcieLinkLoss (s : State) : Host.Outcome State Fault Refusal := done s.linkLost

/-- PERST_N (R439): resets the PCIe link only, with the effects of R342. -/
def execPerstN (s : State) : Host.Outcome State Fault Refusal := done s.linkLost

/-- PCIE_LINK_TRAINED (R445). -/
def execPcieLinkTrained (s : State) : Host.Outcome State Fault Refusal :=
  if s.pwr.inReset || s.pwr.dormant then done s else done { s with hq := { s.hq with linkUp := true } }

end Sys2Proof.Machine
end

