-- ==== Sys2Proof/Machine/Integrity.lean ====
section
/-! DEFINITION. Scrubbing, spare words and initialisation (R402 to R415), and the check-value contexts (R416 to R420). -/
namespace Sys2Proof.Machine

/-- LPDDR_INIT_COMPLETE (R415): the background has reached every granule. -/
def execLpddrInitComplete (s : State) : Host.Outcome State Fault Refusal :=
  if s.pwr.inReset || s.pwr.dormant then done s else done { s with memc := { s.memc with lpddrReady := true, granules := [] } }

/-- The internal address of a word of a domain (R403); none for the memories that lie outside the map. -/
def wordAddress (d w : Nat) : Option Nat :=
  if d < 256 then some (cellBase + d * 65536 + 16 * w)
  else if d < 328 then
    let k := d - 256
    let part := k % 6
    let off := if part < 2 then part * 65536 else if part < 4 then xmOff + (part - 2) * 65536 else ymOff + (part - 4) * 65536
    some (vcBase + k / 6 * 0x100000 + off + 16 * w)
  else if d < 584 then some (laneBase + (d - 328) / 8 * 0x100000 + (d - 328) % 8 * 65536 + 16 * w)
  else if d < 592 then some (registrarBase + (d - 584) * 65536 + 16 * w)
  else if d < 640 then none
  else some ((d - 640) * 0x8000000 + 16 * w)

/-- Whether the scrubber reads a word: granules that are not yet initialised are skipped (R409). -/
def State.scrubbed (s : State) (d w : Nat) : Bool :=
  d < 640 || s.memc.lpddrReady || Table.get false s.memc.granules ((d - 640) * 2048 + w / 4096)

def State.region (s : State) (r : Nat) : Region := Table.get {} s.memc.regions r
def State.setRegion (s : State) (r : Nat) (v : Region) : State := { s with memc := { s.memc with regions := Table.put {} s.memc.regions r v } }

/-- The registers of an error that a scrubber finds (R421). -/
def State.noteError (s : State) (d w : Nat) (kind : BitVec 2) : State :=
  { s with memc := { s.memc with lastWord := BitVec.ofNat 32 w, lastKind := kind, lastScrub := true, lastDomain := BitVec.ofNat 10 d } }

/-- A scrub read finds a word with a correctable error (R402, R409). -/
def State.foundCorrectable (s : State) (d w : Nat) : State :=
  let r := s.region (regionOf d)
  (s.setRegion (regionOf d) { r with scrubCe := inc r.scrubCe }).correctable d w true

/-- A word found uncorrectable (R402, R411, R412): counted, and the spare takes the poison marker. -/
def State.foundUncorrectable (s : State) (d w : Nat) : State :=
  let r := s.region (regionOf d)
  let m := s.dom d
  let s := s.setDom d { m with writeBacks := m.writeBacks.filter (fun x => x != BitVec.ofNat 32 w) }
  let s := (s.setRegion (regionOf d) { r with scrubUe := inc r.scrubUe }).noteError d w 2
  let s := { s with memc := { s.memc with
    uncorrectable := inc s.memc.uncorrectable, poison := Table.put false s.memc.poison (poisonKey d w) true } }
  let s := s.raise { code := 0x0D02, source := srcMem, data := BitVec.ofNat 32 d }
  s.remap d (BitVec.ofNat 32 w)

/-- The longest last lap among a region's domains, and its domain (R421); `first` is the lap that has just ended. -/
def State.longestLap (s : State) (r : Nat) (first : Nat × W32) : Nat × W32 :=
  s.memc.domains.foldl (fun (b : Nat × W32) e => if regionOf e.1 = r ∧ b.2.toNat < e.2.lapUs.toNat then (e.1, e.2.lapUs) else b) first

/-- The scrubber moves on; at the end of its domain a lap is complete (R409, R411). -/
def State.scrubOn (s : State) (d : Nat) : State :=
  let m := s.dom d
  if m.pos.toNat + 1 < domainWords d then s.setDom d { m with pos := m.pos + 1 }
  else
    let us := BitVec.ofNat 32 ((s.tb.tb2.ns - m.lapStart).toNat / 1000)
    let s := s.setDom d { m with pos := 0, lapUs := us, lapStart := s.tb.tb2.ns, slow := false, trackers := [] }
    let r := regionOf d
    let l := s.longestLap r (d, us)
    s.setRegion r { s.region r with laps := inc (s.region r).laps, lapUs := l.2, slowDomain := BitVec.ofNat 10 l.1 }

/-- SCRUB_READ (R409): one word of a domain. `found` is what its bits have become; an error found before and not yet mended is found again (R408). A marker is returned with the poison flag and is no new error (R402). -/
def execScrubRead (domain : BitVec 10) (found : Found) (s : State) : Host.Outcome State Fault Refusal :=
  let d := domain.toNat
  let w := (s.dom d).pos.toNat
  if 672 ≤ d || !s.memc.sramReady then done s
  else if !s.scrubbed d w then done (s.scrubOn d)
  else
    let s := if Table.get false s.memc.poison (poisonKey d w) then { s with memc := { s.memc with poisoned := inc s.memc.poisoned } }
      else match found with
        | .clean => if (s.dom d).writeBacks.contains (BitVec.ofNat 32 w) then s.foundCorrectable d w else s
        | .correctable => s.foundCorrectable d w
        | .uncorrectable => s.foundUncorrectable d w
    done (s.scrubOn d)

/-- The lap limit of a region in ms: the catalogue's, else the default of R410. -/
def State.lapLimit (s : State) (r : Nat) : W32 := s.cfg.lapLimits.getD r (if r = 6 then 600000 else 10000)

/-- Whether the current lap of a domain has run past its region's limit (R410). -/
def State.lapOver (s : State) (d : Nat) : Bool :=
  decide ((s.lapLimit (regionOf d)).toNat * 1000000 < (s.tb.tb2.ns - (s.dom d).lapStart).toNat)

/-- SCRUB_SLOW (R410): once per lap. -/
def execScrubSlow (domain : BitVec 10) (s : State) : Host.Outcome State Fault Refusal :=
  let d := domain.toNat
  let m := s.dom d
  if 672 ≤ d || m.slow || !s.memc.sramReady || !s.lapOver d then done s
  else done ((s.setDom d { m with slow := true }).raise { code := 0x0D04, source := srcMem, data := BitVec.ofNat 32 d })

/-- CORRECTED_WRITE_BACK (R408): the corrected word goes back unless a write has dropped it. Its content is the content already read. -/
def execCorrectedWriteBack (domain : BitVec 10) (word : W32) (s : State) : Host.Outcome State Fault Refusal :=
  let d := domain.toNat
  let m := s.dom d
  if m.writeBacks.contains word then done (s.setDom d { m with writeBacks := m.writeBacks.filter (fun w => w != word) }) else done s

/-- REMAP_RECORD_WRITE (R413): the oldest entry without a record; a failed write is a store error and the entry waits. -/
def execRemapRecordWrite (io : StoreIo) (s : State) : Host.Outcome State Fault Refusal :=
  match s.memc.unrecorded with
  | [] => done s
  | e :: rest =>
    match io.failed with
    | some a => done (s.storeError a)
    | none => done { s with memc := { s.memc with unrecorded := rest, records := s.memc.records ++ [e] } }

/-- The check of a context (R417); value 3 names none. -/
def CrcCtx.check (c : CrcCtx) : Option Poly :=
  match c.poly.toNat with
  | 0 => some .crc32c
  | 1 => some .crc32
  | 2 => some .crc16
  | _ => none

/-- The running value after octets; free where the context names no check (R417; log entry 22). -/
def State.crcFeed (s : State) (c : Nat) (o : Octets) : State :=
  let k := s.ctx c
  match k.check with
  | some p => s.setCtx c { k with value := crcRun p k.value o }
  | none => let d := s.draw 32; d.2.setCtx c { k with value := d.1 }

/-- Who may write a context (R416, R422): no host, and contexts 0 to 7 by the registrar alone. -/
def State.crcWrite (s : State) (by_ : Requester) (c : Nat) (f : State → State) : State :=
  if by_ = .host then s.hostRefused
  else if c < 8 ∧ by_ ≠ .registrar then { s with crc := { s.crc with refused := inc s.crc.refused } }
  else f s

/-- A write that a queued block keeps out (R420). -/
def State.crcIdle (s : State) (c : Nat) (f : State → State) : State :=
  if (s.ctx c).queued then { s with crc := { s.crc with busyRefused := inc s.crc.busyRefused } } else f s

/-- The fold octets of a context (R418). -/
def CrcCtx.foldOctets (k : CrcCtx) : Octets :=
  match k.fold.toNat with
  | 1 => leBytes 4 k.foldLo.toNat
  | 2 => leBytes 4 k.foldLo.toNat ++ leBytes 4 k.foldHi.toNat
  | _ => []

/-- start (R418). -/
def State.crcBegin (s : State) (c : Nat) : State :=
  let k := s.ctx c
  let init := match k.check with | some p => crcInit p | none => 0
  (s.setCtx c { k with value := init }).crcFeed c k.foldOctets

/-- A DATA write (R418). -/
def State.crcData (s : State) (c : Nat) (v : W32) : State :=
  let k := s.ctx c
  let n := if k.tail = 0 then 4 else k.tail.toNat
  (s.setCtx c { k with tail := 0 }).crcFeed c (leBytes n v.toNat)

/-- finish (R418, R419). -/
def State.crcEnd (s : State) (c : Nat) : State :=
  let k := s.ctx c
  let out := match k.check with | some p => crcFinal p k.value | none => k.value
  let same := if k.poly = 2 then out.setWidth 16 == k.expect.setWidth 16 else out == k.expect
  let bad := k.compare && !same
  let s := s.setCtx c { k with
    result := out, mismatch := bad, finishes := inc k.finishes, mismatches := if bad then inc k.mismatches else k.mismatches }
  let s := if bad then s.raise { code := 0x0E01, source := srcCrc, data := BitVec.ofNat 32 c } else s
  if k.tokenEn then s.sendToken { entry := k.entry, operand := BitVec.ofNat 128 (out.toNat + c * 2 ^ 32 + b2n bad * 2 ^ 40) } else s

/-- block_go (R420). -/
def State.crcQueue (s : State) (c : Nat) : State :=
  if (s.ctx c).queued then s
  else
    let u := c / 16
    let s := s.setCtx c { s.ctx c with queued := true }
    { s with crc := { s.crc with units := Table.upd [] s.crc.units u (· ++ [c]) } }

/-- CRC_START (R418). -/
def execCrcStart (by_ : Requester) (c : BitVec 6) (s : State) : Host.Outcome State Fault Refusal :=
  done (s.crcWrite by_ c.toNat (fun s => s.crcIdle c.toNat (fun s => s.crcBegin c.toNat)))

/-- CRC_DATA_WRITE (R418). -/
def execCrcDataWrite (by_ : Requester) (c : BitVec 6) (value : W32) (s : State) : Host.Outcome State Fault Refusal :=
  done (s.crcWrite by_ c.toNat (fun s => s.crcIdle c.toNat (fun s => s.crcData c.toNat value)))

/-- CRC_VALUE_WRITE (R418). -/
def execCrcValueWrite (by_ : Requester) (c : BitVec 6) (value : W32) (s : State) : Host.Outcome State Fault Refusal :=
  done (s.crcWrite by_ c.toNat (fun s => s.crcIdle c.toNat (fun s => s.setCtx c.toNat { s.ctx c.toNat with value := value })))

/-- CRC_FINISH (R419). -/
def execCrcFinish (by_ : Requester) (c : BitVec 6) (s : State) : Host.Outcome State Fault Refusal :=
  done (s.crcWrite by_ c.toNat (fun s => s.crcIdle c.toNat (fun s => s.crcEnd c.toNat)))

/-- CRC_BLOCK_GO (R420). -/
def execCrcBlockGo (by_ : Requester) (c : BitVec 6) (s : State) : Host.Outcome State Fault Refusal :=
  done (s.crcWrite by_ c.toNat (fun s => s.crcQueue c.toNat))

end Sys2Proof.Machine
end

