-- ==== Sys2Proof/Machine/Power.lean ====
section
/-! DEFINITION. Supplies, resets and power states (R436 to R450). -/
namespace Sys2Proof.Machine

/-- The octets of LPDDR alone: a core-die reset zeroes every on-die memory (R446). -/
def lpddrOnly (m : Table Byte) : Table Byte := m.filter (fun e => decide (e.1 < cellBase))

/-- The poison flags of LPDDR words (R403). -/
def lpddrPoison (m : Table Bool) : Table Bool := m.filter (fun e => decide (poisonKey 640 0 ≤ e.1))

/-- A time base through a core-die reset (R446): kept, FREE, its counters and flags 0. -/
def TimeBase.through (t : TimeBase) (m : TbMode) : TimeBase := { ns := t.ns, frac := t.frac, rate := t.rate, mode := m }

/-- The event unit from a core-die reset (R425, R446): the log stays, what was not written is lost, and numbering goes on behind the newest record of the log. -/
def EvtState.through (e : EvtState) : EvtState :=
  { ({} : EvtState) with
    log := e.log, oldestSeq := e.oldestSeq, nextSeq := e.nextSeq - BitVec.ofNat 32 e.buffer.length, lost := 0, last := { cause := 0 } }

/-- The nodes that are other devices: a ring on which this device is the node holds its own. -/
def State.otherNodes (s : State) : Table Node :=
  s.lr.nodes.filter (fun e =>
    match (s.ring (e.1 / 32)).start with
    | .node => false
    | .listening => false
    | .backoff => false
    | _ => true)

/-- The core die in a reset or powered down (R439, R446): every block begins anew; the always-on island, the store, the field die and the Parapet stay. LPDDR and the lot flags wait for the release, which decides on them. `m` is the state that the time bases read, FREE while a REFCLK fault is present (R48). -/
def State.coreDown (s : State) (m : TbMode) : State :=
  let m : TbMode := if s.tb.refFault then .free else m
  { s with
    dev := { stepping := s.dev.stepping, serialLo := s.dev.serialLo, serialHi := s.dev.serialHi }
    tb := {
      tb0 := s.tb.tb0.through m, tb1 := s.tb.tb1.through m, tb2 := s.tb.tb2, tb3 := s.tb.tb3.through m
      refFault := s.tb.refFault, refCount := s.tb.refCount, refBad := s.tb.refBad, refGoodSince := s.tb.refGoodSince
      refPending := s.tb.refPending }
    pwr := { s.pwr with
      entering := false, warmPrepared := false, wdTimeoutMs := 1000, dwelled := 0
      rails := s.pwr.rails.foldl (fun t e => Table.put {} t e.1 { nowMv := e.2.nowMv }) [] }
    hq := { lots := s.hq.lots, sent := s.hq.sent }
    lr := { nodes := s.otherNodes }
    le := {}, za := {}, pg := {}, ax := {}, saf := { inputs := rawInputs s.saf.inputs }, crc := {}, ts := {}, vc := {}, red := {}
    dio := { die := s.dio.die }
    memc := { records := s.memc.records, lpddrReady := s.memc.lpddrReady, granules := s.memc.granules, poison := lpddrPoison s.memc.poison }
    mem := lpddrOnly s.mem
    cat := { store := s.cat.store, keys := s.cat.keys }
    cfg := {}
    evt := s.evt.through }

/-- The power-on reset (R439, R446): the whole module but the Parapet; the store keeps its images, keys, records, snapshot and log. -/
def State.powerOn (s : State) : State :=
  let d := s.coreDown .free
  { d with
    tb := { refFault := s.tb.refFault, refCount := s.tb.refCount, refBad := s.tb.refBad, refPending := s.tb.refPending }
    pwr := { snapValid := s.pwr.snapValid, dips := s.pwr.dips, aboveReset := s.pwr.aboveReset, pendingRails := s.pwr.pendingRails
             rails := d.pwr.rails, resetHeld := s.pwr.resetHeld, causes := [] }
    hq := { sent := s.hq.sent }
    memc := { records := s.memc.records }
    mem := []
    saf := {}
    dio := {} }

/-- The count of a reset source in the always-on island (R450). -/
def PwrState.counted (p : PwrState) (src : ResetSource) : PwrState :=
  match src with
  | .brownOut => { p with brownOuts := inc p.brownOuts }
  | .rstN => { p with rstNs := inc p.rstNs }
  | .watchdog => { p with watchdogs := inc p.watchdogs }
  | .warm => { p with warms := inc p.warms }
  | _ => p

/-- A reset source acts (R439, R440): at once, whatever was being prepared; in DORMANT it waits for the wake (R449). -/
def State.resetBy (s : State) (src : ResetSource) : State :=
  let p := s.pwr.counted src
  let causes := if p.causes.contains src then p.causes else p.causes ++ [src]
  if src = .powerOn then
    let t := s.powerOn
    { t with pwr := { t.pwr with inReset := true, causes := [.powerOn] } }
  else if s.pwr.dormant then { s with pwr := { p with causes := causes } }
  else
    let t := s.coreDown .free
    { t with pwr := { (p.counts t.pwr) with inReset := true, causes := causes } }

/-- The counter snapshot in the store (R444, R448). -/
def State.takeSnapshot (s : State) : State := { s with snap := some s.snapshot, pwr := { s.pwr with snapValid := true } }

/-- DEV_WARM_RESET (R444): once answered, the queues stop, the event buffer and the counter snapshot go to the store, LPDDR into self-refresh. -/
def execDevWarmReset (p : Packet) (s : State) : Host.Outcome State Fault Refusal :=
  let good := unusedZero p.params [(0, 4)] && decide (param p.params 0 4 = 0xA5A5)
  done (serve s p 0x0003 good [] fun s =>
    if s.dev.cell.closed then reject s stWrongState
    else
      let s := s.replyLater p.queue.toNat {}
      let s : State := { s with hq := { s.hq with stopped := true } }
      let s := s.flushEvents.takeSnapshot
      .later { s with pwr := { s.pwr with warmPrepared := true } })

/-- WARM_RESET (R439, R444): after its preparation. -/
def execWarmReset (s : State) : Host.Outcome State Fault Refusal :=
  if s.pwr.warmPrepared && !s.pwr.inReset then done (s.resetBy .warm) else done s

/-- DEV_DORMANT (R41, R448). -/
def execDevDormant (p : Packet) (s : State) : Host.Outcome State Fault Refusal :=
  done (serve s p 0x0005 (unusedZero p.params []) [] fun s =>
    if s.dev.cell ≠ .loaded ∧ s.dev.cell ≠ .parked then reject s stWrongState
    else
      let s := s.replyLater p.queue.toNat {}
      let s := s.flushEvents.takeSnapshot
      let t := s.coreDown .holdover
      .later { t with
        mem := [], hq := { sent := s.hq.sent }
        memc := { records := s.memc.records }
        pwr := { t.pwr with dormant := true, coreEn := false, wdArmed := false, dormants := inc s.pwr.dormants, causes := [] } })

/-- WAKE (R449): the core die is powered and held in reset until its release. -/
def execWake (s : State) : Host.Outcome State Fault Refusal :=
  if !s.pwr.dormant then done s
  else
    let t := s.tb
    done { s with
      tb := { t with tb0 := t.tb0.through .free, tb1 := t.tb1.through .free, tb3 := t.tb3.through .free }
      pwr := { s.pwr with dormant := false, coreEn := true, inReset := true, causes := s.pwr.causes ++ [.wake] } }

/-- The nominal voltage, the recommended window, the warning and the reset level and the hysteresis of a monitor's rail in mV (R436). -/
structure RailLevels where
  nominal : Nat
  least : Nat
  most : Nat
  warning : Nat
  reset : Nat
  hysteresis : Nat
  deriving DecidableEq, Repr

/-- The levels of R436, in the order of the monitors. -/
def railLevels (r : Nat) : RailLevels :=
  if r = 0 then ⟨800, 760, 880, 730, 660, 10⟩
  else if r = 1 then ⟨850, 810, 930, 780, 700, 10⟩
  else if r = 2 then ⟨1800, 1710, 1890, 1650, 1550, 20⟩
  else if r < 5 then ⟨3300, 3135, 3465, 3000, 2800, 30⟩
  else ⟨24000, 20400, 28800, 19200, 16000, 500⟩

/-- Whether the monitor of a rail is suspended: those of VCORE and VSRAM in DORMANT (R448). -/
def State.suspended (s : State) (r : Nat) : Bool := s.pwr.dormant && decide (r < 2)

/-- A sample of a rail (R450). -/
def State.sampled (s : State) (r : Nat) (mv : W16) : State :=
  let o := s.rail r
  s.setRail r { o with nowMv := mv, minMv := if mv.toNat < o.minMv.toNat then mv else o.minMv }

/-- An event of a rail's monitor: the Parapet's for VPAR, else the field die's, with the stamps of the newest exchange frame and coarse (R424, R436; log entry 26). Nothing is recorded while the core die is down. -/
def State.raiseRail (s : State) (code : W16) (r : Nat) : State :=
  if !s.coreUp then s
  else if r = 4 then s.raisePar { code := code, source := srcPar, data := BitVec.ofNat 32 r }
  else
    let f := s.dio.frame
    s.raise { code := code, source := srcField, data := BitVec.ofNat 32 r, coarse := true, span := some f.span, ns32 := some f.ns32, tb2 := some f.tb2 }

/-- DIP_START (R437, R438): the second sample in a row lies below the warning level. -/
def execDipStart (rail : BitVec 4) (mv : W16) (s : State) : Host.Outcome State Fault Refusal :=
  let r := rail.toNat
  if 12 ≤ r || s.suspended r || s.pwr.dips.getLsbD r || decide ((railLevels r).warning ≤ mv.toNat) then done s
  else
    let s := s.sampled r mv
    let s := s.setRail r { s.rail r with warnings := inc (s.rail r).warnings }
    let s : State := { s with pwr := { s.pwr with dips := bitSet s.pwr.dips r true, dwelled := bitSet s.pwr.dwelled r false } }
    done (s.raiseRail 0x0301 r)

/-- WARNING_DWELL_EXPIRY (R438): once for a dip. -/
def execWarningDwellExpiry (rail : BitVec 4) (s : State) : Host.Outcome State Fault Refusal :=
  let r := rail.toNat
  if 12 ≤ r || s.suspended r || !s.pwr.dips.getLsbD r || s.pwr.dwelled.getLsbD r then done s
  else
    let s := s.setRail r { s.rail r with dwells := inc (s.rail r).dwells }
    let s : State := { s with pwr := { s.pwr with dwelled := bitSet s.pwr.dwelled r true } }
    done (s.raiseRail 0x0302 r)

/-- DIP_END (R437, R438): the eighth sample in a row lies at or above the warning level + the hysteresis. -/
def execDipEnd (rail : BitVec 4) (mv : W16) (s : State) : Host.Outcome State Fault Refusal :=
  let r := rail.toNat
  let l := railLevels r
  if 12 ≤ r || s.suspended r || decide (mv.toNat < l.warning + l.hysteresis) then done s
  else
    let s := s.sampled r mv
    done { s with pwr := { s.pwr with dips := bitSet s.pwr.dips r false, dwelled := bitSet s.pwr.dwelled r false } }

/-- The read-backs of the safe outputs follow VSAFE (R245, R436). -/
def State.safeNodes (s : State) : State :=
  s.each outputs8 (fun s n =>
    let follow := fun (s : State) (ch : Channel) =>
      let o := s.chOut ch n
      s.setChOut ch n { o with reads := o.closed && !o.testing && s.vsafe }
    follow (follow s .a) .b)

/-- RAIL_BELOW_RESET_LEVEL (R436 to R438): the second sample in a row lies below the reset level, and the action of the rail follows. -/
def execRailBelowResetLevel (rail : BitVec 4) (mv : W16) (s : State) : Host.Outcome State Fault Refusal :=
  let r := rail.toNat
  if 12 ≤ r || s.suspended r || !s.pwr.aboveReset.getLsbD r || decide ((railLevels r).reset ≤ mv.toNat) then done s
  else
    let s := s.sampled r mv
    let s := s.setRail r { s.rail r with resets := inc (s.rail r).resets }
    let s : State := { s with pwr := { s.pwr with
      aboveReset := bitSet s.pwr.aboveReset r false, pendingRails := bitSet s.pwr.pendingRails r true } }
    match r with
    | 0 => done (s.resetBy .brownOut)
    | 1 => done (s.resetBy .brownOut)
    | 2 => done (s.resetBy .powerOn)
    | 3 => done (s.resetBy .brownOut).fieldReset
    | 4 => done s.parapetReset
    | 5 => done s.safeNodes
    | _ => done s.switchOutputs

/-- RAIL_ABOVE_RESET_LEVEL (R437): the eighth sample in a row lies at or above the reset level + the hysteresis; the group or the safe outputs come back. -/
def execRailAboveResetLevel (rail : BitVec 4) (mv : W16) (s : State) : Host.Outcome State Fault Refusal :=
  let r := rail.toNat
  let l := railLevels r
  if 12 ≤ r || s.suspended r || decide (mv.toNat < l.reset + l.hysteresis) then done s
  else
    let s := s.sampled r mv
    let s : State := { s with pwr := { s.pwr with aboveReset := bitSet s.pwr.aboveReset r true } }
    match r with
    | 5 => done s.safeNodes
    | _ => done (if 6 ≤ r then s.switchOutputs else s)

/-- POWER_ON_RESET (R439): VAUX has risen above its reset level. -/
def execPowerOnReset (s : State) : Host.Outcome State Fault Refusal :=
  done (({ s with pwr := { s.pwr with aboveReset := bitSet s.pwr.aboveReset 2 true } } : State).resetBy .powerOn)

/-- RST_N_ASSERT (R439). -/
def execRstNAssert (s : State) : Host.Outcome State Fault Refusal := done (s.resetBy .rstN)

/-- RESET_HELD (R442): the Parapet logs it; PWR_CAUSE shows it after release. -/
def execResetHeld (s : State) : Host.Outcome State Fault Refusal :=
  if s.pwr.causes.contains .rstN && s.par.up then
    done { s with par := { s.par with log := s.par.log ++ [ParEntry.resetHeld] }, pwr := { s.pwr with resetHeld := true } }
  else done s

/-- TB2_WATCHDOG_EXPIRY (R441): it does not run in DORMANT, nor while the core die is in reset. -/
def execTb2WatchdogExpiry (s : State) : Host.Outcome State Fault Refusal :=
  if s.pwr.wdArmed && !s.pwr.dormant && !s.pwr.inReset then done (s.resetBy .watchdog) else done s

/-- The most destructive source of a reset (R440). -/
def decisive (l : List ResetSource) : ResetSource :=
  ([ResetSource.powerOn, .brownOut, .rstN, .watchdog, .warm, .wake].find? (fun x => l.contains x)).getD .powerOn

/-- The whole set of lot flags at HOST (R446). -/
def hostLots : Table (BitVec 2) := (upto 65536).map (fun l => (l, 1))

/-- The remap tables restored from their records (R413). -/
def State.restoreRemaps (s : State) : State :=
  s.memc.records.foldl (fun s e =>
    let d := e.1.toNat
    let m := s.dom d
    if m.remaps.length < 8 then s.setDom d { m with remaps := m.remaps ++ [e.2], exhausted := decide (7 ≤ m.remaps.length) } else s) s

/-- Counters and sticky flags from an unused snapshot (R446); a reset that calls for a restore and finds none leaves them cleared. -/
def State.restoreCounters (s : State) (src : ResetSource) : State :=
  match src, s.pwr.snapValid, s.snap with
  | .warm, true, some o => let t := (upto 19).foldl (fun s b => s.withCounters o b) s
                           { t with pwr := { t.pwr with snapValid := false, snapRestored := true } }
  | .wake, true, some o => let t := (upto 19).foldl (fun s b => s.withCounters o b) s
                           { t with pwr := { t.pwr with snapValid := false, snapRestored := true } }
  | _, _, _ => { s with pwr := { s.pwr with snapRestored := false } }

/-- LPDDR and the lot flags at the release (R446). -/
def State.restoreLpddr (s : State) (src : ResetSource) : State :=
  match src with
  | .watchdog => { s with memc := { s.memc with lpddrReady := true, granules := [] }, hq := { s.hq with lots := hostLots } }
  | .warm => { s with memc := { s.memc with lpddrReady := true, granules := [] }, hq := { s.hq with lots := hostLots } }
  | _ => { s with mem := [], memc := { s.memc with lpddrReady := false, granules := [], poison := [] }, hq := { s.hq with lots := [] } }

/-- Whether the rails whose falls reset the core die have recovered: VCORE, VSRAM, VAUX and VIO above their reset levels (R440). -/
def PwrState.railsUp (p : PwrState) : Bool :=
  p.aboveReset.getLsbD 0 && p.aboveReset.getLsbD 1 && p.aboveReset.getLsbD 2 && p.aboveReset.getLsbD 3

/-- RESET_RELEASE (R440, R445, R446), once the rails have recovered: the causes, what survives, the firmware, the host interface. The stages of R445 end in this one command (log entry 26). -/
def execResetRelease (io : StoreIo) (s : State) : Host.Outcome State Fault Refusal :=
  if !s.pwr.inReset || !s.pwr.railsUp then done s
  else
    let p := s.pwr
    let src := decisive p.causes
    let s : State := { s with pwr := { p with
      inReset := false, causes := [], pendingRails := 0, resetHeld := false, coreEn := true, wdArmed := true, wdTimeoutMs := 1000
      causeRails := p.pendingRails, causeResetHeld := p.resetHeld, causeParapet := false
      causeWake := p.causes.contains .wake, causeWarm := p.causes.contains .warm, causeWatchdog := p.causes.contains .watchdog
      causeRstN := p.causes.contains .rstN, causeBrownOut := p.causes.contains .brownOut, causePowerOn := p.causes.contains .powerOn
      hostReadyMs := 0, loadedMs := 0xFFFF, releasedAt := s.tb.tb2.ns } }
    let s := (s.restoreRemaps.restoreLpddr src).restoreCounters src
    let s : State := { s with memc := { s.memc with sramReady := true } }
    let s := s.bootFirmware io
    let s : State := { s with hq := { s.hq with hostReady := true }
                              evt := { s.evt with reference := s.evt.nextSeq, raised := false } }
    match s.tb.refPending with
    | some v => done (s.refclkTaken v)
    | none => done s

end Sys2Proof.Machine
end

