-- ==== Sys2Proof/Machine/RegsHost.lean ====
section
/-! DEFINITION. What reads of the DEV, TB, PWR, HQ, LOT and LR registers return (R45, R69, R95, R343, R361, R362, R450), by offset in the block. An offset that holds no register reads 0 (R43). -/
namespace Sys2Proof.Machine

/-- A word of one field. -/
def wide {w : Nat} (v : BitVec w) : W32 := v.setWidth 32

/-- The halves of a 64-bit register. -/
def half (v : W64) (hi : Bool) : W32 := if hi then v.extractLsb' 32 32 else v.setWidth 32

/-- A value of the catalogue, which reads 0 until the cell first reaches LOADED. -/
def State.ifLoaded (s : State) (v : W32) : W32 := if s.cat.loaded then v else 0

/-- A class's registers from 0x100 on, `k` its place (R45). -/
def EngineClass.reg (e : EngineClass) (floor : BitVec 24) (row : Nat) : W32 :=
  match row with
  | 0x100 => wide e.pace
  | 0x110 => wide floor
  | 0x120 => e.slack
  | 0x130 => e.slackMin
  | 0x140 => word [(e.overruns.toNat, 16), (e.paceLow.toNat, 0)]
  | _ => 0

/-- The DEV block (R45). -/
def State.readDev (s : State) (o : Nat) : W32 :=
  match o with
  | 0x000 => devId
  | 0x004 => s.dev.stepping
  | 0x008 => s.dev.serialLo
  | 0x00C => s.dev.serialHi
  | 0x020 => s.cellStateReg
  | 0x024 => s.armStateReg
  | 0x028 => word [(s.dev.causeEvent.toNat, 16), (s.dev.causeOpcode.toNat, 0)]
  | 0x030 => s.ifLoaded (word [(s.cfg.gatherOffset.toNat, 16), (s.cfg.returnGuard.toNat, 4), (s.cfg.spanCode.toNat, 0)])
  | 0x034 => s.ifLoaded (wide s.cfg.deadlineLe)
  | 0x038 => s.ifLoaded (wide s.dev.deadlineVc)
  | _ =>
    if 0x100 ≤ o ∧ o < 0x150 then
      match o % 16 with
      | 0 => s.dev.vc.reg s.cfg.floorVc o
      | 4 => s.dev.za.reg s.cfg.floorZa (o - 4)
      | 8 => s.dev.le.reg s.cfg.floorLe (o - 8)
      | _ => 0
    else 0

def TbMode.code : TbMode → Nat
  | .free => 0
  | .acquiring => 1
  | .locked => 2
  | .holdover => 3
  | .monotonic => 4

/-- What a requester's snapshot of a time base holds (R53). -/
def State.snapOf (s : State) (by_ : Requester) (n : Nat) : TbValue := Table.get {} s.tb.snaps (4 * requesterKey by_ + n)

/-- A time base's registers (R52, R69). NS_LO shows the value that its read latches. -/
def State.readBase (s : State) (by_ : Requester) (n o : Nat) : W32 :=
  let t := s.timeBase n
  let v := s.snapOf by_ n
  let sec := v.ns.toNat / 1000000000
  match o with
  | 0x00 => half t.ns false
  | 0x04 => half v.ns true
  | 0x08 => v.frac
  | 0x0C => BitVec.ofNat 32 sec
  | 0x10 => BitVec.ofNat 32 (sec / 2 ^ 32 % 2 ^ 16)
  | 0x14 => BitVec.ofNat 32 (v.ns.toNat % 1000000000)
  | 0x18 => t.rate
  | 0x1C => word [(if n = 3 then s.tb.source.toNat else 0, 8), (b2n s.tb.refFault, 5), (b2n t.clamped, 4), (t.mode.code, 0)]
  | 0x20 => if n < 2 then t.offset else 0
  | 0x24 => half t.step false
  | 0x28 => half t.step true
  | 0x2C => word [(t.hostSteps.toNat, 16), (t.steps.toNat, 0)]
  | _ => 0

/-- A plant port's registers (R69). -/
def State.readPlant (s : State) (n o : Nat) : W32 :=
  let c := s.plantCfg n
  let t := s.plant n
  match o with
  | 0x00 => s.ifLoaded (word [(b2n c.enable, 31), (c.pcpPtp.toNat, 28), (c.pcpPsl.toNat, 25), (c.pcpRaw.toNat, 22), (c.vid.toNat, 0)])
  | 0x04 => s.ifLoaded (c.mac.setWidth 32)
  | 0x08 => s.ifLoaded (wide (c.mac.extractLsb' 32 16))
  | 0x0C => s.ifLoaded (wide c.etype)
  | 0x10 => s.ifLoaded (word [(c.domain.toNat, 24), (c.logSync.toNat, 16), (b2n c.masterCapable, 1), (b2n c.profileAs, 0)])
  | 0x14 => wide t.portState
  | 0x18 => t.pathDelay
  | 0x20 => t.rxOk
  | 0x24 => t.txOk
  | 0x28 => word [(t.fcs.toNat, 16), (t.length.toNat, 0)]
  | 0x2C => word [(t.filter.toNat, 16), (t.pause.toNat, 0)]
  | 0x30 => word [(t.nobuf.toNat, 16), (t.txDrop.toNat, 0)]
  | _ => 0

/-- The TB block (R69). -/
def State.readTb (s : State) (by_ : Requester) (o : Nat) : W32 :=
  if o < 0x100 then s.readBase by_ (o / 0x40) (o % 0x40)
  else if 0x120 ≤ o ∧ o < 0x160 then
    let v : TbValue := Table.get {} s.tb.snapAll ((o - 0x120) / 16)
    match o % 16 with
    | 0 => half v.ns false
    | 4 => half v.ns true
    | 8 => v.frac
    | _ => 0
  else if 0x400 ≤ o ∧ o < 0x600 then s.readPlant ((o - 0x400) / 0x100) (o % 0x100)
  else
    match o with
    | 0x100 => s.span32
    | 0x104 => s.latched by_ latchSpan
    | 0x108 => half s.tb.srcOffset false
    | 0x10C => half s.tb.srcOffset true
    | 0x180 => word [(b2n s.tb.refFault, 31), (s.tb.refCount.toNat, 0)]
    | 0x190 => 0x34002400
    | _ =>
      if 0x1A0 ≤ o ∧ o < 0x1B0 then
        let m := (o - 0x1A0) / 4
        word ((upto 8).map (fun j => ((Table.get 0 s.tb.rxAlign (8 * m + j)).toNat, 4 * j)))
      else 0

/-- PWR_STAT.power_state (R447). -/
def State.powerState (s : State) : Nat :=
  if s.pwr.dormant then 3
  else match s.dev.cell with
    | .run => 0
    | .stopping => 0
    | .hold => 1
    | _ => 2

/-- The PWR block (R450). -/
def State.readPwr (s : State) (o : Nat) : W32 :=
  let p := s.pwr
  match o with
  | 0x000 => word [(s.powerState, 30), (b2n p.coreEn, 29), (b2n p.entering, 28), (p.dips.toNat, 16), (p.aboveReset.toNat, 0)]
  | 0x004 => wide (s.cfg.dwellUs.getD 2000)
  | 0x008 => word [(b2n p.wdArmed, 31), (p.wdTimeoutMs.toNat, 0)]
  | 0x00C => word [(p.causeRails.toNat, 16), (b2n p.causeResetHeld, 7), (b2n p.causeParapet, 6), (b2n p.causeWake, 5), (b2n p.causeWarm, 4)
                  , (b2n p.causeWatchdog, 3), (b2n p.causeRstN, 2), (b2n p.causeBrownOut, 1), (b2n p.causePowerOn, 0)]
  | 0x010 => word [(p.brownOuts.toNat, 24), (p.rstNs.toNat, 16), (p.watchdogs.toNat, 8), (p.warms.toNat, 0)]
  | 0x014 => word [(p.dormants.toNat, 16), (p.parapets.toNat, 0)]
  | 0x018 => word [(p.hostReadyMs.toNat, 16), (p.loadedMs.toNat, 0)]
  | 0x01C => word [(b2n p.snapValid, 31), (b2n p.snapRestored, 30)]
  | _ =>
    if 0x100 ≤ o ∧ o < 0x160 then
      let r := s.rail ((o - 0x100) / 8)
      match o % 8 with
      | 0 => word [(r.minMv.toNat, 16), (r.nowMv.toNat, 0)]
      | 4 => word [(r.warnings.toNat, 16), (r.dwells.toNat, 8), (r.resets.toNat, 0)]
      | _ => 0
    else 0

/-- A queue's registers (R361). -/
def State.readQueue (s : State) (n o : Nat) : W32 :=
  let u := s.queue n
  match o with
  | 0x00 => word [(b2n u.enable, 31), (b2n u.active, 30), (u.rqLog2.toNat, 4), (u.sqLog2.toNat, 0)]
  | 0x04 => u.sqLo
  | 0x08 => u.sqHi
  | 0x0C => u.rqLo
  | 0x10 => u.rqHi
  | 0x14 => word [(u.sqHead.toNat, 16), (u.rqTail.toNat, 0)]
  | 0x18 => u.next
  | 0x1C => word [(u.replies.toNat, 16), (u.badSeq.toNat, 8), (u.badDoorbell.toNat, 0)]
  | _ => 0

/-- An MSI-X table entry's words: address, data, vector control (R343). -/
def MsixEntry.reg (e : MsixEntry) (k : Nat) : W32 :=
  match k with
  | 0 => e.addrLo
  | 1 => e.addrHi
  | 2 => e.data
  | _ => BitVec.ofNat 32 (b2n e.masked)

/-- The HQ block, with the MSI-X table at 0x800 and the pending bits at 0xC00 of it (R343, R361). -/
def State.readHq (s : State) (o : Nat) : W32 :=
  let h := s.hq
  match o with
  | 0x000 => word [(b2n h.service, 31), (h.regRefused.toNat, 16), ((upto 16).foldl (fun v n => v + b2n (s.queue n).enable * 2 ^ n) 0, 0)]
  | 0x004 => word [(h.hostWrites.toNat, 16), (h.hostReads.toNat, 0)]
  | 0x008 => word [(h.badFlag.toNat, 16), (h.fabricRefused.toNat, 0)]
  | 0x00C => word [(b2n h.lastValid, 31), (b2n h.lastWrite, 30), (h.lastLot.toNat, 0)]
  | _ =>
    if 0x100 ≤ o ∧ o < 0x300 then s.readQueue ((o - 0x100) / 0x20) (o % 0x20)
    else if 0x800 ≤ o ∧ o < 0xA00 then (Table.get {} h.msix ((o - 0x800) / 16) : MsixEntry).reg (o % 16 / 4)
    else if o = 0xC00 then h.pba
    else 0

/-- The LOT flags block (R362). -/
def State.readLot (s : State) (o : Nat) : W32 :=
  if o < 0x4000 then word ((upto 16).map (fun i => ((s.lot (16 * (o / 4) + i)).toNat, 2 * i))) else 0

/-- LR_PORTn_STAT.role (R70, R95). -/
def State.portRole (s : State) (n : Nat) : Nat :=
  if n = 24 ∨ n = 25 then (if (s.plantCfg (n - 24)).enable then 5 else 0)
  else if !s.portEnabled n then 0
  else if n < 16 then 1
  else if n < 18 then 2
  else if n < 20 then 3
  else if n < 24 then 4
  else 6

/-- A link port's registers (R95). -/
def State.readPort (s : State) (n o : Nat) : W32 :=
  let p := s.port n
  let c := s.portCfg n
  match o with
  | 0x00 => word [(b2n p.linkUp, 31), (s.portRole n, 28), (b2n ((ringOfPort n).isSome && n % 2 == 1), 27), (b2n p.pcsSync, 26)
                 , ((ringOfPort n).getD 0, 0)]
  | 0x04 => word [(p.idleErr.toNat, 16), (p.deckErr.toNat, 0)]
  | 0x08 => p.deckOk
  | 0x0C => word [(p.damaged.toNat, 16), (p.poisoned.toNat, 0)]
  | 0x10 => word [(p.malformed.toNat, 16), (p.unknown.toNat, 0)]
  | 0x14 => p.delay
  | 0x18 => s.ifLoaded c.asym
  | 0x1C => word [(p.linkDowns.toNat, 16), (p.syncLosses.toNat, 0)]
  | 0x20 => s.ifLoaded (c.serdes &&& 0xFFF0000F)
  | _ => 0

/-- A ring's registers (R95). -/
def State.readRing (s : State) (r o : Nat) : W32 :=
  let g := s.ring r
  let c := s.ringCfg r
  match o with
  | 0x00 => word [(g.phase.code, 29), (b2n (g.start == .keystone), 28), (b2n g.weakSync, 27), (b2n c.configured, 26)
                 , (g.keystoneClaim.toNat, 16), (g.maxClaim.toNat, 8), (((g.hops.getD 0).toNat) % 32, 0)]
  | 0x04 => s.ifLoaded (wide c.layoutTag)
  | 0x08 => if s.cat.loaded && c.configured then word [(c.deckLen false, 16), (c.deckLen true, 0)] else 0
  | 0x0C => g.glap
  | 0x10 => g.dlap
  | 0x14 => wide g.depart
  | 0x18 => word [(g.lostGather.toNat, 16), (g.lostDeliver.toNat, 0)]
  | 0x1C => word [(g.ringLoss.toNat, 16), (g.consecutive.toNat, 0)]
  | 0x20 => half g.stopSent false
  | 0x24 => half g.stopSent true
  | 0x28 => word [(g.retries.toNat, 16), (g.failures.toNat, 0)]
  | _ =>
    if 0x40 ≤ o ∧ o < 0x80 then
      let p := (o - 0x40) / 4 + 1
      word [((Table.get 0 g.noAnswer p).toNat, 16), ((Table.get 0 g.missed p).toNat, 0)]
    else 0

/-- The LR block (R95). -/
def State.readLr (s : State) (o : Nat) : W32 :=
  if o < 0x800 then s.readPort (o / 0x40) (o % 0x40)
  else if 0x1000 ≤ o ∧ o < 0x1E00 then s.readRing ((o - 0x1000) / 0x100) (o % 0x100)
  else 0

end Sys2Proof.Machine
end

