-- ==== Sys2Proof/Machine/RegsMotion.lean ====
section
/-! DEFINITION. What reads of the LE, ZA, PG, AX and DIO registers return (R145, R177, R199, R283, R295), by offset in the block. An offset that holds no register reads 0 (R43), and so do bits that are write-only or clear themselves. -/
namespace Sys2Proof.Machine

/-- An arm set's registers (R145). -/
def State.readLeSet (s : State) (by_ : Requester) (a o : Nat) : W32 :=
  let v := s.armSet a
  let k : SetCfg := Table.get {} s.cfg.sets a
  match o with
  | 0x00 => half v.ptime false
  | 0x04 => s.latched by_ (latchPtime a)
  | 0x08 => word [(b2n v.frozen, 31), (b2n v.source, 16), (if s.cat.loaded then s.underrunLimit a else 0, 8)
                 , (if s.cat.loaded then k.knotLog2.toNat else 0, 0)]
  | 0x0C => word [(v.s2.toNat, 16), (v.s.toNat, 0)]
  | 0x10 => v.iSeg
  | 0x14 => word [(v.underruns.toNat, 16), (v.lostKnots.toNat, 8), (v.badScale.toNat, 0)]
  | _ => 0

/-- A loop channel's registers (R145). -/
def LeChan.reg (c : LeChan) (o : Nat) : W32 :=
  let f := c.flags
  if o = 0 then
    word [(c.eff.toNat, 29), (b2n f.driveOff, 8), (b2n f.skew, 7), (b2n f.followingError, 6), (b2n f.torqueLimited, 5), (b2n f.iClamped, 4)
         , (b2n f.vLimited, 3), (b2n f.satTorque, 2), (b2n f.satVel, 1), (b2n f.satRef, 0)]
  else word [(c.limited.toNat, 16), (c.extrap.toNat, 0)]

/-- The LE block with the joint records at 0x8000 (R145). -/
def State.readLe (s : State) (by_ : Requester) (o : Nat) : W32 :=
  match o with
  | 0x000 => word [(b2n s.leBusy, 31), (s.leDone, 24), (s.le.refused.toNat, 0)]
  | 0x004 => s.ifLoaded (BitVec.ofInt 32 spanRate)
  | 0x008 => s.ifLoaded (word [(s.cfg.runSteps.toNat, 16), (s.rateShift.toNat, 0)])
  | 0x00C => word [(s.le.lateChannels.toNat, 16), (s.le.lateRuns.toNat, 0)]
  | _ =>
    if 0x100 ≤ o ∧ o < 0x220 then s.readLeSet by_ ((o - 0x100) / 0x20) (o % 0x20)
    else if 0x400 ≤ o ∧ o < 0x640 then (s.chan ((o - 0x400) / 8)).reg (o % 8)
    else if 0x8000 ≤ o ∧ o < 0xC800 then u32 (s.leRecord ((o - 0x8000) / 0x100)) (o % 0x100)
    else 0

def SolvePhase.code : SolvePhase → Nat
  | .setUp => 1
  | .refactor => 2
  | .iterate => 3
  | .posting => 4

/-- A lane's registers (R177). -/
def State.readLane (s : State) (n o : Nat) : W32 :=
  let l := s.lane n
  match o with
  | 0x0 =>
    match l.run with
    | some r => word [(1, 31), (if s.stamp125 < r.setEnd then 1 else r.phase.code, 28), (r.slot.toNat % 4, 26), (r.iteration.toNat, 16), (l.queue.length, 0)]
    | none => word [(l.queue.length, 0)]
  | 0x4 => word [(l.solves.toNat, 16), (l.deadlineHits.toNat, 0)]
  | 0x8 => s.ifLoaded (wide (Table.get 0 s.cfg.laneUsed n : BitVec 20))
  | _ => 0

/-- The 8 bits of a signed exponent. -/
def expBits (e : Int) : Nat := (BitVec.ofInt 8 e).toNat

/-- A slot's registers (R177). -/
def State.readSlot (s : State) (i o : Nat) : W32 :=
  let k := s.slotCfg i
  let z := s.slot i
  match o with
  | 0x00 => s.ifLoaded (word [(b2n k.enabled, 31), (b2n k.token, 30), (b2n k.warm, 29), (b2n k.shift, 28), (b2n k.prime, 27), (k.nIt.toNat, 16)
                             , (k.period.toNat, 8), (k.phase.toNat, 0)])
  | 0x04 => s.ifLoaded (word [(k.m.toNat, 16), (k.n.toNat, 0)])
  | 0x08 => s.ifLoaded (word [(k.nnzL.toNat, 16), (k.nnzPa.toNat, 0)])
  | 0x0C => s.ifLoaded (wide k.offsetNs)
  | 0x10 => s.ifLoaded (word [(k.dlSpans.toNat, 24), (k.dlOffset.toNat, 0)])
  | 0x14 => s.ifLoaded (word [(k.listCap.toNat, 20), (k.base.toNat, 0)])
  | 0x18 => word [(b2n z.pending, 31), (z.entries.toNat, 0)]
  | 0x20 => s.zaRes i
  | 0x24 => z.last.seq
  | 0x28 => z.last.residP
  | 0x2C => z.last.residD
  | 0x30 => s.ifLoaded (word [(expBits k.eRd, 8), (expBits k.eRp, 0)])
  | 0x34 => word [(z.truncated.toNat, 16), (z.stale.toNat, 0)]
  | 0x38 => word [(z.rejected.toNat, 24), (z.suspect.toNat, 16), (z.postOverrun.toNat, 8), (z.startSkipped.toNat, 0)]
  | 0x3C => word [(z.pivotRepairs.toNat, 16), (z.rangeExceeded.toNat, 0)]
  | _ => 0

/-- The ZA block (R177). -/
def State.readZa (s : State) (o : Nat) : W32 :=
  if o = 0 then (upto 32).foldl (fun v n => v ||| BitVec.ofNat 32 (b2n (s.lane n).run.isSome * 2 ^ n)) 0
  else if 0x100 ≤ o ∧ o < 0x300 then s.readLane ((o - 0x100) / 0x10) (o % 0x10)
  else if 0x800 ≤ o ∧ o < 0x2800 then s.readSlot ((o - 0x800) / 0x40) (o % 0x40)
  else 0

def PlanKind.code : PlanKind → Nat
  | .idle => 0
  | .position => 1
  | .velocity => 2
  | .stop => 3
  | .hard => 4

/-- PG_CHc_STAT.left: the path time to the plan's end in Q16.8 spans, saturating (R199). -/
def State.planLeft (s : State) (c : Nat) : Nat :=
  let p := (s.prof c).plan
  let left := (phasesLength p.phases : Int) - p.time (s.pathTime (s.setOf c))
  if left ≤ 0 then 0 else min (roundDiv (left * one64) (p.stretch * 16777216)).toNat 0xFFFFFF

/-- A profile channel's registers (R199). -/
def State.readProf (s : State) (c o : Nat) : W32 :=
  let k := s.profCfg c
  let p := s.prof c
  match o with
  | 0x00 => s.ifLoaded (word [(b2n k.enabled, 31), (b2n k.hard, 30), (k.limitNeg.toNat, 8), (k.limitPos.toNat, 0)])
  | 0x04 => s.ifLoaded k.vMax
  | 0x08 => s.ifLoaded k.aMax
  | 0x0C => s.ifLoaded k.dMax
  | 0x10 => s.ifLoaded k.jMax
  | 0x14 => s.ifLoaded k.dStop
  | 0x18 => s.ifLoaded k.jStop
  | 0x1C => half p.tgt false
  | 0x20 => half p.tgt true
  | 0x24 => p.vtgt
  | 0x28 => word [(b2n p.kind, 30), (b2n p.grouped, 29), (p.group.toNat, 0)]
  | 0x2C => word [(p.plan.kind.code, 29), (b2n (s.planRest c), 28), (b2n p.plan.reversal, 27), (b2n p.waiting.isSome, 26), (b2n p.limPos, 25)
                 , (b2n p.limNeg, 24), (s.planLeft c, 0)]
  | 0x30 => word [(p.superseded.toNat, 24), (p.refused.toNat, 16), (p.limitStops.toNat, 8), (p.replans.toNat, 0)]
  | _ => 0

/-- The PG block (R199). -/
def State.readPg (s : State) (o : Nat) : W32 :=
  if o = 0 then word [(b2n s.pg.busy, 31), (s.pg.steps.toNat, 16), (s.pg.emptyStarts.toNat, 0)]
  else if 0x100 ≤ o ∧ o < 0x140 then
    let g := (o - 0x100) / 4
    word [((s.members g).length, 24), ((Table.get 0 s.pg.tSync g : BitVec 24).toNat, 0)]
  else if 0x200 ≤ o ∧ o < 0x224 then
    let a := (o - 0x200) / 4
    word [(b2n (s.pgSet a).req, 31), (b2n (s.pgSet a).toSolver, 30), (b2n (s.armSet a).source, 29), ((s.pgSet a).gaps.toNat, 0)]
  else if 0x240 ≤ o ∧ o < 0x264 then (s.pgSet ((o - 0x240) / 4)).hob
  else if 0x1000 ≤ o ∧ o < 0x2200 then s.readProf ((o - 0x1000) / 0x40) (o % 0x40)
  else 0

/-- A module's pulse-width registers (R283). -/
def State.readPw (s : State) (n o : Nat) : W32 :=
  let k := s.axCfg n
  let p := (s.axm n).pw
  match o with
  | 0x00 => s.ifLoaded (word [(b2n k.enable, 31), (k.mode.toNat, 28), (b2n k.direct, 27), (if n = 0 then 0 else b2n k.syncIn, 26), (k.nDiv.toNat, 22)
                             , (k.top.toNat, 0)])
  | 0x04 => s.ifLoaded (wide k.phase)
  | 0x08 => s.ifLoaded (word [(k.minPulse.toNat, 16), (k.dead.toNat, 0)])
  | 0x0C => s.ifLoaded (word [(b2n k.fltEn, 25), (b2n k.fltPol, 24), (k.faultLvl.toNat, 16), (k.idleLvl.toNat, 0)])
  | 0x10 => s.ifLoaded (word [(k.ocLimit.toNat, 16), (k.dutyMax.toNat, 0)])
  | 0x24 => p.forceReg
  | 0x28 => word [(b2n p.cut, 31), (b2n p.flt, 30), (b2n p.down, 29), (p.count.toNat, 0)]
  | 0x2C => word [(p.faultCuts.toNat, 16), (p.ocCuts.toNat, 8), (p.forceConflict.toNat, 0)]
  | 0x30 => s.ifLoaded (word [(b2n k.ext, 31), (k.div.toNat, 16), (k.fullSteps.toNat, 0)])
  | 0x34 => s.ifLoaded (word [(k.hold.toNat, 16), (k.run.toNat, 0)])
  | 0x38 => if k.mode = axStepDir then p.emitted else p.m
  | 0x3C => s.ifLoaded (word [(k.setup.toNat, 16), (k.width.toNat, 0)])
  | 0x40 => s.ifLoaded k.perTurn
  | 0x44 => wide p.overflow
  | _ => if 0x14 ≤ o ∧ o < 0x24 then Table.get 0 p.shadow ((o - 0x14) / 4) else 0

/-- A feedback channel's registers (R283). -/
def State.readFb (s : State) (by_ : Requester) (n o : Nat) : W32 :=
  let k := s.axCfg n
  let f := (s.axm n).fb
  match o with
  | 0x00 => s.ifLoaded (word [(k.kind.toNat, 30), (k.hallShift.toNat, 27), (k.velWindow.toNat, 23), (k.spacing.toNat, 0)])
  | 0x04 => s.ifLoaded k.cpt
  | 0x08 => s.ifLoaded k.lines
  | 0x0C => word [(b2n f.idxValid, 31), (f.expected.toNat, 0)]
  | 0x10 => f.count.setWidth 32
  | 0x14 => s.latched by_ (latchPos n)
  | 0x18 => word [(b2n f.idxErr, 31), (f.filtered.toNat, 4), (f.pins.toNat, 0)]
  | 0x1C => word [(f.glitch.toNat, 16), (f.illegal.toNat, 8), (f.idxMismatch.toNat, 0)]
  | 0x20 => word [(f.is1.toNat, 16), (f.is0.toNat, 0)]
  | 0x24 => s.ifLoaded k.isScale
  | 0x28 => s.ifLoaded (word [(b2n k.devEn, 31), (b2n k.laEn, 30), (k.react.toNat, 28), (k.stallSpans.toNat, 24)])
  | 0x2C => s.ifLoaded (word [(k.threshold.toNat, 16), (k.minSpeed.toNat, 0)])
  | 0x30 => if n < 2 then wide f.load else 0
  | 0x34 => word [(b2n f.active, 31), (f.laStalls.toNat, 8), (f.devStalls.toNat, 0)]
  | 0x38 => s.ifLoaded k.window
  | _ => 0

/-- The AX block (R283). -/
def State.readAx (s : State) (by_ : Requester) (o : Nat) : W32 :=
  if o = 4 then word [(b2n s.ax.pending, 31), (s.ax.loadOverrun.toNat, 0)]
  else if 0x100 ≤ o ∧ o < 0x500 then s.readPw ((o - 0x100) / 0x80) (o % 0x80)
  else if 0x800 ≤ o ∧ o < 0xA00 then s.readFb by_ ((o - 0x800) / 0x40) (o % 0x40)
  else 0

/-- The high half of a set of 48 pins. -/
def high48 (v : BitVec 48) : W32 := (v.extractLsb' 32 16).setWidth 32

/-- DIO_PINn_CFG (R295). -/
def PinCfg.reg (k : PinCfg) : W32 :=
  word [(b2n k.output, 31), (b2n k.type3, 30), (b2n k.continuous, 29), (k.safe.toNat, 27), (b2n k.faultSafe, 26), (k.filter.toNat, 0)]

/-- The DIO block (R295). -/
def State.readDio (s : State) (by_ : Requester) (o : Nat) : W32 :=
  let d := s.dio
  match o with
  | 0x000 => word [(b2n d.fault, 31), (b2n d.wdExpired, 30), (b2n d.safeActive, 29)]
  | 0x004 => d.inputs.setWidth 32
  | 0x008 => s.latched by_ latchDio
  | 0x010 => d.out.setWidth 32
  | 0x014 => high48 d.out
  | 0x028 => s.dioDir.setWidth 32
  | 0x02C => high48 s.dioDir
  | 0x040 => wide d.vfieldOk
  | 0x044 => wide (s.cfg.dioTimeout.getD 10)
  | 0x048 => word [(d.frameErr.toNat, 16), (d.faults.toNat, 8), (d.wdExpiries.toNat, 4), (d.refused.toNat, 0)]
  | _ => if 0x100 ≤ o ∧ o < 0x1C0 then (s.pinCfg ((o - 0x100) / 4)).reg else 0

end Sys2Proof.Machine
end

