-- ==== Sys2Proof/Machine/Nodes.lean ====
section
/-! DEFINITION. A deck's passage through a node (R73, R76 to R90, R93, R94, R98, R102 to R104, R110 to R116, R118 to R121), the device's own part as a node (R377 to R399), and the latch at the span instant (R21, R90). On a ring that this device does not lead, the node is this device. -/
namespace Sys2Proof.Machine

/-- Whether the node of a passage on ring r is this device. -/
def State.isSelf (s : State) (r : Nat) : Bool :=
  match (s.ring r).start with
  | .node => true
  | .listening => true
  | .backoff => true
  | _ => false

/-- The ring whose timing this device follows: the lowest on which it is a node and that is RUNNING (R114). Where none is, the lowest in LINE, and before the first runs the ring that integrates (DESIGN CHOICE, log entry 36). -/
def State.follows0 (s : State) (r : Nat) : Bool :=
  let on := fun (p : RingPhase) => rings14.filter (fun i => (s.ring i).start == .node && (s.ring i).phase == p)
  s.isSelf r && (match on .running ++ on .line with
    | i :: _ => i == r
    | [] => (s.ring r).phase == .integrate)

/-- A bit of a 16-bit header field at position p. -/
def bitAt (p : Nat) : W16 := BitVec.ofNat 16 (2 ^ (p - 1))

def or16 (b : Octets) (o : Nat) (v : W16) : Octets := put16 b o (u16 b o ||| v)

/-- The delay of the link by which a deck arrived, in ps (R77, R109): the device's own port knows its delay in 1/256 ns, of which a part below 1 ps is dropped (DESIGN CHOICE, log entry 35). -/
def State.linkPs (s : State) (r : Nat) (a : Passage) : Nat :=
  if s.isSelf r then (s.port (if a.east then eastPort r else westPort r)).delay.toNat * 1000 / 256 else a.linkDelayPs.toNat

/-- When a passing deck's K27.7 left the node: by the device's own transmit stamp, or as a node outside gives it at its own ball (R60, R111). -/
def State.leftAt (s : State) (r : Nat) (a : Passage) : Nat := if s.isSelf r then a.tx.sent else a.tx.plain

/-- When a passing deck's K27.7 reached the node (R60, R110). -/
def State.reachedAt (s : State) (r : Nat) (a : Passage) : Nat :=
  if s.isSelf r then a.rx.arrived (s.alignment (if a.east then eastPort r else westPort r)) else a.rx.plain

/-- The residence of a deck in ps (R86): the difference of the device's own two stamps, rounded half up (log entry 35), or what a node outside measured. -/
def State.residence (s : State) (r : Nat) (a : Passage) : Int :=
  if s.isSelf r then roundDiv (wideDiff (s.leftAt r a) (s.reachedAt r a) * 1000) 65536 else a.residencePs.toNat

/-- The running delay that the node writes over the one it received (R77, R86). -/
def State.runningDelay (s : State) (r : Nat) (received : Nat) (a : Passage) : Nat :=
  (BitVec.ofInt 32 ((received + s.linkPs r a : Nat) + s.residence r a)).toNat

/-- ps as 2^-16 ns, rounded half up. -/
def psFine (ps : Nat) : Nat := (ps * 65536 + 500) / 1000

/-- The referred stamp of a passage (R77, R111): the node's deck-start transmission less the running delay that it writes. -/
def State.referred (s : State) (r : Nat) (a : Passage) (running : Nat) : Nat := wrapStamp ((s.leftAt r a : Int) - psFine running)

/-- What the servo of R112 leaves: its state, the average in 2^-16 ns and the rate. -/
structure Corrected where
  servo : Servo
  avg : Int
  rate : Int

/-- Removes the first and last of a sorted list of four or more (R112). -/
def trimmed (l : List Int) : List Int := if 4 ≤ l.length then (l.drop 1).dropLast else l

def insertSorted (x : Int) : List Int → List Int
  | [] => [x]
  | y :: t => if x ≤ y then x :: y :: t else y :: insertSorted x t

def sorted (l : List Int) : List Int := l.foldr insertSorted []

/-- The greatest offset correction, 2 ppm, and 1 ppm while a worker slews (R112, R399), in 2^-40. -/
def offLimit (slow : Bool) : Int := if slow then 1099511 else 2199023

/-- The algorithm of R112 on a sync set, for span k. The average is held to 2^-16 ns, e, e / 16 and off to 2^-40, each rounded half up, which R112 states of TB0_RATE alone (DESIGN CHOICE, log entries 19 and 36). -/
def Servo.correct (v : Servo) (devs : List Int) (k : W32) (spanNs : Nat) (slow : Bool) : Option Corrected :=
  let l := trimmed (sorted devs)
  if l.isEmpty then none
  else
    let avg := roundDiv (l.foldl (· + ·) 0) l.length
    let dt : Int := ((k - v.kPrev).toNat * spanNs : Nat)
    let e := roundDiv ((avg - v.avgPrev) * 16777216) dt - v.off
    let base := if v.havePrev then v.base - roundDiv e 16 else v.base
    let off := clampInt (-(offLimit slow)) (offLimit slow) (roundDiv (-avg * 16777216) (8 * spanNs))
    some { servo := { base := base, off := off, avgPrev := avg, kPrev := k, havePrev := true }
           avg := avg, rate := roundShift (base + off) 8 }

/-- Whether this worker is removing its offset to the manager after a loss of the trunk (R399). -/
def State.slews (s : State) (r : Nat) : Bool := r == 13 && s.isSelf r && s.cfg.pair.hierRole == 2 && s.tb.tb0.mode == .holdover

/-- Sets a node's TB0 rate (R50): that of a node outside, or the device's own while it is disciplined; FREE and HOLDOVER keep their last rate (R51). -/
def State.nodeRate (s : State) (r pos : Nat) (rate : Int) : State :=
  if !s.isSelf r then s.setNode r pos { s.node r pos with rate := BitVec.ofInt 32 (clampInt (-rateMax) rateMax rate) }
  else if s.follows0 r && (s.tb.tb0.mode == .acquiring || s.tb.tb0.mode == .locked || s.slews r) then
    s.setTimeBase 0 (s.tb.tb0.withRate rate)
  else s

/-- Steps a node's TB0 by 2^-16 ns (R54, R110, R116). The device's own takes no step while a REFCLK fault is present (R48), nor where it is LOCKED through another ring. -/
def State.nodeStep (s : State) (r pos : Nat) (d : Int) : State :=
  let n := s.node r pos
  let s := s.setNode r pos { n with servo := { n.servo with havePrev := false }, stepped := true, mode := .locked, clock := n.clock + d }
  if s.isSelf r && s.follows0 r && !s.tb.refFault && !(s.tb.tb0.mode == .locked && s.tb.lockRing != some r) then
    let s := (s.stepTb 0 (BitVec.ofInt 64 (d / 65536)) false (BitVec.ofInt 32 (d % 65536 * 65536))).setMode 0 .locked
    { s with tb := { s.tb with lockRing := some r } }
  else s

def fiveNs : Int := 327680
def twentyNs : Int := 1310720

def absI (x : Int) : Int := if x < 0 then -x else x

/-- Exclusion and its end (R115, R116) after a result of R112. A span without a result neither counts towards the 16 spans of R116 nor breaks their run (DESIGN CHOICE, log entry 36). -/
def Node.exclude (n : Node) (avg : Int) : Node :=
  if n.excluded then
    let w := if absI avg ≤ fiveNs then n.within + 1 else 0
    if 16 ≤ w then { n with excluded := false, within := 0, exRun := 0, exSpans := 0 } else { n with within := w }
  else
    let x := if twentyNs < absI avg then n.exRun + 1 else 0
    if 3 ≤ x then { n with excluded := true, exRun := 0, within := 0, exSpans := 0, stepped := false, mode := .acquiring }
    else { n with exRun := x }

/-- A worker's TB0 is LOCKED again once the average has stayed within 5 ns for 16 spans (R399). -/
def State.slewed (s : State) (r pos : Nat) (avg : Int) : State :=
  let n := s.node r pos
  let w := if absI avg ≤ fiveNs then n.within + 1 else 0
  let s := s.setNode r pos { n with within := w }
  if 16 ≤ w then
    { s with red := { s.red with slewing := false, trunkOk := true, lostRun := 0 } }.setMode 0 .locked
  else s

/-- The sync set of a node in a verified gather deck, and the correction it makes (R111, R112, R115, R116). `b` is the deck as it reached the node. -/
def State.synchronises (s : State) (r pos : Nat) (b : Octets) (a : Passage) (ref : Nat) : State :=
  let n := s.node r pos
  let ref := ref % 2 ^ 64
  match n.excluded && !n.stepped, bayEntry b 0 with
  | true, some e0 =>
    let s := if s.isSelf r && s.follows0 r then s.setMode 0 .acquiring else s
    s.nodeStep r pos (-(stampDiff ref e0))
  | true, none => s
  | false, _ =>
    let own : List Int := if n.entry.syncSlot ≠ 0xFF ∧ ¬ n.excluded then [0] else []
    let slow := s.slews r
    match n.servo.correct ((entriesOf b).map (fun e => stampDiff ref e.2) ++ own) a.span s.spanNs slow with
    | none => s
    | some c =>
      let s := s.setNode r pos { s.node r pos with servo := c.servo }
      let s := s.nodeRate r pos c.rate
      let s := if s.follows0 r then s.setTimeBase 0 { s.tb.tb0 with offset := bvS 32 (roundDiv c.avg 256) } else s
      if slow then { s with red := { s.red with slewing := true } }.slewed r pos c.avg
      else
        let m := (s.node r pos).exclude c.avg
        let s := s.setNode r pos m
        if m.excluded && !n.excluded && s.follows0 r then s.setMode 0 .acquiring else s

/-- A node's duties towards mailbox bay 0 of a verified deck (R84, R85): acknowledges and takes a segment addressed to it. -/
def Node.mailTakes (n : Node) (o : Octets) : Node :=
  let dest := u8 o 0
  let kind := u8 o 2 &&& 0x7F
  let seq := u8 o 3
  if dest = 0xFE then { n with mailIn := n.mailIn ++ sliceO o 8 56 }
  else if dest ≠ n.position ∨ n.position = 0 ∨ kind = 3 then n
  else
    let n := { n with acks := n.acks ++ [seq] }
    if n.mailSeq = seq.setWidth 16 then n else { n with mailSeq := seq.setWidth 16, mailIn := n.mailIn ++ sliceO o 8 56 }

/-- Mailbox bay 1 in flight (R84): a node from position q on claims an empty bay for an acknowledge that is due, or for its own segment. -/
def Node.mailGives (n : Node) (b : Octets) (at_ : Nat) (mail : Option Octets) : Node × Octets :=
  if u8 b at_ ≠ 0xFF ∨ n.position.toNat < (u8 b (at_ + 1)).toNat then (n, b)
  else
    match n.acks with
    | seq :: rest => ({ n with acks := rest }, spliceO b at_ (ackBay 0 n.position seq))
    | [] => match mail with
      | some m => (n, spliceO b at_ (sliceO m 0 64))
      | none => (n, b)

/-- The ring table entry as the passing deck shows it: regions of the layout that the node needs. -/
def State.layout (s : State) (r : Nat) : RingCfg := s.ringCfg r

/-- The standard joint panels of a node (R80, R81): the offset of each in the node's deliver panel and in its gather panel. -/
def State.jointsAt (s : State) (r : Nat) (e : NodeEntry) : List (Nat × Nat) :=
  (chans72.filter (fun c =>
    let k := s.chanCfg c
    k.used && k.ring.toNat == r && decide (e.deliverOff ≤ k.deliverOff)
      && decide (k.deliverOff.toNat < e.deliverOff.toNat + e.deliverLen.toNat))).map
    (fun c => ((s.chanCfg c).deliverOff.toNat - e.deliverOff.toNat, (s.chanCfg c).gatherOff.toNat - e.gatherOff.toNat))

/-- A joint by the offset of its deliver panel. -/
def Node.joint (n : Node) (off : Nat) : JointState := Table.get {} n.joints off
def Node.setJoint (n : Node) (off : Nat) (j : JointState) : Node := { n with joints := Table.put {} n.joints off j }

/-- The status word that a joint reports (R82, R83, R90): what the node supplies, with the bits that the ring's rules fix; the reserved bits are 0. -/
def Node.statusBits (n : Node) (j : JointState) (w : W16) : W16 :=
  let w := if j.loss then w ||| 0x8 else w
  let w := bitSet w 6 (decide (0 < j.missRun))
  let w := if 2 ≤ j.missRun then w ||| 0x20 else w
  let w := bitSet w 8 (j.stopped || n.seen != 0)
  let w := if n.started then w else w &&& 0xFFF9
  (w &&& 0x03FF) ||| (j.control.getD 0 &&& 0xF000)

/-- A node's gather panel with the status words of its joints, each in its gather panel (R81). -/
def State.nodePanel (s : State) (r : Nat) (n : Node) (panel : Octets) : Octets :=
  (s.jointsAt r n.entry).foldl (fun p o => put16 p (o.2 + 16) (n.statusBits (n.joint o.1) (u16 p (o.2 + 16)))) (sliceO panel 0 n.entry.gatherLen.toNat)

/-- A worker's trunk panel (R394): its states as at the last span instant, the requests that its runtime has prepared, its health. -/
def State.workerPanel (s : State) (given : Octets) : Octets :=
  let arms := arms8.foldl (fun v a => v + (Table.get ArmState.unused s.dev.armsAt a).code * 4 ^ a) 0
  let d := s.dev
  let health := b2n (d.vc.low || d.za.low || d.le.low)
    + 2 * b2n (d.vc.overruns != 0 || d.za.overruns != 0 || d.le.overruns != 0)
    + 4 * b2n (rings14.any (fun r => decide (2 ≤ (s.ring r).consecutive.toNat))) + 8 * b2n s.red.diverged
  [BitVec.ofNat 8 d.cellAt.code, s.cfg.armsUsed] ++ leBytes 2 arms ++ sliceO given 4 17 ++ [BitVec.ofNat 8 health] ++ List.replicate 10 0

/-- What a node writes into a gather-layout deck (R76 to R80, R84, R87, R115). `run` is the running delay it writes. -/
def State.gatherWrites (s : State) (r pos : Nat) (b : Octets) (a : Passage) (run ref : Nat) : State × Octets :=
  let n := s.node r pos
  let k := s.layout r
  let own := s.isSelf r
  let locked := (if own then s.tb.tb0.mode else n.mode) == .locked
  let bit := bitAt n.position.toNat
  let fresh := a.panelReady
  let panel := if own && r == 13 && s.cfg.pair.hierRole == 2 then s.workerPanel a.panel else s.nodePanel r n a.panel
  let b := put32 b 16 (BitVec.ofNat 32 run)
  let b := if n.entry.syncSlot ≠ 0xFF ∧ n.entry.syncSlot ≠ 0 ∧ locked ∧ ¬ n.excluded
    then spliceO b (entryAt n.entry.syncSlot.toNat) (stampOctets ref) else b
  let b := if n.excluded then b
    else spliceO b n.entry.gatherOff.toNat (sliceO (if fresh then panel else n.sample) 0 n.entry.gatherLen.toNat)
  let b := if n.entry.safetyFirst = 0xFF then b
    else spliceO b (k.bayAt true n.entry.safetyFirst.toNat) (sliceO (if fresh then a.containers else n.given).flatten 0 (24 * n.entry.safetyCount.toNat))
  let b := if fresh ∧ ¬ n.excluded then or16 b 12 bit else b
  let b := if n.missedFlag ∨ n.excluded then or16 b 14 bit else b
  let b := if own then spliceO b (claimAt true) [BitVec.ofNat 8 (max (u8 b (claimAt true)).toNat (s.ringClaim r).toNat)] else b
  let n := { n with
    sample := if fresh then panel else n.sample, given := if fresh then a.containers else n.given
    counts := if fresh then n.counts else { n.counts with lateSample := inc n.counts.lateSample } }
  (s.setNode r pos n, b)

/-- A deck's part that every writing node shares: the stop bits and mailbox bay 1 (R79, R84). -/
def State.commonWrites (s : State) (r pos : Nat) (g : Bool) (b : Octets) (a : Passage) : State × Octets :=
  let k := s.layout r
  let b := put64 b (stopAt g) (u64 b (stopAt g) ||| a.stopBits)
  let m := (s.node r pos).mailGives b (k.mailAt g 1) a.mail
  (s.setNode r pos m.1, m.2)

/-- A deliver deck that this device's node does not apply counts towards the loss of the trunk (R399). -/
def State.trunkMiss (s : State) (r pos : Nat) : State :=
  if !(s.isSelf r && r == 13 && s.cfg.pair.hierRole == 2 && (s.node r pos).started) then s
  else
    let run := s.red.lostRun
    let s := { s with red := { s.red with lostRun := inc run } }
    if run ≠ 1 then s
    else
      let s := { s with red := { s.red with trunkOk := false, slewing := false, trunkLosses := inc s.red.trunkLosses } }
      let s := s.setNode r pos { s.node r pos with within := 0 }
      let s := s.setMode 0 .holdover
      s.each arms8 (fun s i =>
        if (upto 64).any (fun g => (Table.get 0xFF s.red.holders g).toNat == 8 * s.cfg.pair.worker.toNat + i) then s.armStop i else s)

/-- What this device takes as a worker from an applied trunk deliver deck (R395, R397 to R399): the command record, the reservation table and the relayed containers. -/
def State.workerTakes (s : State) (b : Octets) : State :=
  let op := u16 b 36
  let e : ReplPending := { effect := u32 b 40, cmd := { opcode := op, params := BitVec.ofNat 448 (fieldO b 44 56), list := [] }, onTrunk := true }
  let table := (upto 64).foldl (fun t g => Table.put 0xFF t g (u8 b (100 + g))) ([] : Table Byte)
  let k := s.ringCfg 13
  let s := { s with red := { s.red with
    repl := if op = 0 then s.red.repl else s.red.repl ++ [e]
    holders := table, lostRun := 0 } }
  s.each (upto k.bayIn.length) (fun s i =>
    let c := (k.bayIn.getD i 0xFFFF).toNat
    if c < 256 then s.wardenTakes c (sliceO b (k.bayAt false i) 24) else s)

/-- Trunk stop bits enter a worker's own cell stop word (R398). -/
def State.trunkStops (s : State) (bits : W64) : State :=
  let m := s.cfg.pair.trunkStops.foldl (fun m e => if bits.getLsbD e.1.toNat then m ||| e.2 else m) (0 : W64)
  if m = 0 then s
  else
    let new := (m &&& ~~~ s.lr.posted) != 0
    { s with lr := { s.lr with posted := s.lr.posted ||| m }
             red := { s.red with stopsRelayed := if new then inc s.red.stopsRelayed else s.red.stopsRelayed } }

/-- A deliver deck at a node: whether it applies (R89), what it holds for the next span instant, and what this device takes from it. -/
def State.deliverReads (s : State) (r pos : Nat) (d : Octets) (good : Bool) (a : Passage) : State :=
  let b := deckBody d
  let n := s.node r pos
  let claims := u8 b (claimAt false) = u8 b (claimAt false + 1) && u8 b (claimAt false) != 0
  if !good then s.trunkMiss r pos
  else if !claims then (s.setNode r pos { n with counts := { n.counts with claim := inc n.counts.claim } }).trunkMiss r pos
  else if a.late then (s.setNode r pos { n with counts := { n.counts with late := inc n.counts.late } }).trunkMiss r pos
  else if n.excluded then s
  else
    let s := s.setNode r pos { n with next := some b }
    if s.isSelf r && r == 13 && s.cfg.pair.hierRole == 2 then s.workerTakes b else s

/-- In flight, the standby writes its output check into its comparison slot of the deliver deck (R384). -/
def State.standbySlot (s : State) (r : Nat) (b : Octets) : Octets :=
  if s.isSelf r && s.shadows r && (s.ring r).frozen then spliceO b (claimAt false + s.slotOf) (leBytes 4 (s.outputCheck r).toNat) else b

/-- The container sequence numbers of the deliver decks that a standby sees pass: its first containers as active unit follow on (R390). -/
def State.seesContainers (s : State) (r : Nat) (b : Octets) : State :=
  let k := s.ringCfg r
  s.each (upto k.bayOut.length) (fun s i =>
    let c := (k.bayOut.getD i 0xFFFF).toNat
    if c < 256 && !(s.connCfg c).relay then
      let u : OutConn := Table.get {} s.saf.outConns c
      { s with saf := { s.saf with outConns := Table.put {} s.saf.outConns c { u with seq := u16 b (k.bayAt false i + 1) } } }
    else s)

/-- A deck of the span that passes this device as a node: the spans of R37 count in a worker and in a standby as they do in the keystone, and a standby counts a lost deliver deck (R380). -/
def State.ownPassage (s : State) (r pos : Nat) (g bad : Bool) (b : Octets) : State :=
  if !s.isSelf r || (g && s.shadows r) then s
  else if bad || (s.node r pos).excluded then
    if s.shadows r then s.lostDeck r false else s.setRing r { s.ring r with goodDecks := 0, goodSpans := 0 }
  else
    let s := s.goodDeck r
    (if s.shadows r then s.seesContainers r b else s).parkWhenReady

/-- A GATHER, DELIVER or RECOVER deck whose tag and ring match (R89). `first` is the first passage. A late deliver deck is none of the span that follows. -/
def State.cycleDeck (s : State) (r pos : Nat) (d : Octets) (v : Verdicted) (a : Passage) (first : Bool) : State × Octets :=
  let b := deckBody d
  let g := gatherLayout d
  let n := s.node r pos
  let bad := v != .good
  if u32 b 2 ≠ a.span then
    ((s.setNode r pos { n with counts := { n.counts with span := inc n.counts.span } }), sealDeck b bad)
  else if !first then (s, sealDeck b bad)
  else
    let run := s.runningDelay r (fieldO b 16 4) a
    let ref := s.referred r a run
    let c := s.commonWrites r pos g b a
    let w := if g then c.1.gatherWrites r pos c.2 a run ref else (c.1, c.1.standbySlot r c.2)
    let s := w.1
    let s := if bad then s else s.setNode r pos ((s.node r pos).mailTakes (sliceO b ((s.layout r).mailAt g 0) 64))
    let s := if g then (if bad then s else s.synchronises r pos b a ref)
      else (s.setNode r pos { s.node r pos with arrived := (s.node r pos).arrived || !a.late }).deliverReads r pos d (!bad) a
    let s := s.ownPassage r pos g bad b
    (if s.isSelf r then s.linkLostAt r else s, sealDeck w.2 bad)

/-- Whether a node's deviation is within 5 ns in an ALIGN deck after its step (R104, R110). A device whose TB0 is LOCKED through another ring takes no step. -/
def State.aligns (s : State) (r pos : Nat) (b : Octets) (a : Passage) (run : Nat) : State :=
  let n := s.node r pos
  let ks := fieldO b 16 8 * 65536 + fieldO b 24 2
  let held := s.isSelf r && s.tb.tb0.mode == .locked && s.tb.lockRing != some r
  if !n.stepped ∧ !held then
    s.nodeStep r pos (wideDiff (ks + psFine (fieldO b 28 4 + s.linkPs r a)) (s.reachedAt r a))
  else
    let s := if n.stepped then s else s.setNode r pos { n with stepped := true, mode := .locked }
    let n := s.node r pos
    let dev := wideDiff (s.referred r a run) ks
    let w := if absI dev ≤ fiveNs then n.within + 1 else 0
    let s := s.setNode r pos { n with within := w, ready := decide (4 ≤ w) }
    match n.servo.correct [dev] a.span s.spanNs false with
    | none => s
    | some c => (s.setNode r pos { s.node r pos with servo := c.servo }).nodeRate r pos c.rate

/-- A node integrates anew (R90): its joints have accepted no panel; what they react to stays. -/
def Node.renewed (n : Node) : Node :=
  { n with
    started := false, next := none, missRun := 0, missedFlag := false, excluded := false, exRun := 0, exSpans := 0
    mode := .acquiring, passed := [], servo := { n.servo with havePrev := false }
    joints := n.joints.foldl (fun t e => Table.put {} t e.1 { e.2 with control := none, missRun := 0 }) [] }

/-- Whether the device's own ports hold the probe results that R104 asks for. -/
def State.ownProbes (s : State) (r : Nat) : Bool :=
  ([eastPort r, westPort r].filter s.connected).all (fun p => decide (8 ≤ (s.port p).results.length))

/-- A verified INTEGRATE deck (R103, R104, R109, R110). The results of a port count from the start of PROBE on. -/
def State.integrates (s : State) (r pos : Nat) (b : Octets) (a : Passage) (run : Nat) : State :=
  let n := s.node r pos
  let phase := u8 b 34
  let new := n.phase != phase
  let n := if new then { n with phase := phase, ready := false, within := 0, stepped := if phase = 2 then false else n.stepped } else n
  if phase = 0 then
    let o := sliceO b (40 + 32 * (n.position.toNat - 1)) 32
    let e := NodeEntry.ofOctets o
    let ok := o.any (· != 0) && (u8 b 32).toNat + 1 == n.position.toNat && e.identity == a.identity
    let s := s.setNode r pos { n.renewed with entry := e, tag := u16 b 10, configured := true, ready := ok }
    if new && s.isSelf r && s.tb.tb0.mode == .locked && s.tb.lockRing == some r then s.setMode 0 .acquiring else s
  else if !n.configured then s
  else if phase = 1 then
    if s.isSelf r then
      let s := if new then s.each [eastPort r, westPort r] (fun s p => s.setPort p { s.port p with results := [] }) else s
      s.setNode r pos { n with ready := s.ownProbes r }
    else s.setNode r pos { n with ready := a.probesReady }
  else (s.setNode r pos n).aligns r pos b a run

/-- An INTEGRATE deck at a node (R102 to R104): the running delay, the hops and the ready bit in flight; the rest once the check has verified. A node that took no position from the COLD decks passes it on and waits for the next integration (R97). -/
def State.integrateDeckAt (s : State) (r pos : Nat) (b : Octets) (v : Verdicted) (a : Passage) : State × Octets :=
  let n := s.node r pos
  if n.position = 0 then (s, sealDeck b (v != .good))
  else
    let run := s.runningDelay r (fieldO b 28 4) a
    let w := put32 b 28 (BitVec.ofNat 32 run)
    let w := spliceO w 32 [u8 b 32 + 1]
    let w := if n.ready ∧ n.phase = u8 b 34 then or16 w 36 (bitAt n.position.toNat) else w
    let s := if v = .good then s.integrates r pos b a run else s
    let s := if s.isSelf r && v == .good then s.setRing r { s.ring r with phase := .integrate, phaseNo := u8 b 34, keystoneClaim := u8 b 6 } else s
    (s, sealDeck w (v != .good))

/-- The counts of a deck (R88, R89), in the node and on the device's own port. -/
def State.countAt (s : State) (r pos : Nat) (v : Verdicted) (east : Bool) : State :=
  let s := if s.isSelf r then s.countDeck (if east then eastPort r else westPort r) v else s
  let n := s.node r pos
  let c := n.counts
  s.setNode r pos { n with counts := match v with
    | .good => c
    | .damaged => { c with damaged := inc c.damaged }
    | .poisoned => { c with poisoned := inc c.poisoned }
    | .malformed => { c with malformed := inc c.malformed }
    | .unknown => { c with unknown := inc c.unknown } }

/-- The arm halt bits and the cell stop: a joint also brakes and disables (R79). -/
def haltBits : W64 := 0x800000000000FF00

/-- Stop bits act as soon as the stop bay has passed (R94): a joint decelerates, and brakes and disables for a halt bit or the cell stop, by the default meanings of R79 (log entry 35). A worker's trunk bits enter its own stop word (R398). -/
def State.seesStops (s : State) (r pos : Nat) (bits : W64) : State :=
  let n := s.node r pos
  let hit := bits &&& n.entry.stopMask
  let halt := (hit &&& haltBits) != 0
  let s := if hit = 0 then s
    else
      let n := (s.jointsAt r n.entry).foldl (fun n o =>
        let j := n.joint o.1
        n.setJoint o.1 { j with stopped := true, halted := j.halted || halt }) n
      s.setNode r pos { n with seen := n.seen ||| hit, stopped := true, halted := n.halted || halt }
  if s.isSelf r && r == 13 && s.cfg.pair.hierRole == 2 then s.trunkStops bits else s

/-- A device that listens and hears a led ring on its west port becomes a node, and takes part from the next integration (R97). -/
def State.hearsLed (s : State) (r pos : Nat) (d : Octets) (east : Bool) : State :=
  if (s.ring r).start = .listening ∧ east = false ∧ 2 ≤ (deckType d).toNat ∧ (deckType d).toNat ≤ 5 then
    (s.becomeNode r (u8 (deckBody d) 6)).setNode r pos { s.node r pos with configured := false, position := 0, phase := 255 }
  else s

/-- On a ring that the device follows, GATHER and DELIVER decks make it RUNNING, RECOVER decks LINE. -/
def State.followsPhase (s : State) (r : Nat) (d : Octets) (v : Verdicted) : State :=
  if !(s.isSelf r && (s.ring r).start == .node && v == .good) then s
  else
    let g := s.ring r
    if g.phase = .cold ∨ g.phase = .silent then s
    else
      let b := deckBody d
      let s := if g.phase.runs then s
        else
          let s := s.setRing r { g.fresh (List.replicate ((s.ringCfg r).deckLen true) 0) with phase := .running }
          let s := s.ringStarts r
          if r = 13 ∧ s.cfg.pair.hierRole = 2 then { s with red := { s.red with trunkOk := true } } else s
      let g := s.ring r
      s.setRing r { g with phase := if deckType d = typeRecover then .line else .running, keystoneClaim := u8 b 6 }

/-- The side on which a node sends on what arrived: an end turns it back, every other node sends it out of its other port (R119). -/
def State.sendsEast (s : State) (r : Nat) (own fromEast : Bool) : Bool :=
  if !own then !fromEast
  else match (s.ring r).lineEnd with
    | .east => false
    | .west => true
    | .none => !fromEast

/-- DECK_ARRIVAL (R89): a deck passes a node. A malformed deck goes on poisoned, cut at the received length, with the stop bits that the node set while its stop bay passed (R88, R93). -/
def execDeckArrival (r : BitVec 4) (pos : BitVec 5) (deck : Octets) (pass_ : Passage) (s : State) : Host.Outcome State Fault Refusal :=
  let n := r.toNat
  let p := pos.toNat
  let a := pass_
  if s.isSelf n && !s.portEnabled (if a.east then eastPort n else westPort n) then done s
  else
  let s := s.hearsLed n p deck a.east
  let v := if a.cut then (if judgeDeck deck = .unknown then .unknown else .malformed) else judgeDeck deck
  let b := deckBody deck
  let type := deckType deck
  let cycle := type == typeGather || type == typeDeliver || type == typeRecover
  let s := if cycle then s.seesStops n p (stopBits deck) else s
  let s := if s.isSelf n && (type == typeCold || type == typeIntegrate) then s.setRing n { s.ring n with lineEnd := s.renewedEnd n } else s
  let node := s.node n p
  let fits := node.configured && node.tag == u16 b 10 && (u8 b 7).toNat == n
  let out : State × Octets :=
    if v = .unknown then (s.countAt n p v a.east, b)
    else if v = .malformed then
      let at_ := stopAt (gatherLayout deck)
      let b := if cycle && fits && decide (at_ + 8 ≤ b.length) then put64 b at_ (u64 b at_ ||| a.stopBits) else b
      (s.countAt n p v a.east, if b.length < 4 then b else sealDeck b true)
    else if type = typeCold then (s.countAt n p v a.east).coldDeckAt n p b v
    else if type = typeIntegrate then (s.countAt n p v a.east).integrateDeckAt n p b v a
    else if !fits then
      let s := s.countAt n p v a.east
      let node := s.node n p
      (s.setNode n p { node with counts := { node.counts with layout := inc node.counts.layout } }, b)
    else
      let s := (s.countAt n p v a.east).followsPhase n deck v
      let key := (u32 b 2, gatherLayout deck)
      let again := type == typeRecover && node.passed.contains key
      let s := if type = typeRecover then s.setNode n p { s.node n p with passed := (key :: node.passed).take 4 } else s
      s.cycleDeck n p deck v a (!again)
  let own := s.isSelf n
  done (out.1.forwards n own [] (type :: out.2) (out.1.sendsEast n own a.east))

/-- A joint's panel at the span instant that no accepted panel replaces (R90): extrapolated by one span, and from the second span on held. -/
def State.jointMisses (s : State) (n : Node) (old : Octets) (off : Nat) : Node :=
  let j := n.joint off
  let p := sliceO old off 20
  let p := if j.missRun = 0 then put64 p 4 (movedBy (u64 p 4) (u32 p 12) s.spanNs) else put32 p 12 0
  { n.setJoint off { j with missRun := j.missRun + 1 } with panel := spliceO n.panel off p }

/-- A node latches its previous set-points extrapolated (R90). -/
def State.nodeExtrapolates (s : State) (r : Nat) (n : Node) : Node :=
  { (s.jointsAt r n.entry).foldl (fun m o => s.jointMisses m n.panel o.1) n with missRun := n.missRun + 1 }

/-- A joint takes a control word (R82, R94): fault_reset's edge ends the loss reaction; an edge of enable or fault_reset resumes where every subscribed bit is clear. -/
def JointState.takes (j : JointState) (w : W16) (clear : Bool) : JointState :=
  let rise := match j.control with | some c => w &&& ~~~ c | none => 0
  let j := if rise.getLsbD 4 then { j with loss := false } else j
  let j := if clear && (rise &&& 0x11) != 0 then { j with stopped := false, halted := false } else j
  { j with control := some w, missRun := 0 }

/-- Whether a joint has accepted the seq of a control word last (R82). -/
def JointState.stale (j : JointState) (w : W16) : Bool := match j.control with | some c => c >>> 12 == w >>> 12 | none => false

/-- A node latches the deck it has accepted (R21, R82, R89, R94). A joint whose seq repeats treats its panel as missing. -/
def State.nodeApplies (s : State) (r : Nat) (n : Node) (b : Octets) : Node :=
  let e := n.entry
  let new := sliceO b e.deliverOff.toNat e.deliverLen.toNat
  let joints := s.jointsAt r e
  let bits := u64 b (stopAt false) &&& e.stopMask
  let k := s.ringCfg r
  let old := n.panel
  let n := { n with seen := bits, started := true, panel := new
                    taken := if e.safetyFirst = 0xFF then [] else (upto e.safetyCount.toNat).map (fun i => sliceO b (k.bayAt false (e.safetyFirst.toNat + i)) 24) }
  let miss := joints.any (fun o => (n.joint o.1).stale (u16 new (o.1 + 16)))
  let n := joints.foldl (fun n o =>
    let w := u16 new (o.1 + 16)
    if (n.joint o.1).stale w then s.jointMisses n old o.1 else n.setJoint o.1 ((n.joint o.1).takes w (bits == 0))) n
  { n with missRun := if miss then n.missRun + 1 else 0, missedFlag := miss }

/-- A node at the span instant (R21, R90, R116). After 64 spans in exclusion the re-integration begins again, with the time base ACQUIRING. -/
def State.nodeInstant (s : State) (r pos : Nat) : State :=
  let n := s.node r pos
  if !n.configured then s
  else
    let n := if n.excluded then { n with exSpans := n.exSpans + 1 } else n
    let again := n.excluded && decide (64 ≤ n.exSpans)
    let n := if again then { n with exSpans := 0, stepped := false, within := 0, mode := .acquiring } else n
    let s := if again && s.follows0 r then s.setMode 0 .acquiring else s
    match n.next with
    | some b => s.setNode r pos (s.nodeApplies r { n with next := none, arrived := false } b)
    | none =>
      if n.started then
        let none_ := !n.arrived
        let n := s.nodeExtrapolates r n
        let n := { n with missedFlag := true, arrived := false
                          counts := if none_ then { n.counts with missing := inc n.counts.missing } else n.counts }
        let s := s.setNode r pos n
        if none_ then s.trunkMiss r pos else s
      else s.setNode r pos { n with arrived := false }

/-- NODE_DATA_LOSS (R90): after its data-loss time without an applied deck a node performs its loss reaction, each joint by its own panels. -/
def execNodeDataLoss (r : BitVec 4) (pos : BitVec 5) (s : State) : Host.Outcome State Fault Refusal :=
  let n := s.node r.toNat pos.toNat
  let limit := if n.entry.dataLoss = 0 then 4 else n.entry.dataLoss.toNat
  if !n.started then done s
  else
    let m := (s.jointsAt r.toNat n.entry).foldl (fun m o =>
      let j := m.joint o.1
      if limit ≤ j.missRun then m.setJoint o.1 { j with loss := true } else m) n
    done (s.setNode r.toNat pos.toNat { m with loss := m.loss || decide (limit ≤ n.missRun) })

end Sys2Proof.Machine
end

