-- ==== Sys2Proof/Machine/Pair.lean ====
section
/-! DEFINITION. The redundant pair: the cross-link, the comparison of outputs, divergence, transfer, takeover and the alignment of a standby (R375 to R392). -/
namespace Sys2Proof.Machine

/-- RED_STAT.role (R375). -/
def PairRole.code : PairRole → Nat
  | .single => 0
  | .active => 1
  | .standby => 2
  | .passive => 3

def State.setRole (s : State) (r : PairRole) : State := { s with red := { s.red with role := r } }

/-- The rings that the pair shares (R375). -/
def State.sharedRings (s : State) : List Nat := rings14.filter s.shared

/-- A unit that withdraws from standby (R386). -/
def State.passes (s : State) : State := { s with red := { s.red with role := .passive, stateAligned := false } }

/-- The result of a span's comparison enters the runs (R385 to R387): health counts afresh from a matched span, two mismatched spans make the unit evaluate its health, and eight stop the cell in the active unit where no unit has withdrawn. -/
def State.tallySpan (s : State) (c : CmpResult) : State :=
  let r := s.red
  match c with
  | .notCompared => s
  | .matched =>
    { s with red := { r with
      matchRun := BitVec.ofNat 9 (min 256 (r.matchRun.toNat + 1)), run := 0, diverged := false, healthy := true, evalSpan := none, judged := false } }
  | .mismatched =>
    let n := inc r.run
    let s := { s with red := { r with
      matchRun := 0, mismatched := inc r.mismatched, run := n, diverged := true
      evalSpan := if n = 2 then some s.span32 else r.evalSpan } }
    if n = 8 ∧ s.red.role = .active ∧ s.red.partnerRole = 2 ∧ ¬ s.red.transferDue ∧ s.red.transferAt = none then
      s.raise { code := 0x1102, source := srcRed }
    else s

/-- The outcome of a divergence by the health of both units (R386). -/
def State.outcome (s : State) : State :=
  let r := s.red
  let s : State := { s with red := { r with judged := true, evalSpan := none } }
  match r.role, r.healthy, r.partnerHealthy with
  | .active, false, true => { s with red := { s.red with transferDue := true, withdrawals := inc r.withdrawals } }
  | .active, true, true => { s with red := { s.red with divergences := inc r.divergences } }.raise { code := 0x1101, source := srcRed }
  | .standby, false, true => { s with red := { s.red with withdrawn := true, withdrawals := inc r.withdrawals } }.passes
  | .standby, false, false => s.passes
  | _, _, _ => s

/-- Once the partner's heartbeat that follows the evaluation is here, the pair acts (R386). -/
def State.judgePair (s : State) : State :=
  match s.red.evalSpan with
  | some e => if s.span32 ≠ e ∧ ¬ s.red.judged then s.outcome else s
  | none => s

/-- The partner's heartbeat (R379, R385, R388). -/
def State.partnerBeat (s : State) (role : BitVec 2) (healthy : Bool) (cmp : CmpResult) (transfer : Option W32) : State :=
  let s : State := { s with red := { s.red with
    partnerRole := role, partnerHealthy := healthy
    transferAt := match s.red.role, transfer with | .standby, some h => some h | _, _ => s.red.transferAt } }
  let s := s.judgePair
  if s.red.role = .standby then s.tallySpan cmp else s

/-- ns from now to the instant of a span. -/
def State.untilSpan (s : State) (e : W32) : Int := (e - s.span32).toInt * (s.spanNs : Int) - (s.inSpan : Int)

/-- A command record (R382, R383): one that comes later than 2 µs before its effect span is not applied and makes the standby unhealthy. -/
def State.partnerCommand (s : State) (e : W32) (c : ReplCommand) : State :=
  if s.red.role ≠ .standby then s
  else if s.untilSpan e < 2000 then { s with red := { s.red with healthy := false } }
  else { s with red := { s.red with repl := s.red.repl ++ [{ effect := e, cmd := c }] } }

/-- A part of a state image enters the state (R391). -/
def State.takePart (s : State) (p : StatePart) : State :=
  match p with
  | .joint c o => if c.toNat < 72 then s.setChan c.toNat ((s.chan c.toNat).fromRecord (sliceO o 0 256)) else s
  | .pathTime a t => if a.toNat < 9 then s.setArmSet a.toNat { s.armSet a.toNat with ptime := t } else s
  | .results i r0 r1 b => s.setSlot i.toNat { s.slot i.toNat with result0 := r0, result1 := r1, buffer := b }
  | .profile g =>
    let s := s.each (upto 72) (fun s c =>
      let n := Table.get {} g.chans c
      s.setProf c { s.prof c with
        tgt := n.tgt, vtgt := n.vtgt, kind := n.kind, grouped := n.grouped, group := n.group, target := n.target
        waiting := n.waiting, plan := n.plan })
    { s with pg := { s.pg with tSync := g.tSync, starts := g.starts } }
  | .warden arms seqs =>
    let s := s.each arms8 (fun s a =>
      let n : WArm := Table.get {} arms a
      s.setWarm a { s.warm a with
        scale := n.scale, prot := n.prot, parDemand := n.parDemand, restartWait := n.restartWait, needRestart := n.needRestart })
    { s with saf := { s.saf with outConns := seqs.foldl (fun t e =>
      Table.put {} t e.1 { (Table.get {} t e.1 : OutConn) with seq := e.2 }) s.saf.outConns } }
  | .memory a o => s.copyMem a.toNat o false

/-- What a unit takes from a record whose check is good (R379). -/
def State.takeRecord (s : State) (x : XRecord) : State :=
  let standby := s.red.role == .standby
  match x with
  | .heartbeat role _ healthy _ cmp transfer => s.partnerBeat role healthy cmp transfer
  | .verdict r k good answers =>
    if !standby then s
    else
      let v : Verdict := { span := k, good := good, answers := answers, given := true }
      let s : State := { s with red := { s.red with verdicts := Table.put {} s.red.verdicts r.toNat v } }
      if s.shadows r.toNat then s.standbyWork r.toNat else s
  | .command e c => s.partnerCommand e c
  | .fieldImage i => if standby then { s with red := { s.red with fieldImage := some i } } else s
  | .ringParams r glap dlap d _ =>
    if s.red.role == .active || !s.shared r.toNat then s
    else (s.setRing r.toNat { s.ring r.toNat with glap := glap, dlap := dlap, depart := d }).setDeadlineVc
  | .stateImage p last =>
    if s.red.role ≠ .passive then s
    else
      let s := s.takePart p
      if last then { s with red := { s.red with role := .standby, stateAligned := true } } else s
  | .idle => s

/-- The records of one lane that the other has not brought yet; those older than a span count no more. -/
def State.recent (s : State) (l : List (W32 × XRecord)) : List (W32 × XRecord) :=
  l.filter (fun e => decide ((s.span32 - e.1).toNat ≤ 1))

/-- CROSS_LINK_RECORD (R379): both lanes carry the same records, and what the second brings is taken once. -/
def execCrossLinkRecord (lane checkGood : Bool) (rec : XRecord) (s : State) : Host.Outcome State Fault Refusal :=
  if !s.cfg.pair.pair || s.pwr.inReset || s.pwr.dormant then done s
  else if !checkGood then done { s with red := { s.red with recordErrors := inc s.red.recordErrors } }
  else
    let r := s.red
    let s : State := { s with red := { r with
      lane18 := r.lane18 || !lane, lane19 := r.lane19 || lane, partnerAlive := true, silent := false } }
    let mine := s.recent (if lane then r.ahead19 else r.ahead18)
    let other := s.recent (if lane then r.ahead18 else r.ahead19)
    let put := fun (s : State) (mine other : List (W32 × XRecord)) =>
      ({ s with red := { s.red with ahead18 := if lane then other else mine, ahead19 := if lane then mine else other } } : State)
    match other.find? (fun e => e.2 == rec) with
    | some e => done (put s mine (other.erase e))
    | none => done ((put s (mine ++ [(s.span32, rec)]) other).takeRecord rec)

/-- The active unit names the span of a transfer one span ahead (R388): at a withdrawal, and at the return of the preferred unit (R392). -/
def State.nameTransfer (s : State) : State :=
  let r := s.red
  let back := decide (s.cfg.pair.claim.toNat < s.cfg.pair.partnerClaim.toNat) && r.partnerRole == 2 && r.partnerAlive
    && r.healthy && r.partnerHealthy && r.matchRun == 256
  if r.role = .active ∧ r.transferAt = none ∧ (r.transferDue ∨ back) then
    { s with red := { r with transferDue := false, transferAt := some (s.span32 + 1) } }
  else s

/-- The parts of a state image (R391). -/
def State.imageParts (s : State) : List StatePart :=
  let used := chans72.filter (fun c => (s.chanCfg c).used)
  let slots := (s.cfg.slots.filter (fun e => e.2.enabled)).map (fun e => e.1)
  let buffers := slots.flatMap (fun i =>
    let k := s.slotCfg i
    [k.result0At, k.result1At].map (fun o => (s.zaAddr i o, k.resultLen)))
  used.map (fun c => StatePart.joint (BitVec.ofNat 7 c) (s.leRecord c))
    ++ sets9.map (fun a => StatePart.pathTime (BitVec.ofNat 4 a) (s.armSet a).ptime)
    ++ slots.map (fun i => StatePart.results (BitVec.ofNat 7 i) (s.slot i).result0 (s.slot i).result1 (s.slot i).buffer)
    ++ [StatePart.profile s.pg, StatePart.warden s.saf.arms ((s.saf.outConns : Table OutConn).map (fun e => (e.1, e.2.seq)))]
    ++ (buffers ++ s.cfg.pair.regions).map (fun e => StatePart.memory (BitVec.ofNat 40 e.1) (s.octets e.1 e.2))

/-- The active unit aligns a returning unit while the cell is PARKED and every shared ring is in ring mode (R391). -/
def State.alignPartner (s : State) : State :=
  let r := s.red
  let due := r.role == .active && s.dev.cell == .parked && r.partnerAlive && r.partnerRole == 3
    && s.sharedRings.all (fun i => (s.ring i).phase == .running)
  if !due then { s with red := { r with imaged := false } }
  else if r.imaged then s
  else
    let l := s.imageParts
    let n := l.length
    { s with red := { r with imaged := true, outbox := r.outbox ++ (l.zipIdx.map (fun e => XRecord.stateImage e.1 (e.2 + 1 == n))) } }

/-- CROSS_LINK_HEARTBEAT (R379, R385): the active unit reports the comparison of the span that ended. -/
def execCrossLinkHeartbeat (s : State) : Host.Outcome State Fault Refusal :=
  if !s.came .heartbeat || !s.cfg.pair.pair || s.pwr.inReset || s.pwr.dormant then done s
  else
    let s := s.disarm .heartbeat
    let cmp : CmpResult := if s.red.role = .active then s.red.spanCmp else .notCompared
    let s : State := { s with red := { s.red with spanCmp := .notCompared } }
    let s := ((s.tallySpan cmp).nameTransfer).alignPartner
    let r := s.red
    let x : XRecord := .heartbeat (BitVec.ofNat 2 r.role.code) s.cfg.pair.claim r.healthy r.withdrawn cmp
      (if r.role = .active then r.transferAt else none)
    done { s with red := { r with withdrawn := false, outbox := r.outbox ++ [x] } }

/-- COMMAND_RECORD_MISSED (R383). -/
def execCommandRecordMissed (s : State) : Host.Outcome State Fault Refusal :=
  if s.red.role = .standby then done { s with red := { s.red with healthy := false } } else done s

/-- CROSS_LINK_SILENT (R389): whether the active unit has failed shows at its next deck. -/
def execCrossLinkSilent (s : State) : Host.Outcome State Fault Refusal :=
  if !s.cfg.pair.pair then done s
  else done { s with red := { s.red with
    lane18 := false, lane19 := false, partnerAlive := false, silent := s.red.role == .standby, ahead18 := [], ahead19 := [] } }

/-- EXPECTED_DECK_TIMEOUT (R389): with the cross-link silent, the active unit is declared failed. While records arrive, missing decks are the rings' own matter. -/
def execExpectedDeckTimeout (s : State) : Host.Outcome State Fault Refusal :=
  if s.red.role = .standby ∧ s.red.silent ∧ ¬ s.red.declared then
    done ({ s with red := { s.red with declared := true, declaredAt := s.tb.tb0.ns } }.raise { code := 0x1103, source := srcRed })
  else done s

/-- A unit begins to lead a shared ring (R388, R390). -/
def State.leadsNow (s : State) (r : Nat) : State :=
  let g := s.ring r
  if g.phase.runs then s.setRing r { g with start := .keystone, keystoneClaim := (s.ringCfg r).claim, deliverDone := true } else s

/-- A unit stops leading a shared ring and is a node on it (R388). -/
def State.followsNow (s : State) (r : Nat) : State :=
  let g := s.ring r
  if g.start = .keystone then s.setRing r { g with start := .node, keystoneClaim := s.cfg.pair.partnerClaim } else s

/-- Whether a deck that departs now lies at least 1 µs after the declaration, on TB0 (R7, R390). -/
def State.takeoverDue (s : State) : Bool := decide (1000 ≤ (s.tb.tb0.ns - s.red.declaredAt).toNat)

/-- TAKEOVER (R390): the lost decks count from 0, and a ring whose port towards the failed unit is down enters line mode. -/
def execTakeover (s : State) : Host.Outcome State Fault Refusal :=
  if ¬ (s.red.role = .standby ∧ s.red.declared ∧ s.takeoverDue) then done s
  else
    let s : State := { s with red := { s.red with
      role := .active, declared := false, silent := false, takeovers := inc s.red.takeovers, transferAt := none } }
    done (s.each s.sharedRings (fun s r =>
      let s := (s.setRing r { s.ring r with consecutive := 0 }).leadsNow r
      if (s.port (eastPort r)).linkUp && (s.port (westPort r)).linkUp then s else s.enterLine r 0xFFFF))

/-- TRANSFER (R388): at span h the roles change. -/
def execTransfer (s : State) : Host.Outcome State Fault Refusal :=
  let go := match s.red.transferAt with | some h => decide (0 ≤ (s.span32 - h).toInt) | none => false
  if !go then done s
  else
    let s : State := { s with red := { s.red with transferAt := none, transfers := inc s.red.transfers } }
    match s.red.role with
    | .active =>
      let s : State := { s with red := { s.red with role := .standby, partnerRole := 1 } }
      done ((s.each s.sharedRings State.followsNow).raise { code := 0x1103, source := srcRed })
    | .standby =>
      let s : State := { s with red := { s.red with role := .active, partnerRole := 2 } }
      done ((s.each s.sharedRings State.leadsNow).raise { code := 0x1103, source := srcRed })
    | _ => done s

end Sys2Proof.Machine
end

