-- ==== Sys2Proof/Machine/RegsRest.lean ====
section
/-! DEFINITION. What reads of the SAF, MEM, CRC, TS, CAT, RED, HIER, EVT and VC debug registers return (R233, R322, R339, R374, R401, R421, R422, R435), by offset in the block. -/
namespace Sys2Proof.Machine

/-- A set of small numbers as bits. -/
def bitsOf (n : Nat) (f : Nat → Bool) : Nat := (upto n).foldl (fun v i => v + b2n (f i) * 2 ^ i) 0

/-- An arm's registers of the SAF block (R233). -/
def WArm.reg (a : WArm) (o : Nat) : W32 :=
  match o with
  | 0x00 => word [(a.prot.toNat, 30), (b2n a.parDemand, 29), (b2n a.restartWait, 28), (a.scale.toNat, 0)]
  | 0x04 => a.dist
  | 0x08 => a.sp
  | 0x0C => a.vr
  | 0x10 => word [(a.volume.toNat, 8), (a.capsule.toNat, 0)]
  | 0x14 => word [(a.protStops.toNat, 16), (a.parViolations.toNat, 0)]
  | 0x18 => a.stopS
  | _ => a.stopSp

/-- The SAF block (R233). -/
def State.readSaf (s : State) (o : Nat) : W32 :=
  let f := s.saf
  match o with
  | 0x000 => s.safStat
  | 0x004 => s.ifLoaded (wide s.cfg.safety.wdnDeadline)
  | 0x008 => f.slack
  | 0x00C => word [(f.overruns.toNat, 16), (f.rejects.toNat, 0)]
  | 0x010 => word [(f.violations.toNat, 16), (f.silent.toNat, 8), (f.zoneChanges.toNat, 0)]
  | 0x014 => f.sectionA
  | 0x018 => f.sectionB
  | 0x020 => s.soStat
  | 0x024 => word [(f.siB.toNat, 16), (s.siA.toNat, 0)]
  | 0x028 => word [(f.discA.toNat, 24), (f.discB.toNat, 16), (f.tpA.toNat, 8), (f.tpB.toNat, 0)]
  | 0x600 => half f.volumes false
  | 0x604 => half f.volumes true
  | _ =>
    if 0x100 ≤ o ∧ o < 0x200 then (s.warm ((o - 0x100) / 0x20)).reg (o % 0x20)
    else if 0x400 ≤ o ∧ o < 0x500 then Table.get 0 f.nom ((o - 0x400) / 4)
    else 0

/-- A region's registers (R421). -/
def State.readRegion (s : State) (r o : Nat) : W32 :=
  let g := s.region r
  match o with
  | 0x00 => g.lapUs
  | 0x04 => word [(g.slowDomain.toNat, 22)]
  | 0x08 => (s.dom g.slowDomain.toNat).pos
  | 0x0C => g.laps
  | 0x10 => s.ifLoaded (s.lapLimit r)
  | 0x14 => word [(g.scrubCe.toNat, 16), (g.scrubUe.toNat, 0)]
  | _ => 0

/-- The MEM block (R421). The granules initialised are those that writes reached first, and all of them once the background is done (R415). -/
def State.readMem_ (s : State) (o : Nat) : W32 :=
  let m := s.memc
  match o with
  | 0x000 => word [(b2n m.sramReady, 31), (b2n m.lpddrReady, 30), (b2n m.remapExhausted, 29)]
  | 0x004 => BitVec.ofNat 32 (if m.lpddrReady then 65536 else m.granules.length)
  | 0x008 => m.corrected
  | 0x00C => word [(m.uncorrectable.toNat, 16), (m.poisoned.toNat, 0)]
  | 0x010 => word [(m.aborted.toNat, 16), (m.rmwCorrected.toNat, 0)]
  | 0x014 => m.lastWord
  | 0x018 => word [(m.lastKind.toNat, 30), (b2n m.lastScrub, 29), (m.lastDomain.toNat, 0)]
  | 0x01C => word [(m.domains.foldl (fun n e => n + e.2.remaps.length) 0, 16), (m.exhausted.toNat, 0)]
  | _ =>
    if 0x100 ≤ o ∧ o < 0x1E0 then s.readRegion ((o - 0x100) / 0x20) (o % 0x20)
    else if 0x1000 ≤ o ∧ o < 0x1A80 then
      let d := s.dom ((o - 0x1000) / 4)
      word [(b2n d.exhausted, 31), (d.remaps.length, 0)]
    else 0

/-- A context's registers (R422); contexts 0 to 7 are the registrar's (R416). -/
def State.readCtx (s : State) (c o : Nat) : W32 :=
  let k := s.ctx c
  match o with
  | 0x00 => word [(k.poly.toNat, 30), (k.fold.toNat, 28), (b2n k.compare, 27), (b2n k.tokenEn, 26), (b2n (c < 8), 25), (k.entry.toNat, 0)]
  | 0x04 => k.value
  | 0x08 => k.foldLo
  | 0x0C => k.foldHi
  | 0x10 => k.expect
  | 0x18 => word [(b2n k.queued, 29), (b2n k.mismatch, 28), (b2n k.poisoned, 27), (b2n k.queued, 26), (k.tail.toNat, 0)]
  | 0x1C => k.result
  | 0x20 => k.src.setWidth 32
  | 0x24 => wide (k.src.extractLsb' 32 8)
  | 0x28 => wide k.len
  | 0x2C => word [(k.finishes.toNat, 16), (k.mismatches.toNat, 0)]
  | _ => 0

/-- The CRC block (R422). -/
def State.readCrc (s : State) (o : Nat) : W32 :=
  if o = 0 then
    word [(bitsOf 4 (fun u => !(Table.get [] s.crc.units u : List Nat).isEmpty), 28), (s.crc.refused.toNat, 8), (s.crc.busyRefused.toNat, 0)]
  else if 0x100 ≤ o ∧ o < 0x1100 then s.readCtx ((o - 0x100) / 0x40) (o % 0x40)
  else 0

/-- A template row's registers (R339). -/
def TplRow.reg (r : TplRow) (o : Nat) : W32 :=
  if o = 0 then
    word [(b2n r.enabled, 31), (r.trigger.toNat, 28), (r.ring.toNat, 24), (r.period.toNat, 20), (r.phase.toNat, 16), (b2n r.release, 15)
         , (r.target.toNat, 0)]
  else wide r.offsetNs

/-- TS_VCn_SLOT and TS_VCn_RUN (R339). -/
def State.readTsCore (s : State) (n o : Nat) : W32 :=
  if o = 0 then
    match s.tsSlot n with
    | some x => word [(1, 31), ((s.desc x.desc).priority.toNat, 16), (x.desc, 0)]
    | none => 0
  else
    match (s.core n).item with
    | some d => word [(1, 31), (b2n (s.core n).overBudget, 30), ((s.desc d).priority.toNat, 16), (d, 0)]
    | none => 0

/-- The TS block (R339). -/
def State.readTs (s : State) (o : Nat) : W32 :=
  let t := s.ts
  match o with
  | 0x000 => word [((t.entries.filter (fun e => e.2.full)).length, 16), (t.ready.foldl (fun n e => n + e.2.length) 0, 0)]
  | 0x004 => s.ifLoaded (BitVec.ofNat 32 s.descTable)
  | 0x008 => s.ifLoaded (word [((s.cfg.rows.filter (fun r => r.2.enabled)).length, 16), (s.cfg.descs.length, 0)])
  | 0x010 => t.tokens
  | 0x014 => word [(t.collisions.toNat, 16), (t.unrouted.toNat, 0)]
  | 0x018 => word [(t.recalls.toNat, 16), (t.budgetOverruns.toNat, 0)]
  | 0x01C => word [(t.stale.toNat, 16), (t.skipped.toNat, 0)]
  | _ =>
    if 0x100 ≤ o ∧ o < 0x140 then
      let l := s.ready ((o - 0x100) / 4)
      word [(l.headD 0, 16), (l.length, 0)]
    else if 0x200 ≤ o ∧ o < 0x260 then s.readTsCore ((o - 0x200) / 8) (o % 8)
    else if 0x400 ≤ o ∧ o < 0x600 then s.ifLoaded ((Table.get {} s.cfg.rows ((o - 0x400) / 8) : TplRow).reg (o % 8))
    else 0

/-- A copy's registers (R374). -/
def CopyStat.reg (c : CopyStat) (o : Nat) : W32 :=
  match o with
  | 0x0 => word [(b2n c.valid, 31), (b2n c.complete, 30), (c.reason.toNat, 16), (c.keySlot.toNat, 0)]
  | 0x4 => c.seq
  | 0x8 => c.length
  | _ => c.crc

/-- The CAT block (R374). -/
def State.readCat (s : State) (o : Nat) : W32 :=
  let c := s.cat
  let key := fun (k : KeyState) (n : Nat) => (Table.get {} c.keys n : OwnerKey).state == k
  match o with
  | 0x000 => word [(b2n c.loaded, 31), (b2n c.copy, 30), (b2n c.targetOpen, 29), (b2n c.target, 28), (b2n c.busy, 27), (b2n c.fwFallback, 26)
                  , (c.formatMax.toNat, 0)]
  | 0x004 => c.curSeq
  | 0x008 => c.curCrc
  | 0x060 => word [(bitsOf 16 (key .revoked), 16), (bitsOf 16 (key .active), 0)]
  | 0x064 => word [(c.commits.toNat, 16), (c.rejected.toNat, 8), (c.storeErrors.toNat, 0)]
  | _ =>
    if 0x010 ≤ o ∧ o < 0x030 then (Table.get {} c.copies ((o - 0x010) / 0x10) : CopyStat).reg (o % 0x10)
    else if 0x040 ≤ o ∧ o < 0x060 then (Table.get {} c.copies (2 + (o - 0x040) / 0x10) : CopyStat).reg (o % 0x10)
    else 0

/-- The regions of the reservation table that arms of this device hold (R396, R401). -/
def State.heldRegions (s : State) (g : Nat) : Bool :=
  let h : Byte := Table.get 0xFF s.red.holders g
  s.cfg.pair.hierRole == 2 && h != 0xFF && h.toNat / 8 == s.cfg.pair.worker.toNat

/-- The RED and HIER block (R401). -/
def State.readRed (s : State) (o : Nat) : W32 :=
  let r := s.red
  match o with
  | 0x000 => word [(r.role.code, 30), (b2n r.partnerAlive, 29), (b2n r.healthy, 28), (b2n r.partnerHealthy, 27), (b2n r.diverged, 26)
                  , (b2n r.stateAligned, 25), (if s.cat.loaded then s.cfg.pair.claim.toNat else 0, 16)
                  , (if s.cat.loaded then s.cfg.pair.partnerClaim.toNat else 0, 8)]
  | 0x004 => word [(r.mismatched.toNat, 16), (r.matchRun.toNat, 0)]
  | 0x008 => word [(r.takeovers.toNat, 16), (r.transfers.toNat, 8), (r.withdrawals.toNat, 0)]
  | 0x00C => word [(b2n r.lane18, 31), (b2n r.lane19, 30), (r.recordErrors.toNat, 0)]
  | 0x010 => word [(r.run.toNat, 24), (r.divergences.toNat, 0)]
  | 0x100 => word [(if s.cat.loaded then s.cfg.pair.hierRole.toNat else 0, 30), (b2n r.trunkOk, 29), (b2n r.slewing, 28)
                  , (if s.cat.loaded then s.cfg.pair.worker.toNat else 0, 16), (r.present.toNat, 8), (r.lostRun.toNat, 0)]
  | 0x104 => BitVec.ofNat 32 (bitsOf 32 s.heldRegions)
  | 0x108 => BitVec.ofNat 32 (bitsOf 32 (fun g => s.heldRegions (32 + g)))
  | 0x10C => word [(r.trunkLosses.toNat, 16), (r.stopsRelayed.toNat, 0)]
  | _ => if 0x200 ≤ o ∧ o < 0x300 then wide (Table.get 0xFF r.holders ((o - 0x200) / 4) : Byte) else 0

/-- The EVT block (R435). -/
def State.readEvt (s : State) (o : Nat) : W32 :=
  let e := s.evt
  match o with
  | 0x000 => word [(b2n (!e.buffer.isEmpty), 31), (e.buffer.length, 0)]
  | 0x004 => e.nextSeq
  | 0x008 => if e.log.isEmpty then e.nextSeq else e.oldestSeq
  | 0x00C => wide (s.cfg.threshold.getD 1)
  | 0x010 => word [(e.lost.toNat, 16), (e.reactions.toNat, 0)]
  | _ =>
    if 0x020 ≤ o ∧ o < 0x040 then u32 e.last.octets (o - 0x020)
    else if 0x100 ≤ o ∧ o < 0x200 then
      match eventTable[(o - 0x100) / 4]? with
      | some x => word [(x.1.toNat, 16), ((s.cfg.classOf x.1).toNat, 0)]
      | none => 0
    else 0

/-- A core's registers of the VC debug block (R322). -/
def State.readCore (s : State) (by_ : Requester) (n o : Nat) : W32 :=
  let c := s.core n
  match o with
  | 0x04 => word [(b2n c.halted, 31), (b2n c.item.isSome, 30), (b2n c.hung, 29), (b2n c.accSat, 28), (b2n c.sat, 27), (c.haltCause.toNat, 24)
                 , (c.pc.toNat, 0)]
  | 0x08 => match c.item with | some d => BitVec.ofNat 32 (s.descTable + 32 * d) | none => 0
  | 0x0C => word [(c.faultCause.toNat, 28), (c.faultPc.toNat, 0)]
  | 0x10 => c.faultAddr.setWidth 32
  | 0x14 => wide (c.faultAddr.extractLsb' 32 8)
  | 0x18 => word [(c.faults.toNat, 16), (c.items.toNat, 0)]
  | 0x1C => wide c.holdMax
  | 0x20 => c.steps.setWidth 32
  | 0x24 => s.latched by_ (latchSteps n)
  | 0x50 => c.dbgSel
  | _ =>
    if 0x30 ≤ o ∧ o < 0x40 then Table.get 0 c.breaks ((o - 0x30) / 4)
    else if 0x40 ≤ o ∧ o < 0x48 then Table.get 0 c.watches ((o - 0x40) / 4)
    else if 0x54 ≤ o ∧ o < 0x64 then Table.get 0 c.dbgData ((o - 0x54) / 4)
    else if o = 0 then word [(b2n c.haltReq, 31)]
    else 0

/-- The VC debug block (R322). -/
def State.readVc (s : State) (by_ : Requester) (o : Nat) : W32 :=
  if o < 0xC00 then s.readCore by_ (o / 0x100) (o % 0x100)
  else
    match o with
    | 0xC00 => s.vcRegStat
    | 0xC04 => word [(s.vc.haltRefused.toNat, 16), (s.vc.writesRefused.toNat, 0)]
    | 0xC08 => BitVec.ofNat 32 (b2n s.cfg.liveDebug)
    | _ => 0

end Sys2Proof.Machine
end

