-- ==== Sys2Proof/Machine/RegMap.lean ====
section
/-! DEFINITION. The register space as a whole (R43, R44): reads with the snapshots that they latch, writes over the fabric, and writes of the host (R341). Offsets count from the base of the space. -/
namespace Sys2Proof.Machine

/-- The snapshots that a read of a low half latches (R52, R53, R145, R283, R295, R322). -/
def State.latchFor (s : State) (by_ : Requester) (o : Nat) : State :=
  if 0x1000 ≤ o ∧ o < 0x1100 ∧ o % 0x40 = 0 then s.readNsLo by_ ((o - 0x1000) / 0x40)
  else if o = 0x1100 then s.readSpanLo by_
  else if 0x20100 ≤ o ∧ o < 0x20220 ∧ o % 0x20 = 0 then s.readPtimeLo by_ ((o - 0x20100) / 0x20)
  else if 0x50800 ≤ o ∧ o < 0x50A00 ∧ o % 0x40 = 0x10 then s.readPosLo by_ ((o - 0x50800) / 0x40)
  else if o = 0x60004 then s.readDioLo by_
  else if 0xD0000 ≤ o ∧ o < 0xD0C00 ∧ o % 0x100 = 0x20 then s.readStepsLo by_ ((o - 0xD0000) / 0x100)
  else s

/-- The value at an offset of the register space (R44). -/
def State.regValue (s : State) (by_ : Requester) (o : Nat) : W32 :=
  if o < 0x1000 then s.readDev o
  else if o < 0x2000 then s.readTb by_ (o - 0x1000)
  else if o < 0x4000 then s.readPwr (o - 0x2000)
  else if o < 0x8000 then s.readHq (o - 0x4000)
  else if o < 0x10000 then s.readLot (o - 0x8000)
  else if o < 0x20000 then s.readLr (o - 0x10000)
  else if o < 0x30000 then s.readLe by_ (o - 0x20000)
  else if o < 0x40000 then s.readZa (o - 0x30000)
  else if o < 0x50000 then s.readPg (o - 0x40000)
  else if o < 0x60000 then s.readAx by_ (o - 0x50000)
  else if o < 0x70000 then s.readDio by_ (o - 0x60000)
  else if o < 0x80000 then s.readSaf (o - 0x70000)
  else if o < 0x88000 then s.readMem_ (o - 0x80000)
  else if o < 0x90000 then s.readCrc (o - 0x88000)
  else if o < 0xA0000 then s.readTs (o - 0x90000)
  else if o < 0xB0000 then s.readCat (o - 0xA0000)
  else if o < 0xC0000 then s.readRed (o - 0xB0000)
  else if o < 0xD0000 then s.readEvt (o - 0xC0000)
  else s.readVc by_ (o - 0xD0000)

/-- A read of a register. -/
def State.regRead (s : State) (by_ : Requester) (o : Nat) : State × W32 :=
  let s := s.latchFor by_ o
  (s, s.regValue by_ o)

/-- The state that a command leaves. -/
def left (o : Host.Outcome State Fault Refusal) (s : State) : State :=
  match o with
  | .next t => t
  | _ => s

/-- A fabric write in the ZA block (R177). -/
def State.writeZa (s : State) (o : Nat) (v : W32) : State :=
  if 0x800 ≤ o ∧ o < 0x2800 then
    let i := (o - 0x800) / 0x40
    match o % 0x40 with
    | 0x18 => if v.getLsbD 15 then (s.zaPostGo i (v.setWidth 12)).1 else s.setSlot i { s.slot i with entries := v.setWidth 12 }
    | 0x1C => if v.getLsbD 0 then s.zaToken i else s
    | _ => s
  else s

/-- A fabric write in the PG block (R199). -/
def State.writePg (s : State) (o : Nat) (v : W32) : State :=
  if o = 0x10 then (s.groupGo (v.setWidth 16) (v.extractLsb' 16 16)).1
  else if 0x200 ≤ o ∧ o < 0x224 then
    let a := (o - 0x200) / 4
    if v.getLsbD 31 then s.handoverRequest a (v.getLsbD 30) [] else s.setPgSet a { s.pgSet a with toSolver := v.getLsbD 30 }
  else if 0x1000 ≤ o ∧ o < 0x2200 then
    let c := (o - 0x1000) / 0x40
    let p := s.prof c
    match o % 0x40 with
    | 0x1C => s.setProf c { p with tgt := (p.tgt.extractLsb' 32 32) ++ v }
    | 0x20 => s.setProf c { p with tgt := v ++ (p.tgt.setWidth 32) }
    | 0x24 => s.setProf c { p with vtgt := v }
    | 0x28 => s.pgCmd c v
    | _ => s
  else s

/-- A fabric write in the AX block (R283). -/
def State.writeAx (s : State) (by_ : Requester) (o : Nat) (v : W32) : State :=
  if o = 0 then (if v.getLsbD 0 then left (execLoadAll by_ s) s else s)
  else if 0x100 ≤ o ∧ o < 0x500 then
    let n := (o - 0x100) / 0x80
    let r := o % 0x80
    if 0x14 ≤ r ∧ r < 0x24 then s.pairWrite n ((r - 0x14) / 4) v
    else if r = 0x24 then left (execPwForceWrite by_ (BitVec.ofNat 3 n) v s) s
    else s
  else s

/-- A fabric write in the DIO block (R295). -/
def State.writeDio (s : State) (o : Nat) (v : W32) : State :=
  let hi := o % 8 != 0
  let all : W32 := 0xFFFFFFFF
  match o with
  | 0x10 => s.dioSet (halfBits false all) (halfBits false v)
  | 0x14 => s.dioSet (halfBits true all) (halfBits true v)
  | 0x18 => s.dioSet (halfBits hi v) (halfBits hi v)
  | 0x1C => s.dioSet (halfBits hi v) (halfBits hi v)
  | 0x20 => s.dioSet (halfBits hi v) 0
  | 0x24 => s.dioSet (halfBits hi v) 0
  | _ => s

/-- A write of CRC_CTXc_CTL (R418 to R420): the tail, then start, block_go and finish. -/
def State.crcControl (s : State) (c : Nat) (v : W32) : State :=
  let s := s.setCtx c { s.ctx c with tail := v.setWidth 2 }
  let s := if v.getLsbD 31 then s.crcIdle c (fun s => s.crcBegin c) else s
  let s := if v.getLsbD 29 then s.crcQueue c else s
  if v.getLsbD 30 then s.crcIdle c (fun s => s.crcEnd c) else s

/-- A write of a context's register (R422). -/
def State.ctxWrite (s : State) (c o : Nat) (v : W32) : State :=
  let k := s.ctx c
  match o with
  | 0x00 => s.setCtx c { k with
      poly := v.extractLsb' 30 2, fold := v.extractLsb' 28 2, compare := v.getLsbD 27, tokenEn := v.getLsbD 26, entry := v.setWidth 12 }
  | 0x04 => s.crcIdle c (fun s => s.setCtx c { s.ctx c with value := v })
  | 0x08 => s.setCtx c { k with foldLo := v }
  | 0x0C => s.setCtx c { k with foldHi := v }
  | 0x10 => s.setCtx c { k with expect := v }
  | 0x14 => s.crcIdle c (fun s => s.crcData c v)
  | 0x18 => s.crcControl c v
  | 0x20 => s.setCtx c { k with src := (k.src.extractLsb' 32 8) ++ v }
  | 0x24 => s.setCtx c { k with src := (v.setWidth 8) ++ (k.src.setWidth 32) }
  | 0x28 => s.setCtx c { k with len := v.setWidth 25 }
  | _ => s

/-- A write in the VC debug block (R322): any write but the debug port's, or the host's in service mode, is refused and counted. -/
def State.writeVc (s : State) (by_ : Requester) (o : Nat) (v : W32) : State :=
  if !s.debugMay by_ then s.debugRefused by_
  else if 0xC00 ≤ o then s.debugRefused by_
  else
    let n := o / 0x100
    let m := BitVec.ofNat 4 n
    let c := s.core n
    let r := o % 0x100
    if r = 0 then
      let s := if v.getLsbD 31 then left (execVcHaltReq by_ m s) s else s
      let s := if v.getLsbD 30 then left (execVcRun by_ m s) s else s
      if v.getLsbD 29 then left (execVcStep by_ m s) s else s
    else if 0x30 ≤ r ∧ r < 0x40 then s.setCore n { c with breaks := Table.put 0 c.breaks ((r - 0x30) / 4) (v &&& 0x80003FFF) }
    else if 0x40 ≤ r ∧ r < 0x48 then s.setCore n { c with watches := Table.put 0 c.watches ((r - 0x40) / 4) (v &&& 0xF0001FFF) }
    else if r = 0x50 then
      (if v.getLsbD 31 then left (execVcDbgSelGo by_ m v s) s else s.setCore n { c with dbgSel := v &&& 0x400001FF })
    else if 0x54 ≤ r ∧ r < 0x64 then s.setCore n { c with dbgData := Table.put 0 c.dbgData ((r - 0x54) / 4) v }
    else s.debugRefused by_

/-- A write over the fabric, or of the debug port, which reaches the VC debug block alone (R322). Registers that the fabric does not write ignore it. -/
def State.fabricRegWrite (s : State) (by_ : Requester) (o : Nat) (v : W32) : State :=
  if 0xD0000 ≤ o then s.writeVc by_ (o - 0xD0000) v
  else if by_ = .debug then s
  else if o = 0x1110 then (if v.getLsbD 0 then left (execTbSnapGo by_ s) s else s)
  else if 0x20000 ≤ o ∧ o < 0x30000 then
    let r := o - 0x20000
    if 0x100 ≤ r ∧ r < 0x220 ∧ r % 0x20 = 8 then
      let a := (r - 0x100) / 0x20
      s.setArmSet a { s.armSet a with source := v.getLsbD 16 }
    else if 0x8000 ≤ r ∧ r < 0xC800 then s.recordWrite by_ ((r - 0x8000) / 0x100) (r % 0x100) (leBytes 4 v.toNat)
    else s
  else if 0x30000 ≤ o ∧ o < 0x40000 then s.writeZa (o - 0x30000) v
  else if 0x40000 ≤ o ∧ o < 0x50000 then s.writePg (o - 0x40000) v
  else if 0x50000 ≤ o ∧ o < 0x60000 then s.writeAx by_ (o - 0x50000) v
  else if 0x60000 ≤ o ∧ o < 0x70000 then s.writeDio (o - 0x60000) v
  else if 0x70400 ≤ o ∧ o < 0x70500 then { s with saf := { s.saf with nom := Table.put 0 s.saf.nom ((o - 0x70400) / 4) v } }
  else if 0x88100 ≤ o ∧ o < 0x89100 then
    let c := (o - 0x88100) / 0x40
    s.crcWrite by_ c (fun s => s.ctxWrite c (o % 0x40) v)
  else s

/-- A host write of a queue's configuration (R344): the rings and the next sequence while the queue is disabled, and its enable. Bits 11:0 of SQ_LO and RQ_LO that a host writes non-zero, which R361 tells it not to do, are not kept and read 0 (DESIGN CHOICE, log entry 39). -/
def State.queueWrite (s : State) (n o : Nat) (v : W32) : State :=
  let u := s.queue n
  let q := BitVec.ofNat 4 n
  match o with
  | 0x00 => if v.getLsbD 31 then left (execCqEnable q v s) s else left (execCqDisable q v s) s
  | 0x04 => if u.enable then s.hostRefused else s.setQueue n { u with sqLo := v &&& 0xFFFFF000 }
  | 0x08 => if u.enable then s.hostRefused else s.setQueue n { u with sqHi := v }
  | 0x0C => if u.enable then s.hostRefused else s.setQueue n { u with rqLo := v &&& 0xFFFFF000 }
  | 0x10 => if u.enable then s.hostRefused else s.setQueue n { u with rqHi := v }
  | 0x18 => if u.enable then s.hostRefused else s.setQueue n { u with next := v }
  | _ => s.hostRefused

/-- A host write of the MSI-X table (R343): an entry that is no longer masked sends the message that waits for it (PCI Express; log entry 28). -/
def State.msixWrite (s : State) (k o : Nat) (v : W32) : State :=
  let e : MsixEntry := Table.get {} s.hq.msix k
  let e := match o with
    | 0 => { e with addrLo := v &&& 0xFFFFFFFC }
    | 1 => { e with addrHi := v }
    | 2 => { e with data := v }
    | _ => { e with masked := v.getLsbD 0 }
  let s := { s with hq := { s.hq with msix := Table.put {} s.hq.msix k e } }
  if s.hq.pba.getLsbD k && !e.masked && s.hq.linkUp then ({ s with hq := { s.hq with pba := bitSet s.hq.pba k false } } : State).vector k else s

/-- A host write of BAR0 (R341). -/
def State.hostRegWrite (s : State) (o : Nat) (v : W32) : State :=
  if 0x4100 ≤ o ∧ o < 0x4300 then s.queueWrite ((o - 0x4100) / 0x20) (o % 0x20) v
  else if 0x4800 ≤ o ∧ o < 0x4A00 then s.msixWrite ((o - 0x4800) / 16) (o % 16 / 4) v
  else if o = 0x4C00 then
    let d := s.draw 32
    { d.2 with hq := { d.2.hq with pba := d.1 } }
  else if 0x8000 ≤ o ∧ o < 0xC000 then left (execLotFlagWrite (BitVec.ofNat 12 ((o - 0x8000) / 4)) v 0xF s) s
  else if o = 0x1110 then (if v.getLsbD 0 then left (execTbSnapGo .host s) s else s)
  else if 0xD0000 ≤ o then s.writeVc .host (o - 0xD0000) v
  else s.hostRefused

/-- REGISTER_WRITE (R43, R341). The host's writes are those of R341; every other requester's are fabric writes, which are aligned (R304). -/
def execRegisterWrite (by_ : Requester) (offset : BitVec 20) (aligned : Bool) (value : W32) (s : State) : Host.Outcome State Fault Refusal :=
  let o := offset.toNat
  if by_ = .host then
    done (if !s.hostMay then s else if !aligned || o % 4 != 0 then s.hostRefused else s.hostRegWrite o value)
  else done (if aligned && o % 4 == 0 then s.fabricRegWrite by_ o value else s)

end Sys2Proof.Machine
end

