-- ==== Sys2Proof/Machine/Fabric.lean ====
section
/-! DEFINITION. Accesses over the fabric that may reach the register space: the fabric instructions of the vector cores (R304, R315) and the blocks of the check-value units (R420). -/
namespace Sys2Proof.Machine

/-- The registers of an access, lowest first. -/
def regOffsets (a len : Nat) : List Nat := (upto (len / 4)).map (fun i => a - regBase + 4 * i)

/-- A fabric read of memory or of registers (R43): registers are read word by word in ascending order. -/
def State.busRead (s : State) (who : Requester) (a len : Nat) : Access :=
  if areaOf a = .registers ∧ areaOf (a + len - 1) = .registers then
    let r := (regOffsets a len).foldl (fun (r : State × Octets) o => let x := r.1.regRead who o; (x.1, r.2 ++ leBytes 4 x.2.toNat)) (s, [])
    .ok r.1 r.2
  else s.fabricRead who a len

/-- A fabric write of memory or of registers. -/
def State.busWrite (s : State) (who : Requester) (a : Nat) (o : Octets) : Access :=
  if areaOf a = .registers ∧ areaOf (a + o.length - 1) = .registers then
    .ok ((regOffsets a o.length).foldl (fun s r => s.fabricRegWrite who r (u32 o (r - (a - regBase)))) s) []
  else s.fabricWrite who a o

/-- The internal address of a fabric access (R304). -/
def fabricAddress (f : FormatF) (c : Core) : Nat := f.seg.toNat * 4294967296 + (c.areg f.a.toNat + f.offset.signExtend 32).toNat

/-- Runs a fabric access of core n: size 0 is reserved, a misaligned access faults (R304, R315). -/
def State.runFabric (s : State) (n : Nat) (f : FormatF) (body : State → Core → Nat → Nat → Ran) : State :=
  s.runInstr n .fabric (f.reserved || f.size == 0) noMoves 1 (fun s c =>
    let a := fabricAddress f c
    let len := sizeOctets f.size
    if a % len ≠ 0 then .trap s trapAlign a else body s c a len)

/-- FABRIC_LOAD (R304, R315): the value fills the low bits of V; the spec does not state the others, which are free (log entry 17). -/
def execFabricLoad (n : BitVec 4) (f : FormatF) (s : State) : Host.Outcome State Fault Refusal :=
  done (s.runFabric n.toNat f (fun s c a len =>
    match s.busRead (.core n) a len with
    | .error s' => .trap s' trapFabric a
    | .poisoned s' _ => .trap s' trapFabricPoison a
    | .ok s' o =>
      let m := elementMask 0 len
      let d := if len = 16 then (0, s') else s'.draw 128
      .ok d.2 (c.setV f.v ((d.1 &&& ~~~ m) ||| (BitVec.ofNat 128 (ofLe o) &&& m))) (some f.v) []))

/-- FABRIC_STORE (R304, R315): the low octets of V. A store to registers that refuse it has no effect on the core's own record. -/
def execFabricStore (n : BitVec 4) (f : FormatF) (s : State) : Host.Outcome State Fault Refusal :=
  done (s.runFabric n.toNat f (fun s c a len =>
    match s.busWrite (.core n) a (sliceO (leBytes 16 (c.vreg f.v).toNat) 0 len) with
    | .error s' => .trap s' trapFabric a
    | .poisoned s' _ => .trap s' trapFabricPoison a
    | .ok s' _ => .ok s' c none []))

/-- A block's length lies in the range of R420. -/
def CrcCtx.lenGood (k : CrcCtx) : Bool := decide (0 < k.len.toNat) && decide (k.len.toNat ≤ 16777216)

/-- VALUE after a block that R420 leaves undefined: a free value. -/
def State.crcFree (s : State) (c : Nat) : State :=
  let d := s.draw 32
  d.2.setCtx c { d.2.ctx c with value := d.1 }

/-- The event of a block that ended on an error or on poisoned data (R420). -/
def State.crcFailed (s : State) (c : Nat) : State := s.raise { code := 0x0E01, source := srcCrc, data := BitVec.ofNat 32 c }

/-- Ends the running block of context c (R420). -/
def State.crcBlock (s : State) (c : Nat) : State :=
  let k := s.ctx c
  if !k.lenGood then (s.setCtx c { k with poisoned := false }).crcFree c
  else match s.busRead .engine k.src.toNat k.len.toNat with
    | .error s => ((s.setCtx c { s.ctx c with poisoned := false }).crcFree c).crcFailed c
    | .poisoned s _ => ((s.setCtx c { s.ctx c with poisoned := true }).crcFree c).crcFailed c
    | .ok s o => (s.setCtx c { s.ctx c with poisoned := false }).crcFeed c o

/-- CRC_BLOCK_COMPLETE (R420): the running block of unit u ends and the next in order runs. -/
def execCrcBlockComplete (u : BitVec 2) (s : State) : Host.Outcome State Fault Refusal :=
  match (Table.get [] s.crc.units u.toNat : List Nat) with
  | [] => done s
  | c :: rest =>
    let s := s.crcBlock c
    let s := s.setCtx c { s.ctx c with queued := false }
    done { s with crc := { s.crc with units := Table.put [] s.crc.units u.toNat rest } }

end Sys2Proof.Machine
end

