-- ==== Sys2Proof/Machine/Plant.lean ====
section
/-! DEFINITION. The plant ports: frames sent and received, the receive pools, and safety-layer frames (R63 to R66, R258, R356). -/
namespace Sys2Proof.Machine

/-- A raw frame of the host, which starts at its destination address: the tag after both addresses, and the FCS (R66, R353). -/
def tagged (pcp : BitVec 3) (vid : BitVec 12) (o : Octets) : Octets := withFcs (o.take 12 ++ tagOf pcp vid ++ o.drop 12)

/-- FRAME_SEND (R66, R353): the frame joins the raw queue of 16, or is refused and counted. The reply comes after transmission. -/
def execFrameSend (p : Packet) (s : State) : Host.Outcome State Fault Refusal :=
  let n := param p.params 0 1
  let ownPcp := param p.params 1 1
  let pcp := param p.params 2 1
  let lot := param p.params 4 2
  let len := param p.params 6 2
  let good := unusedZero p.params [(0, 1), (1, 1), (2, 1), (4, 2), (6, 2)] && decide (n < 2) && decide (ownPcp < 2) && decide (pcp < 8)
    && decide (60 ≤ len) && decide (len ≤ 1514)
  done (serve s p 0x0903 good [lot] fun s =>
    let t := s.plant n
    if !s.plantOn n then reject s stWrongState
    else if 16 ≤ t.rawQueue.length then reject (s.setPlant n { t with txDrop := inc t.txDrop }) stNoResource
    else
      let d := s.readMem (windowBase + 4096 * lot) len
      if d.2.2 then .answer (d.1.enginePoison srcTb) { status := stFailed }
      else
        let c := s.plantCfg n
        let f : RawTx := { queue := p.queue, octets := tagged (if ownPcp = 1 then BitVec.ofNat 3 pcp else c.pcpRaw) c.vid d.2.1 }
        .later (d.1.setPlant n { t with rawQueue := t.rawQueue ++ [f] }.start))

def State.pool (s : State) (n : Nat) : List Nat := if n = 0 then s.hq.pool0 else s.hq.pool1

def State.setPool (s : State) (n : Nat) (l : List Nat) : State :=
  if n = 0 then { s with hq := { s.hq with pool0 := l } } else { s with hq := { s.hq with pool1 := l } }

/-- FRAME_RX_POOL (R356). -/
def execFrameRxPool (p : Packet) (s : State) : Host.Outcome State Fault Refusal :=
  let n := param p.params 0 1
  let first := param p.params 2 2
  let count := param p.params 4 2
  let good := unusedZero p.params [(0, 1), (2, 2), (4, 2)] && decide (n < 2) && decide (1 ≤ count) && decide (first + count ≤ 65536)
  let lots := lotRun first count
  done (serve s p 0x0904 good lots fun s =>
    let l := s.pool n
    if 256 < l.length + count then reject s stNoResource
    else
      let s := s.each lots (fun s i => s.setLot i 3)
      .answer (s.setPool n (l ++ lots)) { r0 := BitVec.ofNat 32 (l.length + count) })

/-- The broadcast address (R64). -/
def broadcast : Nat := 0xFFFFFFFFFFFF

/-- Whether a port accepts a frame's address and tag (R64). -/
def PlantCfg.accepts (c : PlantCfg) (o : Octets) : Bool :=
  let d := beField o 0 6
  let known := d == addressOf c.mac || d == broadcast || d == ptpAddress || d == peerAddress
    || (c.multicast.take 8).any (fun m => d == addressOf m)
  let vid := beField o 14 2 % 4096
  known && (beField o 12 2 != 0x8100 || vid == 0 || vid == c.vid.toNat)

/-- The entries of a PSL frame in order (R258); an entry whose connection number is unknown is discarded and counted. -/
def State.pslEntries (s : State) (n : Nat) (o : Octets) (count : Nat) : State :=
  (upto count).foldl (fun s j =>
    let c := (u16 o (4 + 28 * j)).toNat
    let k := s.connCfg c
    if k.used && k.plant then s.wardenTakes c (sliceO o (8 + 28 * j) 24)
    else s.setPlant n { s.plant n with pslUnknown := inc (s.plant n).pslUnknown }) s

/-- A PSL frame (R258): one whose version or count does not fit is discarded whole and counted. -/
def State.pslTakes (s : State) (n : Nat) (o : Octets) : State :=
  let count := (u8 o 1).toNat
  if u8 o 0 = 1 ∧ 1 ≤ count ∧ count ≤ 32 ∧ 4 + 28 * count ≤ o.length then s.pslEntries n o count
  else s.setPlant n { s.plant n with pslBad := inc (s.plant n).pslBad }

/-- The ns and the fraction of a stamp. -/
def wideStamp (t : Nat) : Octets := leBytes 8 (t / 65536) ++ leBytes 2 (t % 65536)

/-- The lot image of a raw frame with its receive stamps on TB0 and TB1 (R60, R356). -/
def rawImage (n tb0 tb1 : Nat) (o : Octets) : Octets :=
  leBytes 2 o.length ++ [BitVec.ofNat 8 n, 0] ++ wideStamp tb0 ++ [0, 0] ++ wideStamp tb1 ++ List.replicate 6 0 ++ o

/-- A raw frame fills the oldest pool lot, or is dropped and counted (R65, R356). -/
def State.rawTakes (s : State) (n : Nat) (o : Octets) (rx : FrameStamps) : State :=
  match s.pool n with
  | [] => s.setPlant n { s.plant n with nobuf := inc (s.plant n).nobuf }
  | l :: rest =>
    let at_ := s.alignment (24 + n)
    let s := (s.setPool n rest).copyMem (windowBase + 4096 * l) (rawImage n (rx.tb0.arrived at_) (rx.tb1.arrived at_) o) false
    (s.setLot l 1).vector 20

/-- PLANT_FRAME_RECEIVED (R63 to R65): `frame` runs from the destination address to the FCS. PTP frames wait for the PTP engine, which takes them at PTP_FRAME_RECEIVED. -/
def execPlantFrameReceived (port fcsGood : Bool) (frame : Octets) (rx : FrameStamps) (s : State) : Host.Outcome State Fault Refusal :=
  let n := plantIndex port
  let t := s.plant n
  let c := s.plantCfg n
  let o := frame.take (frame.length - 4)
  if !s.plantOn n then done s
  else if frame.length < 64 ∨ 1522 < frame.length then done (s.setPlant n { t with length := inc t.length })
  else if !fcsGood then done (s.setPlant n { t with fcs := inc t.fcs })
  else if beField o (etherAt o) 2 = 0x8808 then done (s.setPlant n { t with pause := inc t.pause })
  else if !c.accepts o then done (s.setPlant n { t with filter := inc t.filter })
  else
    let s := s.setPlant n { t with rxOk := inc t.rxOk }
    let e := beField o (etherAt o) 2
    if e = 0x88F7 then done (s.setPlant n { s.plant n with ptpIn := (s.plant n).ptpIn ++ [(o, rx)] })
    else if e = c.etype.toNat then done (s.pslTakes n (o.drop (etherAt o + 2)))
    else done (s.rawTakes n o rx)

/-- The two result words of a stamp's ns (R353). -/
def stampWords (t : Nat) : W32 × W32 := ((stampNs t).setWidth 32, (stampNs t).extractLsb' 32 32)

/-- FRAME_TRANSMITTED (R60, R62, R66): the frame on the wire has left; a PTP event message is stamped for the engine, a raw frame's command replies with its stamps, and the next frame starts. -/
def execFrameTransmitted (port : Bool) (tx : FrameStamps) (s : State) : Host.Outcome State Fault Refusal :=
  let n := plantIndex port
  let t := s.plant n
  let sent (o : Octets) : State := s.setPlant n ({ t with wire := .idle, txOk := inc t.txOk, lastSent := o } : PlantPort).start
  match t.wire with
  | .idle => done s
  | .ptp o => done ((sent o).ptpSent n o (eventPoint tx.tb1.sent))
  | .psl o => done (sent o)
  | .raw f =>
    let a := stampWords tx.tb0.sent
    let b := stampWords tx.tb1.sent
    done ((sent f.octets).replyLater f.queue.toNat { r0 := a.1, r1 := a.2, r2 := b.1, r3 := b.2 })

/-- The container that this device sends on a connection: the one last assembled, or the one relayed to a worker (R206, R397). -/
def State.sentContainer (s : State) (c : Nat) : Octets :=
  if (s.connCfg c).relay then Table.get [] s.saf.raw c else (Table.get {} s.saf.outConns c : OutConn).octets

/-- The payload of a PSL frame (R258), padded to 46 octets. -/
def pslPayload (l : List (Nat × Octets)) : Octets :=
  let o := [0x01, BitVec.ofNat 8 l.length, 0, 0] ++ l.flatMap (fun e => leBytes 2 e.1 ++ [0, 0] ++ sliceO e.2 0 24)
  o ++ List.replicate (46 - o.length) 0

/-- PSL_SEND_PERIOD (R258): the frame for one destination, with the connections that have a container. -/
def execPslSendPeriod (port : Bool) (dest : BitVec 8) (s : State) : Host.Outcome State Fault Refusal :=
  let n := plantIndex port
  let c := s.plantCfg n
  if !s.plantOn n then done s
  else
    match c.pslDests[dest.toNat]? with
    | none => done s
    | some d =>
      let l := ((d.2.map (fun b => (b.toNat, s.sentContainer b.toNat))).filter (fun e => !e.2.isEmpty)).take 32
      if l.isEmpty then done s
      else
        let o := beBytes 6 (addressOf d.1) ++ beBytes 6 (addressOf c.mac) ++ tagOf c.pcpPsl c.vid ++ beBytes 2 c.etype.toNat ++ pslPayload l
        let t := s.plant n
        done (s.setPlant n { t with pslQueue := t.pslQueue ++ [withFcs o] }.start)

end Sys2Proof.Machine
end

