-- ==== Sys2Proof/Machine/Ports.lean ====
section
/-! DEFINITION. The link ports: sync, link up and down, code-group errors (R13, R71, R95) and the link-delay probes (R107 to R109, R120). -/
namespace Sys2Proof.Machine

/-- Whether probes travel on a port: it is a ring port, and its ring is not in line mode (R108, R109). -/
def State.probes (s : State) (p : Nat) : Bool :=
  match ringOfPort p with
  | some r => s.connected p && !((s.ring r).phase == .line)
  | none => false

/-- PROBE_WINDOW_OPEN (R107, R108): at most one request in each window. -/
def execProbeWindowOpen (port : BitVec 5) (s : State) : Host.Outcome State Fault Refusal :=
  let n := port.toNat
  let o := s.port n
  if s.probes n then
    let s := s.setPort n { o with request := some o.nextSeq, nextSeq := o.nextSeq + 1 }
    done (s.transmits n (probeLine (probeOctets 1 o.nextSeq 0)))
  else done s

/-- The responder's residence in 1/256 ns, from its own stamps (R60, R107); truncated (log entry 29). -/
def State.probeResidence (s : State) (n : Nat) (x : ProbeTimes) : Int := wideDiff x.tx.sent (x.rx.arrived (s.alignment n)) / 256

/-- PROBE_REQUEST (R107, R108): answered within 512 ns and within the own window, or not at all, and not counted. -/
def execProbeRequest (port : BitVec 5) (octets : Octets) (times : ProbeTimes) (inWindow : Bool) (s : State) : Host.Outcome State Fault Refusal :=
  let n := port.toNat
  let d := s.probeResidence n times
  if s.probes n && u8 octets 0 == 1 && inWindow && decide (0 ≤ d) && decide (d ≤ 512 * 256) then
    done (s.transmits n (probeLine (probeOctets 2 (u8 octets 1) (BitVec.ofInt 40 d))))
  else done s

/-- The round trip rt of R109 in 2^-16 ns: from t1, when the own request left the ball, to t4, when its response reached it (R60). -/
def State.roundTrip (s : State) (n : Nat) (tx rx : RawStamp) : Int := wideDiff (rx.arrived (s.alignment n)) tx.sent

/-- The mean of results, twice the delay in 2^-16 ns, as 1/256 ns, rounded half up (R109; log entry 19). -/
def probeMean (l : List Int) : Int := if l.isEmpty then 0 else roundDiv (l.foldl (· + ·) 0) (512 * (l.length : Int))

/-- PROBE_RESPONSE (R107, R109): a response of another seq, or later than 2 µs, is discarded. In integration every valid result counts, while the ring runs the last 16. -/
def execProbeResponse (port : BitVec 5) (octets : Octets) (tx rx : RawStamp) (s : State) : Host.Outcome State Fault Refusal :=
  let n := port.toNat
  let o := s.port n
  match o.request with
  | none => done s
  | some q =>
    let rt := s.roundTrip n tx rx
    if s.probes n && u8 octets 0 == 2 && u8 octets 1 == q && decide (rt ≤ 2000 * 65536) then
      let one := rt - (fieldO octets 2 5 * 256 : Nat) + 512 * (s.portCfg n).asym.toInt
      let keep := match ringOfPort n with
        | some r => if (s.ring r).phase.runs then 16 else 64
        | none => 64
      let l := (one :: o.results).take keep
      done (s.setPort n { o with request := none, results := l, silentRaised := false, delay := BitVec.ofInt 32 (probeMean l) })
    else done s

/-- PROBE_SILENT (R109): the delay stands; the event names the port, once until the next valid result. Probes are suspended in line mode. -/
def execProbeSilent (port : BitVec 5) (s : State) : Host.Outcome State Fault Refusal :=
  let n := port.toNat
  let o := s.port n
  if s.probes n && !o.silentRaised then
    done ((s.setPort n { o with silentRaised := true }).raise { code := 0x060A, source := srcLr, data := BitVec.ofNat 32 n })
  else done s

/-- PCS_SYNC_ACQUIRED (R71): the count of code groups towards link up begins. -/
def execPcsSyncAcquired (port : BitVec 5) (s : State) : Host.Outcome State Fault Refusal :=
  let n := port.toNat
  if s.portEnabled n then done (s.setPort n { s.port n with pcsSync := true, cleanFrom := s.tb.tb2.ns }) else done s

/-- INVALID_CODE_GROUP (R13, R71, R95): counted inside or outside decks; the count towards link up begins again. -/
def execInvalidCodeGroup (port : BitVec 5) (inDeck : Bool) (s : State) : Host.Outcome State Fault Refusal :=
  let n := port.toNat
  let o := s.port n
  if s.portEnabled n then
    let o := { o with cleanFrom := s.tb.tb2.ns }
    done (s.setPort n (if inDeck then { o with deckErr := inc o.deckErr } else { o with idleErr := inc o.idleErr }))
  else done s

/-- Whether 16,384 code groups of 8 ns have arrived without an invalid one (R71), as TB2 counts them (log entry 34). -/
def State.cleanEnough (s : State) (n : Nat) : Bool := decide (131072 ≤ (s.tb.tb2.ns - (s.port n).cleanFrom).toNat)

/-- LINK_UP (R60, R71): the alignment is measured, and a plant port puts its connections into STARTING in both channels (R254). -/
def execLinkUp (port : BitVec 5) (alignment : BitVec 4) (s : State) : Host.Outcome State Fault Refusal :=
  let n := port.toNat
  let o := s.port n
  if !s.portEnabled n || !o.pcsSync || o.linkUp || !s.cleanEnough n then done s
  else
    let t := s.setPort n { o with linkUp := true }
    let t := { t with tb := { t.tb with rxAlign := Table.put 0 t.tb.rxAlign n alignment } }
    if n = 24 ∨ n = 25 then done (((t.wardenStarts (fun c => c.plant)).parapetStarts (fun c => c.plant)).settle s) else done t

/-- LINK_DOWN (R71, R119, R120): counted; the keystone of a ring goes to line mode, every other device becomes an end of the ring. -/
def execLinkDown (port : BitVec 5) (s : State) : Host.Outcome State Fault Refusal :=
  let n := port.toNat
  let o := s.port n
  if !s.portEnabled n then done s
  else
    let s := s.setPort n { o with
      pcsSync := false, linkUp := false, request := none
      syncLosses := if o.pcsSync then inc o.syncLosses else o.syncLosses
      linkDowns := if o.linkUp then inc o.linkDowns else o.linkDowns }
    match ringOfPort n with
    | none => done s
    | some r =>
      let east := n % 2 == 0
      let g := s.ring r
      if !o.linkUp then done s
      else if g.start = .keystone then
        done (s.enterLine r (if east then 256 else (s.ringCfg r).nodes.length))
      else if g.lineEnd = .none then done (s.setRing r { g with lineEnd := if east then .east else .west })
      else done s

end Sys2Proof.Machine
end

