-- ==== Sys2Proof/Machine/Span.lean ====
section
/-! DEFINITION. The span instant (R21): the states that change there, pace and slack, the compares of the span, and the hand-over of every block from span to span. -/
namespace Sys2Proof.Machine

/-- The pace of a class, published and held against its floor (R33, R34). -/
def EngineClass.paced (e : EngineClass) (pace floor : BitVec 24) : EngineClass × Bool :=
  let low := decide (pace.toNat < floor.toNat)
  ({ e with pace := pace, low := low, paceLow := if low then inc e.paceLow else e.paceLow }, low && !e.low)

/-- The least of a list of slacks. -/
def leastOf : List Int → Option Int
  | [] => none
  | x :: t => some (t.foldl min x)

/-- The slack of the span that ends, at the instant of span `now` (R35, R45): the least of the completions that fell in it. -/
def EngineClass.published (e : EngineClass) (now : Nat) : EngineClass :=
  let e' := { e with dones := e.dones.filter (fun x => decide (now ≤ x.1)) }
  match leastOf ((e.dones.filter (fun x => decide (x.1 < now))).map (fun x => x.2)) with
  | none => { e' with slack := 0x80000000 }
  | some l => { e' with slack := bvS 32 l, slackMin := if l < e.slackMin.toInt then bvS 32 l else e.slackMin }

/-- The event data of a pace low (R34). -/
def State.paceEvent (s : State) (on : Bool) (cls : Nat) (pace : BitVec 24) : State :=
  if on then s.raise { code := 0x0101, source := srcDev, data := BitVec.ofNat 32 (cls * 16777216 + pace.toNat) } else s

/-- Pace and slack of the three classes at the span instant (R33 to R35). -/
def State.publish (s : State) (p : Paces) : State :=
  let k := s.span.toNat
  let v := (s.dev.vc.published k).paced p.vc s.cfg.floorVc
  let z := (s.dev.za.published k).paced p.za s.cfg.floorZa
  let l := (s.dev.le.published k).paced p.le s.cfg.floorLe
  let s : State := { s with dev := { s.dev with vc := v.1, za := z.1, le := l.1 } }
  ((s.paceEvent v.2 0 p.vc).paceEvent z.2 1 p.za).paceEvent l.2 2 p.le

/-- Whether every used arm is at rest (R37, R194). -/
def State.allAtRest (s : State) : Bool := arms8.all (fun a => !s.armUsed a || s.arm a == .halted || s.armRest a)

/-- STOPPING ends when all arms are at rest, after one span at least (R37). -/
def State.stopComplete (s : State) : State :=
  if s.dev.cell = .stopping ∧ s.dev.stopSpan.toNat < s.span.toNat ∧ s.allAtRest then
    match s.dev.stopGoal with
    | .hold => s.setCell .hold 0xFE 0 0
    | .parked => s.setCell .parked 0xFE 0 0
    | .fault => s.setCell .fault 0xFF s.dev.stopEvent 0
  else s

/-- An arm whose controlled stop has brought it to rest is HALTED (R40). -/
def State.armsHalt (s : State) : State :=
  s.each arms8 (fun s a =>
    if s.arm a = .stopping ∧ (Table.get 0 s.dev.armStopSpan a).toNat < s.span.toNat ∧ s.armRest a then s.setArm a .halted else s)

/-- In INTEGRATING a ring listens as soon as it may: a worker's when its TB0 is LOCKED on the trunk (R96, R124). -/
def State.startListening (s : State) : State :=
  if s.dev.cell ≠ .integrating then s
  else s.each rings14 (fun s r =>
    let g := s.ring r
    if g.start = .idle ∧ g.phase = .silent ∧ s.mayListen r then s.listen r else s)

/-- The states of the cell and the arms at the instant: what asked the runs of the span before for an engagement or a fault_reset is over (R131, R141); then ends of stops, then held reactions, then accepted commands in order, then replicated ones (R37 to R40, R382, R431). -/
def State.transitions (s : State) : State :=
  let s := s.each sets9 (fun s a => s.setArmSet a { s.armSet a with engage := false })
  let s := s.each chans72 (fun s c => if (s.chan c).resetRequest then s.setChan c { s.chan c with resetRequest := false } else s)
  let s := (s.armsHalt.stopComplete).applyHeld
  let l := s.dev.accepted
  let s : State := { s with dev := { s.dev with accepted := [] } }
  let s := (l.foldl State.runCommand s).runDue.startListening
  { s with dev := { s.dev with cellAt := s.dev.cell, armsAt := s.dev.arms } }

/-- The rings begin a span (R93, R114). -/
def State.ringsSpan (s : State) : State :=
  let s := s.each rings14 State.ringSpan
  { s with lr := { s.lr with carried := s.lr.returned, returned := 0, posted := 0, stopWord := 0, devs := [] } }

/-- Every node samples and latches (R21). -/
def State.nodesSpan (s : State) : State :=
  s.each (s.lr.nodes.map (fun e => e.1)) (fun s k => s.nodeInstant (k / 32) (k % 32))

/-- The engine takes the scales that Warden posted in the span that ends, 0 after a missed deadline (R131, R220). -/
def State.takeScales (s : State) : State :=
  s.each arms8 (fun s a => s.setArmSet a { s.armSet a with scale := if s.saf.late then 0 else (s.warm a).scale })

/-- The gather cut-off of a ring in ns after the span instant (R23): gather offset, gather lap and return guard, rounded up to a whole ns (log entry 29). -/
def State.gatherCutoffNs (s : State) (r : Nat) : Nat :=
  (s.cfg.gatherOffset.toNat * 2048 + (s.ring r).glap.toNat + s.cfg.returnGuard.toNat * 16000 + 255) / 256

/-- The instants of a ring's decks in the span (R22 to R25). -/
def State.armRing (s : State) (b r : Nat) : State :=
  let n := BitVec.ofNat 4 r
  let d := (s.ring r).depart.toNat
  let s := if s.leads r || s.shadows r then s.arm0 (b + d - 1000) (.deliverCutoff n) else s
  if s.leads r then
    ((s.arm0 (b + 8 * s.cfg.gatherOffset.toNat) (.gatherDeparture n)).arm0 (b + s.gatherCutoffNs r) (.gatherCutoff n)).arm0 (b + d) (.deliverDeparture n)
  else s

/-- The compares of the span (R22 to R25, R31, R289, R290, R336, R379). -/
def State.armSpan (s : State) : State :=
  let b := s.spanStart
  let s := if s.cfg.deadlineLe = 0 then s else s.arm0 (b + s.cfg.deadlineLe.toNat) .deadlineLe
  let s := if s.dev.deadlineVc = 0 then s else s.arm0 (b + s.dev.deadlineVc.toNat) .deadlineVc
  let s := if s.cfg.safety.wdnDeadline = 0 then s else s.arm0 (b + s.cfg.safety.wdnDeadline.toNat) .wardenDeadline
  let s := s.cfg.rows.foldl (fun s e =>
    if e.2.enabled && e.2.trigger == spanTrigger && s.rowInPhase e.2 then s.armMore (b + e.2.offsetNs.toNat) (.template (BitVec.ofNat 6 e.1)) else s) s
  let s := (s.arm0 (b + 4000) .inPublish).arm0 (b + s.spanNs - 2000) .outputFreeze
  let s := if s.cfg.pair.pair then s.arm0 (b + 2000) .heartbeat else s
  (s.each rings14 (fun s r => s.armRing b r)).armSolves b

/-- The pair's records of the span that ends. -/
def State.pairSpan (s : State) : State :=
  { s with red := { s.red with outbox := [], ahead18 := s.recent s.red.ahead18, ahead19 := s.recent s.red.ahead19 } }

/-- SPAN_INSTANT (R21). While the core die is down only the other devices' nodes act. -/
def execSpanInstant (pace : Paces) (volts : List (BitVec 16)) (s : State) : Host.Outcome State Fault Refusal :=
  let s := (volts.zipIdx.take 12).foldl (fun s v => if s.suspended v.2 then s else s.sampled v.2 v.1) s
  if !s.coreUp then done s.nodesSpan
  else
    let s := (s.pairSpan.publish pace).ringsSpan.nodesSpan
    let s := (s.transitions.rearm).takeScales.wardenSpan
    let s : State := { s with le := { s.le with ran := false, lateSeen := false } }
    let s := s.each (upto 8) State.axInstant
    let s : State := { s with ax := { s.ax with cutoff := false } }
    let s := if s.dev.cell = .uncatalogued then s else s.sendFrame
    done s.armSpan

/-- What passes in a tick in which no command comes (log entry 8): the time bases advance, carriers count (R266), a joint-loop run completes by its stamps, and own deadlines of items pass (R31). -/
def State.idle (s : State) : State := s.tick.carriers.leComplete.itemDeadlines

end Sys2Proof.Machine
end

