-- ==== Sys2Proof/Machine/Flags.lean ====
section
/-! DEFINITION. The flags that instructions of a vector core set: the sticky saturation flags of VC_n_STAT (R306, R322). -/
namespace Sys2Proof.Machine

/-- A lane saturated in an instruction with sat set. -/
def Core.markSat (c : Core) (b : Bool) : Core := { c with sat := c.sat || b }

/-- An accumulator lane saturated. -/
def Core.markAccSat (c : Core) (b : Bool) : Core := { c with accSat := c.accSat || b }

end Sys2Proof.Machine
end

