-- ==== Sys2Proof/Machine/Vector.lean ====
section
/-! DEFINITION. Vector arithmetic, multiply-accumulate and accumulator stores (classes 0x1, 0x2 and 0x5; R303 to R308). -/
namespace Sys2Proof.Machine

/-- Lane width of w (R303). -/
def laneWidth (w : BitVec 2) : Nat :=
  match w.toNat with
  | 0 => 16
  | 1 => 32
  | 2 => 64
  | _ => 16

/-- The signed lanes of a word of `n` bits, lane 0 first (R299). -/
def lanes {n : Nat} (b : Nat) (x : BitVec n) : List Int := (upto (n / b)).map (fun i => (x.extractLsb' (b * i) b).toInt)

/-- A word from its lanes, each cut to `b` bits. -/
def packLanes (n b : Nat) (l : List Int) : BitVec n :=
  BitVec.ofNat n (l.zipIdx.foldl (fun (a : Nat) (e : Int × Nat) => a + (e.1 % ((2 ^ b : Nat) : Int)).toNat * 2 ^ (b * e.2)) 0)

/-- Lanes that saturate to `b` bits where `sat` is set, and whether one did. -/
def satLanes (b : Nat) (l : List Int) (sat : Bool) : List Int × Bool :=
  if sat then (l.map (satS b), l.any (fun x => satS b x != x)) else (l, false)

/-- Runs a lane-wise instruction; w = 3 is reserved in class 0x1 (log entry 17). `always` saturates whatever sat says. -/
def State.laneOp (s : State) (n : Nat) (f : FormatP) (always : Bool) (g : Nat → List Int → List Int → List Int) : State :=
  s.runVector n f (f.w == 3) (fun s c =>
    let b := laneWidth f.w
    let r := satLanes b (g b (lanes b (c.vreg f.va)) (lanes b (c.vreg f.vb))) (always || f.sat)
    (s, c.markSat r.2, packLanes 128 b r.1))

/-- VECTOR_ADD (R306). -/
def execVectorAdd (n : BitVec 4) (f : FormatP) (s : State) : Host.Outcome State Fault Refusal :=
  done (s.laneOp n.toNat f false (fun _ a b => List.zipWith (· + ·) a b))

/-- VECTOR_SUBTRACT (R306). -/
def execVectorSubtract (n : BitVec 4) (f : FormatP) (s : State) : Host.Outcome State Fault Refusal :=
  done (s.laneOp n.toNat f false (fun _ a b => List.zipWith (· - ·) a b))

/-- COMPARE: the spec states no result (R302, log entry 17). -/
def execCompare (n : BitVec 4) (f : FormatP) (s : State) : Host.Outcome State Fault Refusal := done (s.runFree n.toNat f)

/-- SELECT: the spec states no result (R302, log entry 17). -/
def execSelect (n : BitVec 4) (f : FormatP) (s : State) : Host.Outcome State Fault Refusal := done (s.runFree n.toNat f)

/-- LOGIC: the spec states no operation for an opcode (R302, log entry 17). -/
def execLogic (n : BitVec 4) (_op : BitVec 6) (f : FormatP) (s : State) : Host.Outcome State Fault Refusal := done (s.runFree n.toNat f)

/-- A lane shifted by a count: right for positive counts, with rounding where asked; left for negative ones (R306). -/
def shiftLane (rnd : Bool) (count : Int) (x : Int) : Int :=
  if 0 < count then (if rnd then roundShift x count.toNat else x / (2 ^ count.toNat : Nat)) else x * (2 ^ (-count).toNat : Nat)

/-- SHIFT (R306). A positive count shifts right (log entry 17). -/
def execShift (n : BitVec 4) (f : FormatP) (count : Int) (s : State) : Host.Outcome State Fault Refusal :=
  done (s.laneOp n.toNat f false (fun _ a _ => a.map (shiftLane f.rnd count)))

/-- MUL: the fractional multiply, which always saturates (R306). -/
def execMul (n : BitVec 4) (f : FormatP) (s : State) : Host.Outcome State Fault Refusal :=
  done (s.laneOp n.toNat f true (fun b x y =>
    (List.zipWith (· * ·) x y).map (fun p => if f.rnd then roundShift p (b - 1) else p / (2 ^ (b - 1) : Nat))))

/-- VECTOR_MOVE (R302). -/
def execVectorMove (n : BitVec 4) (f : FormatP) (s : State) : Host.Outcome State Fault Refusal :=
  done (s.runVector n.toNat f false (fun s c => (s, c, c.vreg f.va)))

/-- Redundant sign bits of a value of `b` bits (R308): how far it can be doubled and stay in range, b − 1 for 0 and −1. -/
def redundant (b : Nat) (x : Int) : Nat :=
  let m := if x < 0 then (-x - 1).toNat else x.toNat
  b - 1 - (if m = 0 then 0 else Nat.log2 m + 1)

/-- Lane width of an accumulator for w: 8 × 40 for 16-bit and 4 × 80 for 32-bit lanes (R300). -/
def accWidth (w : BitVec 2) : Nat := if w = 1 then 80 else 40

/-- NORM (R308): lanes of va into vd, or the accumulator in place. -/
def execNorm (n : BitVec 4) (f : FormatP) (src : NormSource) (s : State) : Host.Outcome State Fault Refusal :=
  match src with
  | .lanes => done (s.runVector n.toNat f (f.w == 3) (fun s c =>
      let b := laneWidth f.w
      (s, c, packLanes 128 b ((lanes b (c.vreg f.va)).map (fun x => x * (2 ^ redundant b x : Nat))))))
  | .accumulator => done (s.runInstr n.toNat .plain (decide (2 ≤ f.w.toNat)) f.mv 1 (fun s c =>
      let b := accWidth f.w
      .ok s (c.setAcc f.ac (packLanes 320 b ((lanes b (c.acc f.ac)).map (fun x => x * (2 ^ redundant b x : Nat))))) none []))

/-- EXP (R308): the count of each lane of va, or of each accumulator lane, into the lanes of vd. -/
def execExp (n : BitVec 4) (f : FormatP) (src : NormSource) (s : State) : Host.Outcome State Fault Refusal :=
  match src with
  | .lanes => done (s.runVector n.toNat f (f.w == 3) (fun s c =>
      let b := laneWidth f.w
      (s, c, packLanes 128 b ((lanes b (c.vreg f.va)).map (fun x => (redundant b x : Int))))))
  | .accumulator => done (s.runVector n.toNat f (decide (2 ≤ f.w.toNat)) (fun s c =>
      let b := accWidth f.w
      (s, c, packLanes 128 (laneWidth f.w) ((lanes b (c.acc f.ac)).map (fun x => (redundant b x : Int))))))

/-- Adds terms into the lanes of an accumulator, each saturating (R306). -/
def State.accumulate (s : State) (n : Nat) (f : FormatP) (b : Nat) (bad : Bool) (terms : Core → List Int) : State :=
  s.runInstr n .plain bad f.mv 1 (fun s c =>
    let sums := List.zipWith (· + ·) (lanes b (c.acc f.ac)) (terms c)
    let r := satLanes b sums true
    .ok s ((c.setAcc f.ac (packLanes 320 b r.1)).markAccSat r.2) none [])

/-- The exact lane products of a non-complex multiply-accumulate (R305). -/
def lanePairs (f : FormatP) (c : Core) : List Int :=
  let b := laneWidth f.w
  List.zipWith (· * ·) (lanes b (c.vreg f.va)) (lanes b (c.vreg f.vb))

/-- MAC (R305, R306). There is no form on 64-bit or complex lanes. -/
def execMac (n : BitVec 4) (f : FormatP) (s : State) : Host.Outcome State Fault Refusal :=
  done (s.accumulate n.toNat f (accWidth f.w) (decide (2 ≤ f.w.toNat)) (lanePairs f))

/-- MSU (R305, R306). -/
def execMsu (n : BitVec 4) (f : FormatP) (s : State) : Host.Outcome State Fault Refusal :=
  done (s.accumulate n.toNat f (accWidth f.w) (decide (2 ≤ f.w.toNat)) (fun c => (lanePairs f c).map (- ·)))

/-- Complex products of pairs, real part before imaginary part; `conj` takes the conjugate of the second (R305). -/
def complexPairs (conj : Bool) : List Int → List Int → List Int
  | a :: b :: t, c :: d :: u =>
    let e := if conj then -d else d
    (a * c - b * e) :: (a * e + b * c) :: complexPairs conj t u
  | _, _ => []

/-- The lane width of a complex form: w = 3 of 16-bit pairs, w = 1 with cw of 32-bit pairs (R303). -/
def complexWidth (f : FormatP) : Option Nat := if f.w = 3 then some 16 else if f.w = 1 && f.cw then some 32 else none

def State.complexMac (s : State) (n : Nat) (f : FormatP) (conj : Bool) : State :=
  let b := (complexWidth f).getD 16
  s.accumulate n f (if b = 32 then 80 else 40) (complexWidth f).isNone
    (fun c => complexPairs conj (lanes b (c.vreg f.va)) (lanes b (c.vreg f.vb)))

/-- CMAC (R305). -/
def execCmac (n : BitVec 4) (f : FormatP) (s : State) : Host.Outcome State Fault Refusal := done (s.complexMac n.toNat f false)

/-- CMACC (R305). -/
def execCmacc (n : BitVec 4) (f : FormatP) (s : State) : Host.Outcome State Fault Refusal := done (s.complexMac n.toNat f true)

/-- CLR of an accumulator (R302). -/
def execClr (n : BitVec 4) (f : FormatP) (s : State) : Host.Outcome State Fault Refusal :=
  done (s.runInstr n.toNat .plain false f.mv 1 (fun s c => .ok s (c.setAcc f.ac 0) none []))

/-- The shift of class 0x5, which va and vb hold together (R303). -/
def shiftOf (f : FormatP) : Int := ((f.va ++ f.vb).setWidth 6).toInt

/-- Whether a reserved bit of class 0x5 is set: bits 46:43, the upper four of va (R303). -/
def shiftReserved (f : FormatP) : Bool := decide (2 ≤ f.va.toNat)

/-- STAC (R307): accumulator lanes into vd; w must match an arrangement. -/
def execStac (n : BitVec 4) (f : FormatP) (s : State) : Host.Outcome State Fault Refusal :=
  done (s.runInstr n.toNat .plain (shiftReserved f) f.mv 1 (fun s c =>
    if 2 ≤ f.w.toNat then .trap s trapStac 0
    else
      let b := laneWidth f.w
      let d := shiftOf f
      let r := satLanes b ((lanes (accWidth f.w) (c.acc f.ac)).map (shiftLane f.rnd d)) f.sat
      .ok s ((c.markSat r.2).setV f.vd (packLanes 128 b r.1)) (some f.vd) []))

/-- ACC_SHIFT: the spec states no result beyond its encoding, so the accumulator takes a free value (R303, log entry 17). -/
def execAccShift (n : BitVec 4) (f : FormatP) (s : State) : Host.Outcome State Fault Refusal :=
  done (s.runInstr n.toNat .plain (shiftReserved f) f.mv 1 (fun s c => let d := s.draw 320; .ok d.2 (c.setAcc f.ac d.1) none []))

end Sys2Proof.Machine
end

