-- ==== Sys2Proof/Machine/Dispatch.lean ====
section
/-! DEFINITION. Exec: one arm per command of the opcode table, each one call of its meaning. -/
namespace Sys2Proof.Machine

/-- The effect of a command on everything but the queue. -/
def exec (i : Instr) (s : State) : Host.Outcome State Fault Refusal :=
  match i with
  | .devNop p => Sys2Proof.Machine.execDevNop p s
  | .devInfo p => Sys2Proof.Machine.execDevInfo p s
  | .devWarmReset p => Sys2Proof.Machine.execDevWarmReset p s
  | .warmReset => Sys2Proof.Machine.execWarmReset s
  | .devService p => Sys2Proof.Machine.execDevService p s
  | .devDormant p => Sys2Proof.Machine.execDevDormant p s
  | .catWrite p io => Sys2Proof.Machine.execCatWrite p io s
  | .catVerify p io => Sys2Proof.Machine.execCatVerify p io s
  | .catCommit p io => Sys2Proof.Machine.execCatCommit p io s
  | .catRead p io => Sys2Proof.Machine.execCatRead p io s
  | .fwWrite p io => Sys2Proof.Machine.execFwWrite p io s
  | .fwCommit p io => Sys2Proof.Machine.execFwCommit p io s
  | .cellIntegrate p => Sys2Proof.Machine.execCellIntegrate p s
  | .cellEngage p => Sys2Proof.Machine.execCellEngage p s
  | .cellRun p => Sys2Proof.Machine.execCellRun p s
  | .cellStop p => Sys2Proof.Machine.execCellStop p s
  | .cellPark p => Sys2Proof.Machine.execCellPark p s
  | .cellRingsOff p => Sys2Proof.Machine.execCellRingsOff p s
  | .cellClear p => Sys2Proof.Machine.execCellClear p s
  | .armResume p => Sys2Proof.Machine.execArmResume p s
  | .ringClose p => Sys2Proof.Machine.execRingClose p s
  | .pgTarget p => Sys2Proof.Machine.execPgTarget p s
  | .pgStartGroup p => Sys2Proof.Machine.execPgStartGroup p s
  | .pgStop p => Sys2Proof.Machine.execPgStop p s
  | .pgHandover p => Sys2Proof.Machine.execPgHandover p s
  | .axStallClear p => Sys2Proof.Machine.execAxStallClear p s
  | .zaPost p => Sys2Proof.Machine.execZaPost p s
  | .zaToken p => Sys2Proof.Machine.execZaToken p s
  | .zaResult p => Sys2Proof.Machine.execZaResult p s
  | .timeStep p => Sys2Proof.Machine.execTimeStep p s
  | .timeRate p => Sys2Proof.Machine.execTimeRate p s
  | .timeTb3Mode p => Sys2Proof.Machine.execTimeTb3Mode p s
  | .dioWrite p => Sys2Proof.Machine.execDioWrite p s
  | .dioClear p => Sys2Proof.Machine.execDioClear p s
  | .cntClear p => Sys2Proof.Machine.execCntClear p s
  | .evtRead p => Sys2Proof.Machine.execEvtRead p s
  | .lotGrant p => Sys2Proof.Machine.execLotGrant p s
  | .lotRelease p => Sys2Proof.Machine.execLotRelease p s
  | .mbxSend p => Sys2Proof.Machine.execMbxSend p s
  | .mbxRecv p => Sys2Proof.Machine.execMbxRecv p s
  | .frameSend p => Sys2Proof.Machine.execFrameSend p s
  | .frameRxPool p => Sys2Proof.Machine.execFrameRxPool p s
  | .safStatus p => Sys2Proof.Machine.execSafStatus p s
  | .safStage p => Sys2Proof.Machine.execSafStage p s
  | .safAccept p => Sys2Proof.Machine.execSafAccept p s
  | .safRestart p => Sys2Proof.Machine.execSafRestart p s
  | .safOutput p => Sys2Proof.Machine.execSafOutput p s
  | .cqEnable q value => Sys2Proof.Machine.execCqEnable q value s
  | .cqDisable q value => Sys2Proof.Machine.execCqDisable q value s
  | .submissionTailDoorbell q value unknown => Sys2Proof.Machine.execSubmissionTailDoorbell q value unknown s
  | .replyHeadDoorbell q value => Sys2Proof.Machine.execReplyHeadDoorbell q value s
  | .lotFlagWrite w value enables => Sys2Proof.Machine.execLotFlagWrite w value enables s
  | .hostWindowWrite offset octets => Sys2Proof.Machine.execHostWindowWrite offset octets s
  | .hostWindowRead offset len => Sys2Proof.Machine.execHostWindowRead offset len s
  | .registerWrite by_ offset aligned value => Sys2Proof.Machine.execRegisterWrite by_ offset aligned value s
  | .tbSnapGo by_ => Sys2Proof.Machine.execTbSnapGo by_ s
  | .tbNsLoRead by_ n => Sys2Proof.Machine.execTbNsLoRead by_ n s
  | .tb0SpanLoRead by_ => Sys2Proof.Machine.execTb0SpanLoRead by_ s
  | .leArmPtimeLoRead by_ a => Sys2Proof.Machine.execLeArmPtimeLoRead by_ a s
  | .fbPosLoRead by_ n => Sys2Proof.Machine.execFbPosLoRead by_ n s
  | .dioInLoRead by_ => Sys2Proof.Machine.execDioInLoRead by_ s
  | .vcStepsLoRead by_ n => Sys2Proof.Machine.execVcStepsLoRead by_ n s
  | .leRecordWrite by_ c offset octets => Sys2Proof.Machine.execLeRecordWrite by_ c offset octets s
  | .imWrite by_ n word value => Sys2Proof.Machine.execImWrite by_ n word value s
  | .zaSlotPostGo by_ slot entries => Sys2Proof.Machine.execZaSlotPostGo by_ slot entries s
  | .zaSlotTokenGo by_ slot => Sys2Proof.Machine.execZaSlotTokenGo by_ slot s
  | .pgChCmdGo by_ c value => Sys2Proof.Machine.execPgChCmdGo by_ c value s
  | .pgGroupGo by_ value => Sys2Proof.Machine.execPgGroupGo by_ value s
  | .pgArmHoReq by_ a value => Sys2Proof.Machine.execPgArmHoReq by_ a value s
  | .dioOutWrite by_ hi value => Sys2Proof.Machine.execDioOutWrite by_ hi value s
  | .dioOutSet by_ hi value => Sys2Proof.Machine.execDioOutSet by_ hi value s
  | .dioOutClr by_ hi value => Sys2Proof.Machine.execDioOutClr by_ hi value s
  | .loadAll by_ => Sys2Proof.Machine.execLoadAll by_ s
  | .pwForceWrite by_ n value => Sys2Proof.Machine.execPwForceWrite by_ n value s
  | .vcHaltReq by_ n => Sys2Proof.Machine.execVcHaltReq by_ n s
  | .vcRun by_ n => Sys2Proof.Machine.execVcRun by_ n s
  | .vcStep by_ n => Sys2Proof.Machine.execVcStep by_ n s
  | .vcDbgSelGo by_ n value => Sys2Proof.Machine.execVcDbgSelGo by_ n value s
  | .crcStart by_ c => Sys2Proof.Machine.execCrcStart by_ c s
  | .crcDataWrite by_ c value => Sys2Proof.Machine.execCrcDataWrite by_ c value s
  | .crcValueWrite by_ c value => Sys2Proof.Machine.execCrcValueWrite by_ c value s
  | .crcFinish by_ c => Sys2Proof.Machine.execCrcFinish by_ c s
  | .crcBlockGo by_ c => Sys2Proof.Machine.execCrcBlockGo by_ c s
  | .crcBlockComplete u => Sys2Proof.Machine.execCrcBlockComplete u s
  | .functionLevelReset => Sys2Proof.Machine.execFunctionLevelReset s
  | .pcieLinkLoss => Sys2Proof.Machine.execPcieLinkLoss s
  | .perstN => Sys2Proof.Machine.execPerstN s
  | .branch n cond a target mv => Sys2Proof.Machine.execBranch n cond a target mv s
  | .call n cond a target mv => Sys2Proof.Machine.execCall n cond a target mv s
  | .returnOp n cond a mv => Sys2Proof.Machine.execReturnOp n cond a mv s
  | .rpt n count mv => Sys2Proof.Machine.execRpt n count mv s
  | .loop n a target mv => Sys2Proof.Machine.execLoop n a target mv s
  | .endItem n mv => Sys2Proof.Machine.execEndItem n mv s
  | .nop n mv => Sys2Proof.Machine.execNop n mv s
  | .vectorAdd n f => Sys2Proof.Machine.execVectorAdd n f s
  | .vectorSubtract n f => Sys2Proof.Machine.execVectorSubtract n f s
  | .compare n f => Sys2Proof.Machine.execCompare n f s
  | .select n f => Sys2Proof.Machine.execSelect n f s
  | .logic n op f => Sys2Proof.Machine.execLogic n op f s
  | .shift n f count => Sys2Proof.Machine.execShift n f count s
  | .mul n f => Sys2Proof.Machine.execMul n f s
  | .norm n f src => Sys2Proof.Machine.execNorm n f src s
  | .exp n f src => Sys2Proof.Machine.execExp n f src s
  | .vectorMove n f => Sys2Proof.Machine.execVectorMove n f s
  | .mac n f => Sys2Proof.Machine.execMac n f s
  | .msu n f => Sys2Proof.Machine.execMsu n f s
  | .cmac n f => Sys2Proof.Machine.execCmac n f s
  | .cmacc n f => Sys2Proof.Machine.execCmacc n f s
  | .clr n f => Sys2Proof.Machine.execClr n f s
  | .longLoad n f => Sys2Proof.Machine.execLongLoad n f s
  | .longStore n f => Sys2Proof.Machine.execLongStore n f s
  | .scalarOp n op f => Sys2Proof.Machine.execScalarOp n op f s
  | .laneMove n toV w f => Sys2Proof.Machine.execLaneMove n toV w f s
  | .stac n f => Sys2Proof.Machine.execStac n f s
  | .accShift n f => Sys2Proof.Machine.execAccShift n f s
  | .fabricLoad n f => Sys2Proof.Machine.execFabricLoad n f s
  | .fabricStore n f => Sys2Proof.Machine.execFabricStore n f s
  | .tokenSend n f => Sys2Proof.Machine.execTokenSend n f s
  | .coreSignalTaken n cause => Sys2Proof.Machine.execCoreSignalTaken n cause s
  | .budgetOverrun n => Sys2Proof.Machine.execBudgetOverrun n s
  | .coreHung n => Sys2Proof.Machine.execCoreHung n s
  | .tokenAccept => Sys2Proof.Machine.execTokenAccept s
  | .prefetch => Sys2Proof.Machine.execPrefetch s
  | .itemStart n => Sys2Proof.Machine.execItemStart n s
  | .templateSpanTrigger t => Sys2Proof.Machine.execTemplateSpanTrigger t s
  | .spanInstant pace volts => Sys2Proof.Machine.execSpanInstant pace volts s
  | .gatherDeparture r => Sys2Proof.Machine.execGatherDeparture r s
  | .gatherCompletion r west east lap => Sys2Proof.Machine.execGatherCompletion r west east lap s
  | .gatherCutoff r => Sys2Proof.Machine.execGatherCutoff r s
  | .deliverCutoff r => Sys2Proof.Machine.execDeliverCutoff r s
  | .outputFreeze => Sys2Proof.Machine.execOutputFreeze s
  | .deliverDeparture r => Sys2Proof.Machine.execDeliverDeparture r s
  | .deliverDeckReturn r west east lap => Sys2Proof.Machine.execDeliverDeckReturn r west east lap s
  | .deckArrival r pos deck pass_ => Sys2Proof.Machine.execDeckArrival r pos deck pass_ s
  | .nodeDataLoss r pos => Sys2Proof.Machine.execNodeDataLoss r pos s
  | .mailboxRetransmit r => Sys2Proof.Machine.execMailboxRetransmit r s
  | .listenTimeout r => Sys2Proof.Machine.execListenTimeout r s
  | .deckSilenceTimeout r => Sys2Proof.Machine.execDeckSilenceTimeout r s
  | .coldDeckReceived r deck => Sys2Proof.Machine.execColdDeckReceived r deck s
  | .claimBackoffExpiry r => Sys2Proof.Machine.execClaimBackoffExpiry r s
  | .coldDeckDeparture r => Sys2Proof.Machine.execColdDeckDeparture r s
  | .coldDeckReturn r deck east lap => Sys2Proof.Machine.execColdDeckReturn r deck east lap s
  | .integrateDeckDeparture r => Sys2Proof.Machine.execIntegrateDeckDeparture r s
  | .integrateDeckReturn r deck back => Sys2Proof.Machine.execIntegrateDeckReturn r deck back s
  | .integrationTimeout => Sys2Proof.Machine.execIntegrationTimeout s
  | .probeWindowOpen port => Sys2Proof.Machine.execProbeWindowOpen port s
  | .probeRequest port octets times inWindow => Sys2Proof.Machine.execProbeRequest port octets times inWindow s
  | .probeResponse port octets tx rx => Sys2Proof.Machine.execProbeResponse port octets tx rx s
  | .probeSilent port => Sys2Proof.Machine.execProbeSilent port s
  | .linkUp port alignment => Sys2Proof.Machine.execLinkUp port alignment s
  | .linkDown port => Sys2Proof.Machine.execLinkDown port s
  | .leRun joints axes => Sys2Proof.Machine.execLeRun joints axes s
  | .deadlineLeExpiry => Sys2Proof.Machine.execDeadlineLeExpiry s
  | .deadlineVcExpiry => Sys2Proof.Machine.execDeadlineVcExpiry s
  | .profileRun reached => Sys2Proof.Machine.execProfileRun reached s
  | .wardenRun => Sys2Proof.Machine.execWardenRun s
  | .wardenDeadline => Sys2Proof.Machine.execWardenDeadline s
  | .wardenLockstep => Sys2Proof.Machine.execWardenLockstep s
  | .heartbeatReceived span gap => Sys2Proof.Machine.execHeartbeatReceived span gap s
  | .wardenSilent => Sys2Proof.Machine.execWardenSilent s
  | .heartbeatRestored => Sys2Proof.Machine.execHeartbeatRestored s
  | .parapetEvaluation vectorsPass => Sys2Proof.Machine.execParapetEvaluation vectorsPass s
  | .graceEnd => Sys2Proof.Machine.execGraceEnd s
  | .parapetHoldEnd a => Sys2Proof.Machine.execParapetHoldEnd a s
  | .parapetContainerReceived conn octets => Sys2Proof.Machine.execParapetContainerReceived conn octets s
  | .demandOctetsReceived conn octets => Sys2Proof.Machine.execDemandOctetsReceived conn octets s
  | .spanMarkReceived ns32 => Sys2Proof.Machine.execSpanMarkReceived ns32 s
  | .integrationMarkReceived r => Sys2Proof.Machine.execIntegrationMarkReceived r s
  | .connectionWatchdogExpiry ch conn => Sys2Proof.Machine.execConnectionWatchdogExpiry ch conn s
  | .parapetStatusReport => Sys2Proof.Machine.execParapetStatusReport s
  | .safeInputChange ch input pinB samples => Sys2Proof.Machine.execSafeInputChange ch input pinB samples s
  | .discrepancyFault ch input => Sys2Proof.Machine.execDiscrepancyFault ch input s
  | .testPulse ch tp readsLow high => Sys2Proof.Machine.execTestPulse ch tp readsLow high s
  | .offDelayExpiry ch n => Sys2Proof.Machine.execOffDelayExpiry ch n s
  | .outputReadbackFault n sw readsClosed => Sys2Proof.Machine.execOutputReadbackFault n sw readsClosed s
  | .safeOutputOverload n sw => Sys2Proof.Machine.execSafeOutputOverload n sw s
  | .darkTest ch n => Sys2Proof.Machine.execDarkTest ch n s
  | .darkTestEnd ch n readsOpen => Sys2Proof.Machine.execDarkTestEnd ch n readsOpen s
  | .safKeyChange ch level => Sys2Proof.Machine.execSafKeyChange ch level s
  | .stagedCopyLapse => Sys2Proof.Machine.execStagedCopyLapse s
  | .solveTrigger slot => Sys2Proof.Machine.execSolveTrigger slot s
  | .solveStart lane => Sys2Proof.Machine.execSolveStart lane s
  | .refactorisationComplete lane => Sys2Proof.Machine.execRefactorisationComplete lane s
  | .iterationComplete lane => Sys2Proof.Machine.execIterationComplete lane s
  | .solvePosting lane => Sys2Proof.Machine.execSolvePosting lane s
  | .solveDeadline slot => Sys2Proof.Machine.execSolveDeadline slot s
  | .zeroEvent n flt vs => Sys2Proof.Machine.execZeroEvent n flt vs s
  | .carrierPeak n => Sys2Proof.Machine.execCarrierPeak n s
  | .conversionComplete n second sample => Sys2Proof.Machine.execConversionComplete n second sample s
  | .fltActive n => Sys2Proof.Machine.execFltActive n s
  | .feedbackEdge n levels => Sys2Proof.Machine.execFeedbackEdge n levels s
  | .edgeSpacingExpiry n pins => Sys2Proof.Machine.execEdgeSpacingExpiry n pins s
  | .stepPulse n => Sys2Proof.Machine.execStepPulse n s
  | .stepInputTimeout n => Sys2Proof.Machine.execStepInputTimeout n s
  | .holdAmplitude n => Sys2Proof.Machine.execHoldAmplitude n s
  | .exchangeFrame good => Sys2Proof.Machine.execExchangeFrame good s
  | .exchangeAnswer good => Sys2Proof.Machine.execExchangeAnswer good s
  | .dioInPublish => Sys2Proof.Machine.execDioInPublish s
  | .fieldOutputFault pin wholeGroup => Sys2Proof.Machine.execFieldOutputFault pin wholeGroup s
  | .fieldWatchdogExpiry => Sys2Proof.Machine.execFieldWatchdogExpiry s
  | .refclkWindow count => Sys2Proof.Machine.execRefclkWindow count s
  | .ptpFrameReceived port place => Sys2Proof.Machine.execPtpFrameReceived port place s
  | .syncLossTimeout => Sys2Proof.Machine.execSyncLossTimeout s
  | .plantFrameReceived port fcsGood frame rx => Sys2Proof.Machine.execPlantFrameReceived port fcsGood frame rx s
  | .frameTransmitted port tx => Sys2Proof.Machine.execFrameTransmitted port tx s
  | .pslSendPeriod port dest => Sys2Proof.Machine.execPslSendPeriod port dest s
  | .crossLinkRecord lane checkGood rec => Sys2Proof.Machine.execCrossLinkRecord lane checkGood rec s
  | .crossLinkHeartbeat => Sys2Proof.Machine.execCrossLinkHeartbeat s
  | .commandRecordMissed => Sys2Proof.Machine.execCommandRecordMissed s
  | .crossLinkSilent => Sys2Proof.Machine.execCrossLinkSilent s
  | .expectedDeckTimeout => Sys2Proof.Machine.execExpectedDeckTimeout s
  | .takeover => Sys2Proof.Machine.execTakeover s
  | .transfer => Sys2Proof.Machine.execTransfer s
  | .dipStart rail mv => Sys2Proof.Machine.execDipStart rail mv s
  | .warningDwellExpiry rail => Sys2Proof.Machine.execWarningDwellExpiry rail s
  | .dipEnd rail mv => Sys2Proof.Machine.execDipEnd rail mv s
  | .railBelowResetLevel rail mv => Sys2Proof.Machine.execRailBelowResetLevel rail mv s
  | .powerOnReset => Sys2Proof.Machine.execPowerOnReset s
  | .rstNAssert => Sys2Proof.Machine.execRstNAssert s
  | .resetHeld => Sys2Proof.Machine.execResetHeld s
  | .tb2WatchdogExpiry => Sys2Proof.Machine.execTb2WatchdogExpiry s
  | .parapetReset => Sys2Proof.Machine.execParapetReset s
  | .wake => Sys2Proof.Machine.execWake s
  | .resetRelease io => Sys2Proof.Machine.execResetRelease io s
  | .catalogueLoad io => Sys2Proof.Machine.execCatalogueLoad io s
  | .lpddrInitComplete => Sys2Proof.Machine.execLpddrInitComplete s
  | .scrubRead domain found => Sys2Proof.Machine.execScrubRead domain found s
  | .scrubSlow domain => Sys2Proof.Machine.execScrubSlow domain s
  | .correctedWriteBack domain word => Sys2Proof.Machine.execCorrectedWriteBack domain word s
  | .remapRecordWrite io => Sys2Proof.Machine.execRemapRecordWrite io s
  | .eventSequenced => Sys2Proof.Machine.execEventSequenced s
  | .eventLogWrite io => Sys2Proof.Machine.execEventLogWrite io s
  | .parapetStart => Sys2Proof.Machine.execParapetStart s
  | .railAboveResetLevel rail mv => Sys2Proof.Machine.execRailAboveResetLevel rail mv s
  | .pcsSyncAcquired port => Sys2Proof.Machine.execPcsSyncAcquired port s
  | .invalidCodeGroup port inDeck => Sys2Proof.Machine.execInvalidCodeGroup port inDeck s
  | .dioSamplingPoint levels continuous => Sys2Proof.Machine.execDioSamplingPoint levels continuous s
  | .parapetStatusTimeout => Sys2Proof.Machine.execParapetStatusTimeout s
  | .pcieLinkTrained => Sys2Proof.Machine.execPcieLinkTrained s
  | .ptpMessageInterval port => Sys2Proof.Machine.execPtpMessageInterval port s

end Sys2Proof.Machine
end

