-- ==== Sys2Proof/Safety.lean ====
section
/-! DEFINITION. What a safe run is: every step answers a next state, and the states keep the form that equal states are equal data. -/
namespace Sys2Proof.Machine

/-- The memory keeps its canonical form: addresses strictly rising and no octet equal to what an unlisted address reads as (R414, R415). -/
def Memory.wf (m : Table Byte) : Bool := Table.wf (0 : Byte) m

/-- TB2 is never stepped and never corrected (R50, R51): MONOTONIC, rate 0, not clamped, no step counted. -/
def Unsteered (t : TimeBase) : Prop :=
  t.mode = .monotonic ∧ t.rate = 0 ∧ t.clamped = false ∧ t.steps = 0 ∧ t.hostSteps = 0 ∧ t.step = 0

/-- What every step keeps: memory in its canonical form, and TB2 unsteered, as it stands and in the snapshot from which its counters may return (R446). -/
def Inv (s : State) : Prop := Memory.wf s.mem = true ∧ Unsteered s.tb.tb2 ∧ ∀ o, s.snap = some o → Unsteered o.tb.tb2

/-- Runs at most `n` steps; none where a step does not answer a next state. -/
def run : Nat → State → Option State
  | 0, s => some s
  | n + 1, s =>
    match step s with
    | .next t => run n t
    | _ => none

/-- A run of `n` steps is safe where each of them answers a next state. -/
def Safe (n : Nat) (s : State) : Prop := (run n s).isSome

end Sys2Proof.Machine
end

