-- ==== Sys2Proof/WellFormed.lean ====
section
/-! DEFINITION. Which commands are well formed: numbers that name something the spec gives the device. A command that is not names a core, ring, node, rail, domain, pin or lot that does not exist. -/
namespace Sys2Proof

def below {w : Nat} (x : BitVec w) (n : Nat) : Bool := decide (x.toNat < n)

def within {w : Nat} (x : BitVec w) (lo hi : Nat) : Bool := decide (lo ≤ x.toNat) && decide (x.toNat ≤ hi)

/-- A vector core that makes an access is one of the twelve (R296). -/
def Requester.wf : Requester → Bool
  | .core n => below n 12
  | _ => true

/-- A host access to the shared window lies in one lot, since PCI Express splits requests at 4 KiB (R355, R360; log entry 23). -/
def inLot (offset : BitVec 28) (len : Nat) : Bool := decide (0 < len) && decide (offset.toNat % 4096 + len ≤ 4096)

/-- Well-formed commands: rings 0 to 13, positions 1 to 16, cores 0 to 11, channels 0 to 71, arm sets 0 to 8, rails 0 to 11, domains 0 to 671, field pins 0 to 47 and host accesses within a lot. -/
def Instr.wf : Instr → Bool
  | .hostWindowWrite offset octets => inLot offset octets.length
  | .hostWindowRead offset len => inLot offset len
  | .registerWrite by_ _ _ _ => by_.wf
  | .tbSnapGo by_ => by_.wf
  | .tbNsLoRead by_ _ => by_.wf
  | .tb0SpanLoRead by_ => by_.wf
  | .leArmPtimeLoRead by_ a => by_.wf && below a 9
  | .fbPosLoRead by_ _ => by_.wf
  | .dioInLoRead by_ => by_.wf
  | .vcStepsLoRead by_ n => by_.wf && below n 12
  | .leRecordWrite by_ c offset octets => by_.wf && below c 72 && decide (offset.toNat + octets.length ≤ 256)
  | .imWrite by_ n _ _ => by_.wf && below n 12
  | .zaSlotPostGo by_ _ _ => by_.wf
  | .zaSlotTokenGo by_ _ => by_.wf
  | .pgChCmdGo by_ c _ => by_.wf && below c 72
  | .pgGroupGo by_ _ => by_.wf
  | .pgArmHoReq by_ a _ => by_.wf && below a 9
  | .dioOutWrite by_ _ _ => by_.wf
  | .dioOutSet by_ _ _ => by_.wf
  | .dioOutClr by_ _ _ => by_.wf
  | .loadAll by_ => by_.wf
  | .pwForceWrite by_ _ _ => by_.wf
  | .vcHaltReq by_ n => by_.wf && below n 12
  | .vcRun by_ n => by_.wf && below n 12
  | .vcStep by_ n => by_.wf && below n 12
  | .vcDbgSelGo by_ n _ => by_.wf && below n 12
  | .crcStart by_ _ => by_.wf
  | .crcDataWrite by_ _ _ => by_.wf
  | .crcValueWrite by_ _ _ => by_.wf
  | .crcFinish by_ _ => by_.wf
  | .crcBlockGo by_ _ => by_.wf
  | .branch n _ _ _ _ => below n 12
  | .call n _ _ _ _ => below n 12
  | .returnOp n _ _ _ => below n 12
  | .rpt n _ _ => below n 12
  | .loop n _ _ _ => below n 12
  | .endItem n _ => below n 12
  | .nop n _ => below n 12
  | .vectorAdd n _ => below n 12
  | .vectorSubtract n _ => below n 12
  | .compare n _ => below n 12
  | .select n _ => below n 12
  | .logic n _ _ => below n 12
  | .shift n _ _ => below n 12
  | .mul n _ => below n 12
  | .norm n _ _ => below n 12
  | .exp n _ _ => below n 12
  | .vectorMove n _ => below n 12
  | .mac n _ => below n 12
  | .msu n _ => below n 12
  | .cmac n _ => below n 12
  | .cmacc n _ => below n 12
  | .clr n _ => below n 12
  | .longLoad n _ => below n 12
  | .longStore n _ => below n 12
  | .scalarOp n _ _ => below n 12
  | .laneMove n _ _ _ => below n 12
  | .stac n _ => below n 12
  | .accShift n _ => below n 12
  | .fabricLoad n _ => below n 12
  | .fabricStore n _ => below n 12
  | .tokenSend n _ => below n 12
  | .coreSignalTaken n cause => below n 12 && within cause 1 4
  | .budgetOverrun n => below n 12
  | .coreHung n => below n 12
  | .itemStart n => below n 12
  | .spanInstant _ volts => decide (volts.length = 12)
  | .gatherDeparture r => below r 14
  | .gatherCompletion r _ _ _ => below r 14
  | .gatherCutoff r => below r 14
  | .deliverCutoff r => below r 14
  | .deliverDeparture r => below r 14
  | .deliverDeckReturn r _ _ _ => below r 14
  | .deckArrival r pos _ _ => below r 14 && within pos 1 16
  | .nodeDataLoss r pos => below r 14 && within pos 1 16
  | .mailboxRetransmit r => below r 14
  | .listenTimeout r => below r 14
  | .deckSilenceTimeout r => below r 14
  | .coldDeckReceived r _ => below r 14
  | .claimBackoffExpiry r => below r 14
  | .coldDeckDeparture r => below r 14
  | .coldDeckReturn r _ _ _ => below r 14
  | .integrateDeckDeparture r => below r 14
  | .integrateDeckReturn r _ _ => below r 14
  | .leRun joints axes => decide (joints.length ≤ 64) && decide (axes.length ≤ 8)
  | .profileRun reached => within reached 0 72
  | .integrationMarkReceived r => below r 14
  | .fieldOutputFault pin _ => below pin 48
  | .dipStart rail _ => below rail 12
  | .warningDwellExpiry rail => below rail 12
  | .dipEnd rail _ => below rail 12
  | .railBelowResetLevel rail _ => below rail 12
  | .scrubRead domain _ => below domain 672
  | .scrubSlow domain => below domain 672
  | .correctedWriteBack domain _ => below domain 672
  | .railAboveResetLevel rail _ => below rail 12
  | .devNop _ => true
  | .devInfo _ => true
  | .devWarmReset _ => true
  | .warmReset => true
  | .devService _ => true
  | .devDormant _ => true
  | .catWrite _ _ => true
  | .catVerify _ _ => true
  | .catCommit _ _ => true
  | .catRead _ _ => true
  | .fwWrite _ _ => true
  | .fwCommit _ _ => true
  | .cellIntegrate _ => true
  | .cellEngage _ => true
  | .cellRun _ => true
  | .cellStop _ => true
  | .cellPark _ => true
  | .cellRingsOff _ => true
  | .cellClear _ => true
  | .armResume _ => true
  | .ringClose _ => true
  | .pgTarget _ => true
  | .pgStartGroup _ => true
  | .pgStop _ => true
  | .pgHandover _ => true
  | .axStallClear _ => true
  | .zaPost _ => true
  | .zaToken _ => true
  | .zaResult _ => true
  | .timeStep _ => true
  | .timeRate _ => true
  | .timeTb3Mode _ => true
  | .dioWrite _ => true
  | .dioClear _ => true
  | .cntClear _ => true
  | .evtRead _ => true
  | .lotGrant _ => true
  | .lotRelease _ => true
  | .mbxSend _ => true
  | .mbxRecv _ => true
  | .frameSend _ => true
  | .frameRxPool _ => true
  | .safStatus _ => true
  | .safStage _ => true
  | .safAccept _ => true
  | .safRestart _ => true
  | .safOutput _ => true
  | .cqEnable _ _ => true
  | .cqDisable _ _ => true
  | .submissionTailDoorbell _ _ _ => true
  | .replyHeadDoorbell _ _ => true
  | .lotFlagWrite _ _ _ => true
  | .crcBlockComplete _ => true
  | .functionLevelReset => true
  | .pcieLinkLoss => true
  | .perstN => true
  | .tokenAccept => true
  | .prefetch => true
  | .templateSpanTrigger _ => true
  | .outputFreeze => true
  | .integrationTimeout => true
  | .probeWindowOpen _ => true
  | .probeRequest _ octets _ _ => octets.length == 7
  | .probeResponse _ octets _ _ => octets.length == 7
  | .probeSilent _ => true
  | .linkUp _ _ => true
  | .linkDown _ => true
  | .deadlineLeExpiry => true
  | .deadlineVcExpiry => true
  | .wardenRun => true
  | .wardenDeadline => true
  | .wardenLockstep => true
  | .heartbeatReceived _ _ => true
  | .wardenSilent => true
  | .heartbeatRestored => true
  | .parapetEvaluation _ => true
  | .graceEnd => true
  | .parapetHoldEnd _ => true
  | .parapetContainerReceived _ _ => true
  | .demandOctetsReceived _ _ => true
  | .spanMarkReceived _ => true
  | .connectionWatchdogExpiry _ _ => true
  | .parapetStatusReport => true
  | .safeInputChange _ _ _ _ => true
  | .discrepancyFault _ _ => true
  | .testPulse _ _ _ _ => true
  | .offDelayExpiry _ _ => true
  | .outputReadbackFault _ _ _ => true
  | .safeOutputOverload _ _ => true
  | .darkTest _ _ => true
  | .darkTestEnd _ _ _ => true
  | .safKeyChange _ _ => true
  | .stagedCopyLapse => true
  | .solveTrigger _ => true
  | .solveStart _ => true
  | .refactorisationComplete _ => true
  | .iterationComplete _ => true
  | .solvePosting _ => true
  | .solveDeadline _ => true
  | .zeroEvent _ _ _ => true
  | .carrierPeak _ => true
  | .conversionComplete _ _ _ => true
  | .fltActive _ => true
  | .feedbackEdge _ _ => true
  | .edgeSpacingExpiry _ _ => true
  | .stepPulse _ => true
  | .stepInputTimeout _ => true
  | .holdAmplitude _ => true
  | .exchangeFrame _ => true
  | .exchangeAnswer _ => true
  | .dioInPublish => true
  | .fieldWatchdogExpiry => true
  | .refclkWindow _ => true
  | .ptpFrameReceived _ _ => true
  | .syncLossTimeout => true
  | .plantFrameReceived _ _ _ _ => true
  | .frameTransmitted _ _ => true
  | .pslSendPeriod _ _ => true
  | .crossLinkRecord _ _ _ => true
  | .crossLinkHeartbeat => true
  | .commandRecordMissed => true
  | .crossLinkSilent => true
  | .expectedDeckTimeout => true
  | .takeover => true
  | .transfer => true
  | .powerOnReset => true
  | .rstNAssert => true
  | .resetHeld => true
  | .tb2WatchdogExpiry => true
  | .parapetReset => true
  | .wake => true
  | .resetRelease _ => true
  | .catalogueLoad _ => true
  | .lpddrInitComplete => true
  | .remapRecordWrite _ => true
  | .eventSequenced => true
  | .eventLogWrite _ => true
  | .parapetStart => true
  | .pcsSyncAcquired _ => true
  | .invalidCodeGroup _ _ => true
  | .dioSamplingPoint _ _ => true
  | .parapetStatusTimeout => true
  | .pcieLinkTrained => true
  | .ptpMessageInterval _ => true

end Sys2Proof
end

