-- ==== Sys2Proof/Certificates/Slice0/Obligations.lean ====
section
/-! DEFINITION. The statements for the provers. Each docstring says what its statement claims. -/
open Sys2Proof Sys2Proof.Machine

/-- A step runs the command at the front of the queue with the queue's rest. -/
def Obligations.StepRunsTheFrontCommand : Prop :=
  ∀ (s : State) (c : Instr) (rest : List Instr), s.pending = c :: rest → step s = exec c { s with pending := rest }

/-- On an empty queue a tick passes: every time base advances by 1 ns plus its rate, and the carriers count on 4 ns ticks. -/
def Obligations.IdleStepAdvancesTimeBases : Prop :=
  ∀ s : State, s.pending = [] → ∃ t, step s = .next t ∧
    (∀ n : Nat, n < 4 →
      let rate : W32 := if n = 3 then (if s.tb.source = 1 then s.tb.tb0.rate else if s.tb.source = 2 then s.tb.tb1.rate else s.tb.tb3.rate)
        else (s.timeBase n).rate
      (t.timeBase n).ns.toNat * 2 ^ 32 + (t.timeBase n).frac.toNat
          = (((s.timeBase n).ns.toNat * 2 ^ 32 + (s.timeBase n).frac.toNat : Int) + 2 ^ 32 + rate.toInt).toNat % 2 ^ 96
        ∧ (t.timeBase n).rate = rate ∧ (t.timeBase n).step = (s.timeBase n).step
        ∧ (t.timeBase n).steps = (s.timeBase n).steps ∧ (t.timeBase n).hostSteps = (s.timeBase n).hostSteps) ∧
    (s.tick.came .leComplete = false → (∀ d, s.tick.came (.itemDeadline d) = false) →
      t = { s with tb := t.tb, par := { s.par with clock := s.par.clock + 1 }, ax := t.ax } ∧
      (∀ n : Nat, n < 4 → (t.timeBase n).mode = (s.timeBase n).mode) ∧
      (∀ n : Nat, n < 8 →
        let p := (s.axm n).pw
        let top := (s.axCfg n).top.toNat
        let counts := s.pwr.inReset = false ∧ s.pwr.dormant = false ∧ t.tb.tb2.ns.toNat % 4 = 0 ∧ (s.axCfg n).enable = true
        t.axm n = { s.axm n with pw := { p with count := (t.axm n).pw.count, down := (t.axm n).pw.down } } ∧
        (counts → p.down = true → (t.axm n).pw.count.toNat = p.count.toNat - 1 ∧ (t.axm n).pw.down = true) ∧
        (counts → p.down = false → p.count.toNat < top → (t.axm n).pw.count.toNat = p.count.toNat + 1
          ∧ (t.axm n).pw.down = decide (p.count.toNat + 1 = top)) ∧
        (¬ counts → t.axm n = s.axm n)))

/-- What power-on leaves: uncatalogued, queues off, lots FREE, vectors masked, TB2 monotonic. -/
def Obligations.ResetHoldsPowerOnValues : Prop :=
  let s := State.reset
  s.dev.cell = .uncatalogued ∧ (∀ a, s.arm a = .unused) ∧ s.pwr.inReset = true ∧ s.pwr.causes = [.powerOn]
    ∧ (∀ q, (s.queue q).enable = false ∧ (s.queue q).sqHead = 0 ∧ (s.queue q).sqTail = 0 ∧ (s.queue q).rqHead = 0
        ∧ (s.queue q).rqTail = 0 ∧ (s.queue q).next = 0)
    ∧ (∀ l, s.lot l = 0) ∧ (∀ v, (Table.get {} s.hq.msix v).masked = true)
    ∧ s.tb.tb0.mode = .free ∧ s.tb.tb1.mode = .free ∧ s.tb.tb2.mode = .monotonic ∧ s.tb.tb3.mode = .free
    ∧ s.evt.nextSeq = 1 ∧ s.evt.buffer = [] ∧ (∀ a, Table.get 0 s.mem a = 0) ∧ s.pending = []

/-- The invariant holds at reset. -/
def Obligations.InvariantHoldsAtReset : Prop :=
  Inv State.reset

/-- Every step keeps the memory canonical and TB2 unsteered. -/
def Obligations.EveryStepKeepsTheInvariant : Prop :=
  ∀ s t : State, Inv s → step s = .next t → Inv t

/-- Every command answers a next state and leaves the queue of waiting commands. -/
def Obligations.EveryCommandCompletesAndKeepsTheQueue : Prop :=
  ∀ (c : Instr) (s : State), ∃ t, exec c s = .next t ∧ t.pending = s.pending

/-- The registrar takes packets in the order of service and checks each: number, flags and octets, lots; then the command acts. -/
def Obligations.PacketsAreCheckedInOrder : Prop :=
  ∀ (s : State) (p : Packet) (op : W16) (good : Bool) (lots : List Nat) (body : State → Served),
    let q := p.queue.toNat
    let u := s.queue q
    let head := BitVec.ofNat 16 ((u.sqHead.toNat + 1) % Queue.entries u.sqLog2)
    let turned : State := { s with hq := { s.hq with turn := if q < 4 then s.hq.turn else q } }
    let counted := turned.setQueue q { u with sqHead := head, next := u.next + 1 }
    (s.canTake q = true ↔ s.waits q = true ∧ (∀ k, k < 4 → k < q → s.waits k = false)
      ∧ (4 ≤ q → ∀ k, 4 ≤ k → k < 16 → (k + 23 - s.hq.turn) % 12 < (q + 23 - s.hq.turn) % 12 → s.waits k = false)) ∧
    (s.canTake q = false → serve s p op good lots body = s) ∧
    (s.canTake q = true → p.seq ≠ u.next →
      serve s p op good lots body
        = (turned.setQueue q { u with sqHead := head, badSeq := inc u.badSeq }).reply q (s.ctxFor p op []) { status := 0x0003, r0 := u.next }) ∧
    (s.canTake q = true → p.seq = u.next → (2 ≤ p.flags.toNat ∨ good = false) →
      serve s p op good lots body = counted.reply q (s.ctxFor p op lots) { status := 0x0002 }) ∧
    (s.takes p = true → good = true → (∃ l ∈ lots, s.lot l ≠ 2) →
      serve s p op good lots body = counted.reply q (s.ctxFor p op lots) { status := 0x000A }) ∧
    (s.takes p = true → good = true → (∀ l ∈ lots, s.lot l = 2) →
      s.taken p op lots = counted.setQueue q { u with sqHead := head, next := u.next + 1, busy := some (s.ctxFor p op lots) } ∧
      serve s p op good lots body = match body (s.taken p op lots) with
        | .answer t a => t.reply q (s.ctxFor p op lots) a
        | .later t => t)

/-- A reply echoes its packet, advances the reply ring, inverts the phase at a wrap, and returns the lots. -/
def Obligations.RepliesAreWrittenToTheRing : Prop :=
  ∀ (s : State) (q : Nat) (c : ReplyCtx) (a : Answer),
    let u := s.queue q
    let t := s.reply q c a
    let tail := (u.rqTail.toNat + 1) % Queue.entries u.rqLog2
    t = { s with hq := t.hq }
    ∧ (t.queue q).busy = none ∧ (t.queue q).next = u.next ∧ (t.queue q).sqHead = u.sqHead ∧ (t.queue q).sqTail = u.sqTail
    ∧ (t.queue q).enable = u.enable ∧ (t.queue q).active = u.enable
    ∧ (∀ j, j ≠ q → t.queue j = s.queue j)
    ∧ (∀ l, t.lot l = if l ∈ c.lots ∧ s.lot l = 2 then 1 else s.lot l)
    ∧ (u.discard = true → (t.queue q).rqTail = u.rqTail ∧ (t.queue q).phase = u.phase ∧ (t.queue q).replies = u.replies
        ∧ (t.queue q).lastReply = u.lastReply ∧ t.hq.sent = s.hq.sent ∧ t.hq.pba = s.hq.pba)
    ∧ (u.discard = false →
        (t.queue q).lastReply = { opcode := c.opcode, tag := c.tag, phase := u.phase, status := a.status, seq := c.seq, span := c.span
                                  r0 := a.r0, r1 := a.r1, r2 := a.r2, r3 := a.r3 }
        ∧ (t.queue q).rqTail = BitVec.ofNat 16 tail ∧ (t.queue q).phase = (if tail = 0 then !u.phase else u.phase)
        ∧ (t.queue q).replies = inc u.replies
        ∧ (c.notify = false → t.hq.sent = s.hq.sent ∧ t.hq.pba = s.hq.pba)
        ∧ (c.notify = true → (t.hq.sent, t.hq.pba) = ((s.vector q).hq.sent, (s.vector q).hq.pba)))

/-- DEV_NOP, DEV_INFO and DEV_SERVICE reply their results and change only what they name. -/
def Obligations.DeviceCommandsAnswer : Prop :=
  ∀ (s : State) (p : Packet), s.takes p = true →
    (unusedZero p.params [] = true →
      exec (.devNop p) s = .next (s.replied p 0x0001 [] fun t => (t, { r0 := s.span32 })) ∧
      exec (.devInfo p) s = .next (s.replied p 0x0002 [] fun t =>
        (t, { r0 := 0x80645C16, r1 := s.dev.stepping, r2 := s.vcRegStat, r3 := s.cat.curSeq }))) ∧
    (unusedZero p.params [(0, 1)] = true → param p.params 0 1 = 0 →
      exec (.devService p) s = .next (s.replied p 0x0004 [] fun t => ({ t with hq := { t.hq with service := false } }, {}))) ∧
    (unusedZero p.params [(0, 1)] = true → param p.params 0 1 = 1 →
      (s.dev.cell = .uncatalogued ∨ s.dev.cell = .loaded ∨ s.dev.cell = .parked →
        exec (.devService p) s = .next (s.replied p 0x0004 [] fun t => ({ t with hq := { t.hq with service := true } }, {}))) ∧
      (s.dev.cell ≠ .uncatalogued → s.dev.cell ≠ .loaded → s.dev.cell ≠ .parked →
        exec (.devService p) s = .next (s.replied p 0x0004 [] fun t => (t, { status := 0x0004 }))))

/-- CQ_ENABLE empties and starts a queue, CQ_DISABLE stops it, doorbells move their pointers, and other writes are refused or counted. -/
def Obligations.QueuesAndDoorbellsFollowTheHost : Prop :=
  ∀ (s : State) (q : BitVec 4) (v : W32), s.hostMay = true →
    let u := s.queue q.toNat
    let bad := s.setQueue q.toNat { u with badDoorbell := inc u.badDoorbell }
    (u.enable = false → 4 ≤ (v.extractLsb' 0 4).toNat → (v.extractLsb' 0 4).toNat ≤ 12 → 4 ≤ (v.extractLsb' 4 4).toNat → (v.extractLsb' 4 4).toNat ≤ 12 →
      exec (.cqEnable q v) s = .next (s.setQueue q.toNat { u with
        enable := true, active := true, sqLog2 := v.extractLsb' 0 4, rqLog2 := v.extractLsb' 4 4
        sqHead := 0, sqTail := 0, rqTail := 0, rqHead := 0, phase := true })) ∧
    (u.enable = true →
      exec (.cqEnable q v) s = .next { s with hq := { s.hq with regRefused := inc s.hq.regRefused } } ∧
      exec (.cqDisable q v) s = .next (s.setQueue q.toNat { u with enable := false, active := u.busy.isSome })) ∧
    (u.enable = false →
      exec (.cqDisable q v) s = .next (s.setQueue q.toNat { u with sqLog2 := v.extractLsb' 0 4, rqLog2 := v.extractLsb' 4 4 })) ∧
    (u.enable = true → v.toNat < 2 ^ u.sqLog2.toNat →
      exec (.submissionTailDoorbell q v []) s = .next (s.setQueue q.toNat { u with sqTail := v.setWidth 16 })) ∧
    (u.enable = true → v.toNat < 2 ^ u.rqLog2.toNat →
      exec (.replyHeadDoorbell q v) s = .next (s.setQueue q.toNat { u with rqHead := v.setWidth 16 })) ∧
    (u.enable = false ∨ 2 ^ u.sqLog2.toNat ≤ v.toNat → exec (.submissionTailDoorbell q v []) s = .next bad) ∧
    (u.enable = false ∨ 2 ^ u.rqLog2.toNat ≤ v.toNat → exec (.replyHeadDoorbell q v) s = .next bad)

/-- A flag write makes the transitions of the host that its fields name and counts the others. -/
def Obligations.FlagWritesMakeHostTransitionsOnly : Prop :=
  ∀ (s : State) (w : BitVec 12) (v : W32) (en : BitVec 4), s.hostMay = true →
    let field := fun (i : Nat) => v.extractLsb' (2 * i) 2
    let old := fun (i : Nat) => s.lot (16 * w.toNat + i)
    let acts := fun (i : Nat) => en.getLsbD (i / 4) && field i != 3 && field i != old i
    let may := fun (i : Nat) => (old i == 0 && field i == 1) || (old i == 1 && field i == 0) || (old i == 1 && field i == 2)
    ∃ t, exec (.lotFlagWrite w v en) s = .next t
      ∧ t = { s with hq := { s.hq with lots := t.hq.lots, badFlag := t.hq.badFlag } }
      ∧ (∀ i, i < 16 → t.lot (16 * w.toNat + i) = if acts i && may i then field i else old i)
      ∧ (∀ l, l / 16 ≠ w.toNat → t.lot l = s.lot l)
      ∧ t.hq.badFlag.toNat = min 65535 (s.hq.badFlag.toNat + ((List.range 16).filter (fun i => acts i && !may i)).length)
      ∧ (∀ i, i < 16 → (s.regValue .host (0x8000 + 4 * w.toNat)).extractLsb' (2 * i) 2 = old i)
      ∧ exec (.registerWrite .host (BitVec.ofNat 20 (0x8000 + 4 * w.toNat)) true v) s = exec (.lotFlagWrite w v 0xF) s

/-- The host writes and reads a FREE or HOST lot, and a DEVICE or LOCKED lot discards its writes and reads all ones. -/
def Obligations.HostWindowFollowsLotOwnership : Prop :=
  ∀ (s : State) (offset : BitVec 28) (o : Octets) (len : Nat), s.hostMay = true →
    let a := 0x00F0000000 + offset.toNat
    let lot := offset.toNat / 4096
    (inLot offset o.length = true → s.lot lot = 0 ∨ s.lot lot = 1 → s.sound a o.length = true →
      ∃ t, exec (.hostWindowWrite offset o) s = .next t ∧ t = { s with mem := t.mem, memc := t.memc }
        ∧ t.memc = { s.memc with granules := t.memc.granules, domains := t.memc.domains }
        ∧ (∀ x, Table.get 0 t.mem x = if a ≤ x ∧ x < a + o.length then o.getD (x - a) 0 else Table.get 0 s.mem x)) ∧
    (s.lot lot = 2 ∨ s.lot lot = 3 →
      exec (.hostWindowWrite offset o) s = .next { s with hq := { s.hq with
        hostWrites := inc s.hq.hostWrites, lastValid := true, lastWrite := true, lastLot := BitVec.ofNat 16 lot } } ∧
      exec (.hostWindowRead offset len) s = .next { s with hq := { s.hq with
        hostReads := inc s.hq.hostReads, lastValid := true, lastWrite := false, lastLot := BitVec.ofNat 16 lot
        readValue := List.replicate len 0xFF } }) ∧
    (inLot offset len = true → s.lot lot = 0 ∨ s.lot lot = 1 → s.sound a len = true →
      exec (.hostWindowRead offset len) s = .next { s with hq := { s.hq with
        readValue := (List.range len).map (fun i => Table.get 0 s.mem (a + i)) } })

/-- LOT_GRANT is all or nothing, and LOT_RELEASE returns every DEVICE or LOCKED lot not in use. -/
def Obligations.LotCommandsMoveRuns : Prop :=
  ∀ (s : State) (p : Packet), s.takes p = true → unusedZero p.params [(0, 2), (2, 2)] = true →
    let first := param p.params 0 2
    let n := if param p.params 2 2 = 0 then 65536 else param p.params 2 2
    let inRun := fun (l : Nat) => decide (first ≤ l) && decide (l < first + n)
    first + n ≤ 65536 →
    ((∀ l, inRun l = true → s.lot l = 1) →
      ∃ u : State, exec (.lotGrant p) s = .next (u.reply p.queue.toNat (s.ctxFor p 0x0801 []) { r0 := BitVec.ofNat 32 n })
        ∧ u = { s.taken p 0x0801 [] with hq := { (s.taken p 0x0801 []).hq with lots := u.hq.lots } }
        ∧ (∀ l, u.lot l = if inRun l then 2 else s.lot l)) ∧
    ((∃ l, inRun l = true ∧ s.lot l ≠ 1) →
      exec (.lotGrant p) s = .next (s.replied p 0x0801 [] fun t => (t, { status := 0x000A }))) ∧
    (∃ u : State, exec (.lotRelease p) s = .next (u.reply p.queue.toNat (s.ctxFor p 0x0802 [])
          { r0 := BitVec.ofNat 32 ((lotRun first n).filter (fun l => (s.lot l == 2 || s.lot l == 3) && !(s.taken p 0x0802 []).lotInUse l)).length })
        ∧ (let moved := fun (l : Nat) => inRun l && (s.lot l == 2 || s.lot l == 3) && !(s.taken p 0x0802 []).lotInUse l
          (∀ l, u.lot l = if moved l then 1 else s.lot l)
          ∧ u.hq.pool0 = s.hq.pool0.filter (fun l => !moved l) ∧ u.hq.pool1 = s.hq.pool1.filter (fun l => !moved l)
          ∧ u = { s.taken p 0x0802 [] with hq := { (s.taken p 0x0802 []).hq with lots := u.hq.lots, pool0 := u.hq.pool0, pool1 := u.hq.pool1 } }))

/-- A Function Level Reset, a link loss and PERST_N disable the queues and return the lots in use; vectors are sent or held pending. -/
def Obligations.LinkResetsAndVectors : Prop :=
  ∀ s : State,
    (∃ t, exec .functionLevelReset s = .next t ∧ t = { s with hq := { s.hq with queues := t.hq.queues, lots := t.hq.lots, msix := [] } }
      ∧ (∀ q, q < 16 → t.queue q = { s.queue q with enable := false, active := (s.queue q).busy.isSome, discard := (s.queue q).busy.isSome })
      ∧ (∀ l, t.lot l = if s.lot l = 2 ∧ s.lotInUse l = true then 1 else s.lot l)
      ∧ exec .pcieLinkLoss s = .next { t with hq := { t.hq with linkUp := false } }
      ∧ exec .perstN s = .next { t with hq := { t.hq with linkUp := false } }) ∧
    (s.pwr.inReset = false → s.pwr.dormant = false → exec .pcieLinkTrained s = .next { s with hq := { s.hq with linkUp := true } }) ∧
    (∀ v : Nat,
      ((Table.get {} s.hq.msix v).masked = false → s.hq.linkUp = true →
        s.vector v = { s with hq := { s.hq with sent := Table.put 0 s.hq.sent v (Table.get 0 s.hq.sent v + 1) } }) ∧
      ((Table.get {} s.hq.msix v).masked = true ∨ s.hq.linkUp = false →
        s.vector v = { s with hq := { s.hq with pba := bitSet s.hq.pba v true } }))

/-- TIME_STEP and TIME_RATE act on a FREE time base other than TB2 and are otherwise rejected. -/
def Obligations.HostTimeCommandsActOnFreeBasesOnly : Prop :=
  ∀ (s : State) (p : Packet), s.takes p = true → s.replicates = false → s.refusesReplicated = false →
    let n := param p.params 0 1
    n < 4 →
    let old := s.timeBase n
    let stamp := fun (u : State) (st : W16) => ({ status := st, r0 := (u.timeBase n).ns.setWidth 32, r1 := (u.timeBase n).ns.extractLsb' 32 32 } : Answer)
    (unusedZero p.params [(0, 1), (8, 8)] = true →
      let d := BitVec.ofNat 64 (param p.params 8 8)
      let at_ := s.taken p 0x0501 []
      (n ≠ 2 → old.mode = .free →
        ∃ u : State, exec (.timeStep p) s = .next (u.reply p.queue.toNat (s.ctxFor p 0x0501 []) (stamp u 0))
          ∧ u = { at_ with tb := u.tb }
          ∧ u.timeBase n = { old with ns := old.ns + d, step := d, steps := inc old.steps, hostSteps := inc old.hostSteps }
          ∧ (∀ m, m < 3 → m ≠ n → u.timeBase m = s.timeBase m)) ∧
      (n = 2 ∨ old.mode ≠ .free →
        exec (.timeStep p) s = .next (at_.reply p.queue.toNat (s.ctxFor p 0x0501 []) (stamp at_ 0x0004)))) ∧
    (unusedZero p.params [(0, 1), (4, 4)] = true →
      let r := (BitVec.ofNat 32 (param p.params 4 4) : W32).toInt
      let at_ := s.taken p 0x0502 []
      (n ≠ 2 → old.mode = .free →
        ∃ u : State, exec (.timeRate p) s = .next (u.reply p.queue.toNat (s.ctxFor p 0x0502 []) (stamp u 0))
          ∧ u = { at_ with tb := u.tb }
          ∧ u.timeBase n = { old with rate := BitVec.ofInt 32 (max (-858993) (min 858993 r)), clamped := old.clamped || decide (r < -858993) || decide (858993 < r) }
          ∧ (∀ m, m < 4 → m ≠ n → u.timeBase m = s.timeBase m)) ∧
      (n = 2 ∨ old.mode ≠ .free →
        exec (.timeRate p) s = .next (at_.reply p.queue.toNat (s.ctxFor p 0x0502 []) (stamp at_ 0x0004))))

/-- TIME_TB3_MODE slaves TB3 by one step to the source plus the offset, and a step or state change of the source carries over. -/
def Obligations.ApplicationTimeFollowsItsSource : Prop :=
  (∀ (s : State) (p : Packet), s.takes p = true → unusedZero p.params [(0, 1), (8, 8)] = true → param p.params 0 1 < 3 →
    let n := param p.params 0 1
    let off := BitVec.ofNat 64 (param p.params 8 8)
    let src := s.timeBase (n - 1)
    ∃ u : State, exec (.timeTb3Mode p) s = .next (u.reply p.queue.toNat (s.ctxFor p 0x0503 [])
        { r0 := u.tb.tb3.ns.setWidth 32, r1 := u.tb.tb3.ns.extractLsb' 32 32 })
      ∧ u = { s.taken p 0x0503 [] with tb := u.tb }
      ∧ u.tb.source.toNat = n ∧ u.tb.srcOffset = off ∧ u.tb.tb0 = s.tb.tb0 ∧ u.tb.tb1 = s.tb.tb1 ∧ u.tb.tb2 = s.tb.tb2
      ∧ (n = 0 → u.tb.tb3 = { s.tb.tb3 with mode := .free })
      ∧ (n ≠ 0 → u.tb.tb3.ns = src.ns + off ∧ u.tb.tb3.frac = src.frac ∧ u.tb.tb3.rate = src.rate ∧ u.tb.tb3.mode = src.mode
          ∧ u.tb.tb3.steps = inc s.tb.tb3.steps ∧ u.tb.tb3.hostSteps = s.tb.tb3.hostSteps)) ∧
  (∀ (s : State) (n : Nat) (d : W64) (h : Bool), n < 2 → s.tb.source.toNat = n + 1 →
    (s.stepTb n d h).tb.tb3.ns = s.tb.tb3.ns + d ∧ (s.stepTb n d h).tb.tb3.mode = s.tb.tb3.mode) ∧
  (∀ (s : State) (n : Nat) (m : TbMode), n < 2 → s.tb.source.toNat = n + 1 → (s.setMode n m).tb.tb3 = { s.tb.tb3 with mode := m })

/-- A read of a low half latches its high half for the requester that reads it, and TB_SNAP.go takes four time bases at once. -/
def Obligations.LatchingReadsKeepSnapshotsPerRequester : Prop :=
  ∀ (s : State) (b : Requester),
    let latched := fun (t : State) (k : Nat) (low high : W32) =>
      t = { s with tb := { s.tb with latches := t.tb.latches }, hq := { s.hq with readValue := leBytes 4 low.toNat } }
        ∧ t.latched b k = high ∧ (∀ j, j ≠ 4096 * requesterKey b + k → Table.get 0 t.tb.latches j = Table.get 0 s.tb.latches j)
    (∃ t, exec (.tbSnapGo b) s = .next t ∧ t = { s with tb := { s.tb with snapAll := t.tb.snapAll } }
      ∧ ∀ n, n < 4 → Table.get {} t.tb.snapAll n = { ns := (s.timeBase n).ns, frac := (s.timeBase n).frac }) ∧
    (∀ n : BitVec 2, ∃ t, exec (.tbNsLoRead b n) s = .next t
      ∧ t = { s with tb := { s.tb with snaps := t.tb.snaps }, hq := { s.hq with readValue := leBytes 4 ((s.timeBase n.toNat).ns.setWidth 32).toNat } }
      ∧ t.readBase b n.toNat 0x04 = (s.timeBase n.toNat).ns.extractLsb' 32 32 ∧ t.readBase b n.toNat 0x08 = (s.timeBase n.toNat).frac
      ∧ t.readBase b n.toNat 0x0C = BitVec.ofNat 32 ((s.timeBase n.toNat).ns.toNat / 1000000000)
      ∧ (∀ (c : Requester) (m : Nat), requesterKey c ≠ requesterKey b → m < 4 → t.snapOf c m = s.snapOf c m)) ∧
    (∃ t, exec (.tb0SpanLoRead b) s = .next t ∧ latched t 0 (s.span.setWidth 32) (s.span.extractLsb' 32 32)) ∧
    (∀ a : BitVec 4, a.toNat < 9 → ∃ t, exec (.leArmPtimeLoRead b a) s = .next t
      ∧ latched t (16 + a.toNat) ((s.armSet a.toNat).ptime.setWidth 32) ((s.armSet a.toNat).ptime.extractLsb' 32 32)) ∧
    (∀ n : BitVec 3, ∃ t, exec (.fbPosLoRead b n) s = .next t
      ∧ latched t (32 + n.toNat) ((s.axm n.toNat).fb.count.setWidth 32) (((s.axm n.toNat).fb.count.extractLsb' 32 16).setWidth 32)) ∧
    (∃ t, exec (.dioInLoRead b) s = .next t ∧ latched t 1 (s.dio.inputs.setWidth 32) ((s.dio.inputs.extractLsb' 32 16).setWidth 32)) ∧
    (∀ n : BitVec 4, n.toNat < 12 → ∃ t, exec (.vcStepsLoRead b n) s = .next t
      ∧ latched t (48 + n.toNat) ((s.core n.toNat).steps.setWidth 32) ((s.core n.toNat).steps.extractLsb' 32 32))

/-- The second bad REFCLK window in a row declares a fault: STO, every time base but TB2 FREE; 1 s of good windows ends it. -/
def Obligations.ReferenceClockFaultFreesTheTimeBases : Prop :=
  ∀ (s : State) (c : W16),
    let since := s.tb.refGoodSince.getD s.tb.tb2.ns
    let good := 25580 ≤ c.toNat ∧ c.toNat ≤ 25620
    let bad := c.toNat < 25570 ∨ 25630 < c.toNat
    (good → s.tb.refFault = false →
      exec (.refclkWindow c) s = .next { s with tb := { s.tb with refCount := c, refBad := 0, refGoodSince := some since } }) ∧
    (bad → s.tb.refFault = false → s.tb.refBad = 0 →
      exec (.refclkWindow c) s = .next { s with tb := { s.tb with refCount := c, refBad := 1, refGoodSince := none } }) ∧
    (bad → s.tb.refFault = false → s.tb.refBad = 1 → s.pwr.inReset = false → s.pwr.dormant = false → s.cfg.classOf 0x0201 = 4 →
      ∃ t, exec (.refclkWindow c) s = .next t ∧ t.tb.refFault = true ∧ t.par.log = s.par.log ++ [ParEntry.refclk s.tb.tb2.ns]
        ∧ t.tb.tb0.mode = .free ∧ t.tb.tb1.mode = .free ∧ t.tb.tb3.mode = .free ∧ t.tb.tb2 = s.tb.tb2
        ∧ (∃ r : Record, t.evt.queue = s.evt.queue ++ [r] ∧ r.code = 0x0201 ∧ r.tb2 = s.tb.tb2.ns)
        ∧ t.dev.cell = (if s.dev.cell = .uncatalogued ∨ s.dev.cell = .loaded then s.dev.cell else .fault)
        ∧ t.mem = s.mem ∧ t.cfg = s.cfg) ∧
    (good → s.tb.refFault = true →
      let seen := { s.tb with refCount := c, refBad := 0, refGoodSince := some since }
      ((s.tb.tb2.ns - since).toNat < 1000000000 → exec (.refclkWindow c) s = .next { s with tb := seen }) ∧
      (1000000000 ≤ (s.tb.tb2.ns - since).toNat →
        (s.tb.grandmaster = none → exec (.refclkWindow c) s = .next { s with tb := { seen with refFault := false } }) ∧
        (s.tb.grandmaster ≠ none → ∃ t, exec (.refclkWindow c) s = .next t ∧ t.tb.refFault = false
          ∧ t.tb.tb1 = { s.tb.tb1 with mode := .acquiring } ∧ t.tb.tb0 = s.tb.tb0 ∧ t.tb.tb2 = s.tb.tb2 ∧ t.dev = s.dev ∧ t.mem = s.mem)))

/-- The PTP engine takes accepted frames, TB1 acquires, takes one exact step and holds over without Sync; masters and slaves send their messages. -/
def Obligations.PtpAcquiresStepsAndHoldsPlantTime : Prop :=
  ∀ (s : State) (port : Bool) (place : Nat),
    let n := if port then 1 else 0
    let value := fun (t : State) => (t.tb.tb1.ns.toNat * 2 ^ 32 + t.tb.tb1.frac.toNat : Int)
    let heard := fun (m : Octets) => (s.plantCfg n).ptpTakes m = true
    let mine := fun (m : Octets) => sliceO m 20 10 = s.tb.parent
    let offset := fun (m : Octets) (at_ corr : Int) => at_ - ptpTime m 34 - corr - (s.plant n).ptp.delay
    let locks := fun (t : State) (off : Int) =>
      value t = (value s - off * 65536) % 2 ^ 96 ∧ t.tb.tb1.mode = .locked ∧ t.tb.tb1.steps = inc s.tb.tb1.steps ∧ t.tb.tb1.rate = s.tb.tb1.rate
        ∧ (t.plant n).portState = 9 ∧ t.tb.tb0 = s.tb.tb0 ∧ t.tb.tb2 = s.tb.tb2
    ((s.plant n).ptpIn.length ≤ place → exec (.ptpFrameReceived port place) s = .next s) ∧
    (∀ (o : Octets) (rx : FrameStamps), (s.plant n).ptpIn[place]? = some (o, rx) →
      let rest := (s.plant n).ptpIn.eraseIdx place
      let m := ptpBody o
      let at_ : Int := eventPoint (rx.tb1.arrived (s.alignment (24 + n)))
      (s.plantOn n = false → exec (.ptpFrameReceived port place) s = .next (s.setPlant n { s.plant n with ptpIn := rest })) ∧
      (s.plantOn n = true →
        (∃ t, exec (.ptpFrameReceived port place) s = .next t ∧ (t.plant n).ptpIn = rest ∧ t.tb.tb0 = s.tb.tb0 ∧ t.tb.tb2 = s.tb.tb2 ∧ t.mem = s.mem) ∧
        (s.tb.refFault = false → heard m → ptpType m = 0xB → sliceO m 20 8 ≠ s.clockId → s.masterAble 0 = false → s.masterAble 1 = false →
          (s.plant (1 - n)).ptp.announce = none → s.tb.grandmaster ≠ some (masterOf m).grandmaster →
          ∃ t, exec (.ptpFrameReceived port place) s = .next t ∧ t.tb.grandmaster = some (BitVec.ofNat 64 (beField m 53 8)) ∧ t.tb.parent = sliceO m 20 10
            ∧ t.tb.tb1 = { s.tb.tb1 with mode := .acquiring } ∧ (t.plant n).portState = 8 ∧ t.tb.tb0 = s.tb.tb0 ∧ t.tb.tb2 = s.tb.tb2) ∧
        (s.tb.refFault = false → heard m → ptpType m = 0x0 → s.follows n = true → mine m → s.tb.tb1.mode = .acquiring →
          ((u8 m 6).getLsbD 1 = false → (s.plantCfg n).profileAs = false →
            ∃ t, exec (.ptpFrameReceived port place) s = .next t ∧ locks t (offset m at_ (ptpCorrection m))) ∧
          ((u8 m 6).getLsbD 1 = true → ∀ (o2 : Octets) (rx2 : FrameStamps) (then_ : Nat), rest[then_]? = some (o2, rx2) →
            heard (ptpBody o2) → ptpType (ptpBody o2) = 0x8 → mine (ptpBody o2) → ptpSeq (ptpBody o2) = ptpSeq m →
            ∃ t u, exec (.ptpFrameReceived port place) s = .next t ∧ t.tb.tb1 = s.tb.tb1 ∧ exec (.ptpFrameReceived port then_) t = .next u
              ∧ locks u (offset (ptpBody o2) at_ (ptpCorrection m + ptpCorrection (ptpBody o2))))))) ∧
    (s.tb.grandmaster = none → exec .syncLossTimeout s = .next s) ∧
    (s.tb.grandmaster ≠ none → (s.tb.tb2.ns - s.tb.lastSync).toNat < s.cfg.syncLossMs * 1000000 → exec .syncLossTimeout s = .next s) ∧
    (s.tb.grandmaster ≠ none → s.cfg.syncLossMs * 1000000 ≤ (s.tb.tb2.ns - s.tb.lastSync).toNat →
      s.tb.tb1.mode = .locked ∨ s.tb.tb1.mode = .acquiring → s.tb.refFault = false →
      ∃ t, exec .syncLossTimeout s = .next t ∧ t.tb.tb1 = { s.tb.tb1 with mode := .holdover } ∧ t.tb.grandmaster = none
        ∧ (∀ k, k < 2 → s.follows k = true → (t.plant k).portState = 4) ∧ t.tb.tb0 = s.tb.tb0 ∧ t.tb.tb2 = s.tb.tb2) ∧
    (s.plantOn n = false → exec (.ptpMessageInterval port) s = .next s) ∧
    (s.plantOn n = true →
      let sent := fun (master : Bool) =>
        let u := if master then (s.ptpEmit n 0xB 0x0008 s.announceBody).ptpEmit n 0x0 0x0200 (List.replicate 10 0) else s
        if (s.plantCfg n).profileAs then u.ptpEmit n 0x2 0 (List.replicate 20 0)
        else if s.follows n then u.ptpEmit n 0x1 0 (List.replicate 10 0) else u
      ((s.plant n).portState = 6 → exec (.ptpMessageInterval port) s = .next (sent true)) ∧
      ((s.plant n).portState ≠ 6 → (s.plantCfg n).masterCapable = false ∨ s.follows 0 = true ∨ s.follows 1 = true →
        exec (.ptpMessageInterval port) s = .next (sent false))) ∧
    (∀ (type flags : Nat) (body : Octets), type < 16 →
      let q := Table.get 0 (s.plant n).ptp.seqs type
      let f := s.ptpFrame n type flags 0 q body
      ptpType (ptpBody f) = type ∧ ptpSeq (ptpBody f) = q ∧ beField f 12 2 = 0x8100 ∧ beField f 16 2 = 0x88F7
        ∧ beField f 14 2 = (s.plantCfg n).pcpPtp.toNat * 8192 + (s.plantCfg n).vid.toNat
        ∧ ∃ v : PtpPort, s.ptpEmit n type flags body
          = s.setPlant n ({ s.plant n with ptp := v, ptpQueue := (s.plant n).ptpQueue ++ [f] } : PlantPort).start)

/-- Raw and safety-layer frames wait behind PTP, start when the wire is idle, and a raw frame's reply carries its stamps. -/
def Obligations.PlantPortsSendFrames : Prop :=
  (∀ (s : State) (p : Packet), s.takes p = true → unusedZero p.params [(0, 1), (1, 1), (2, 1), (4, 2), (6, 2)] = true →
    let n := param p.params 0 1
    let lot := param p.params 4 2
    let len := param p.params 6 2
    let own := param p.params 1 1
    n < 2 → own < 2 → param p.params 2 1 < 8 → 60 ≤ len → len ≤ 1514 → s.lot lot = 2 → s.plantOn n = true →
    let pcp := if own = 1 then BitVec.ofNat 3 (param p.params 2 1) else (s.plantCfg n).pcpRaw
    let a := 0x00F0000000 + 4096 * lot
    ((s.plant n).rawQueue.length < 16 → s.sound a len = true →
      exec (.frameSend p) s = .next ((s.taken p 0x0903 [lot]).setPlant n ({ s.plant n with
        rawQueue := (s.plant n).rawQueue ++ [{ queue := p.queue, octets := tagged pcp (s.plantCfg n).vid (s.octets a len) }] } : PlantPort).start)) ∧
    (16 ≤ (s.plant n).rawQueue.length →
      exec (.frameSend p) s = .next (s.replied p 0x0903 [lot] fun t =>
        (t.setPlant n { s.plant n with txDrop := inc (s.plant n).txDrop }, { status := 0x000C })))) ∧
  (∀ (s : State) (port : Bool) (dest : BitVec 8) (mac : BitVec 48) (conns : List (BitVec 8)),
    let n := if port then 1 else 0
    let l := ((conns.map (fun b => (b.toNat, s.sentContainer b.toNat))).filter (fun e => !e.2.isEmpty)).take 32
    s.plantOn n = true → (s.plantCfg n).pslDests[dest.toNat]? = some (mac, conns) → l ≠ [] →
    exec (.pslSendPeriod port dest) s = .next (s.setPlant n ({ s.plant n with
      pslQueue := (s.plant n).pslQueue ++ [withFcs (beBytes 6 (addressOf mac) ++ beBytes 6 (addressOf (s.plantCfg n).mac)
        ++ tagOf (s.plantCfg n).pcpPsl (s.plantCfg n).vid ++ beBytes 2 (s.plantCfg n).etype.toNat ++ pslPayload l)] } : PlantPort).start)) ∧
  (∀ (s : State) (port : Bool) (tx : FrameStamps) (f : RawTx) (c : ReplyCtx),
    let n := if port then 1 else 0
    (s.plant n).wire = .raw f → (s.queue f.queue.toNat).busy = some c →
    exec (.frameTransmitted port tx) s
      = .next ((s.setPlant n ({ s.plant n with wire := .idle, txOk := inc (s.plant n).txOk, lastSent := f.octets } : PlantPort).start).reply
          f.queue.toNat c { r0 := (stampNs tx.tb0.sent).setWidth 32, r1 := (stampNs tx.tb0.sent).extractLsb' 32 32, r2 := (stampNs tx.tb1.sent).setWidth 32, r3 := (stampNs tx.tb1.sent).extractLsb' 32 32 })) ∧
  (∀ t : PlantPort, t.wire = .idle → ∀ (a b : Octets) (f : RawTx),
    (t.ptpQueue = [a] → t.start = { t with ptpQueue := [], wire := .ptp a }) ∧
    (t.ptpQueue = [] → t.pslQueue = [b] → t.start = { t with pslQueue := [], wire := .psl b }) ∧
    (t.ptpQueue = [] → t.pslQueue = [] → t.rawQueue = [f] → t.start = { t with rawQueue := [], wire := .raw f }))

/-- A received frame is dropped and counted by its first defect, or a raw frame fills the oldest pool lot and raises vector 20. -/
def Obligations.PlantPortsReceiveFrames : Prop :=
  (∀ (s : State) (port good : Bool) (frame : Octets) (rx : FrameStamps),
    let n := if port then 1 else 0
    let t := s.plant n
    let o := frame.take (frame.length - 4)
    let ty := beField o (etherAt o) 2
    s.plantOn n = true →
    (frame.length < 64 ∨ 1522 < frame.length → exec (.plantFrameReceived port good frame rx) s = .next (s.setPlant n { t with length := inc t.length })) ∧
    (64 ≤ frame.length → frame.length ≤ 1522 →
      (good = false → exec (.plantFrameReceived port good frame rx) s = .next (s.setPlant n { t with fcs := inc t.fcs })) ∧
      (good = true →
        (ty = 0x8808 → exec (.plantFrameReceived port good frame rx) s = .next (s.setPlant n { t with pause := inc t.pause })) ∧
        (ty ≠ 0x8808 → (s.plantCfg n).accepts o = false →
          exec (.plantFrameReceived port good frame rx) s = .next (s.setPlant n { t with filter := inc t.filter })) ∧
        (ty ≠ 0x8808 → (s.plantCfg n).accepts o = true → ty ≠ 0x88F7 → ty ≠ (s.plantCfg n).etype.toNat →
          (s.pool n = [] → exec (.plantFrameReceived port good frame rx) s = .next (s.setPlant n { t with rxOk := inc t.rxOk, nobuf := inc t.nobuf })) ∧
          (∀ (l : Nat) (rest : List Nat), s.pool n = l :: rest → s.sound (0x00F0000000 + 4096 * l) (32 + o.length) = true →
            ∃ u : State, exec (.plantFrameReceived port good frame rx) s = .next (u.vector 20) ∧ u.pool n = rest ∧ u.lot l = 1
              ∧ u.plant n = { t with rxOk := inc t.rxOk } ∧ u.octets (0x00F0000000 + 4096 * l) (32 + o.length) = rawImage n (rx.tb0.arrived (s.alignment (24 + n))) (rx.tb1.arrived (s.alignment (24 + n))) o
              ∧ (∀ x, x < 0x00F0000000 + 4096 * l ∨ 0x00F0000000 + 4096 * l + 32 + o.length ≤ x → Table.get 0 u.mem x = Table.get 0 s.mem x)
              ∧ (∀ j, j ≠ l → u.lot j = s.lot j)))))) ∧
  (∀ (s : State) (p : Packet), s.takes p = true → unusedZero p.params [(0, 1), (2, 2), (4, 2)] = true →
    let n := param p.params 0 1
    let first := param p.params 2 2
    let count := param p.params 4 2
    n < 2 → 1 ≤ count → first + count ≤ 65536 → (∀ l, first ≤ l → l < first + count → s.lot l = 2) →
    ((s.pool n).length + count ≤ 256 →
      ∃ u : State, exec (.frameRxPool p) s = .next (u.reply p.queue.toNat (s.ctxFor p 0x0904 (lotRun first count))
          { r0 := BitVec.ofNat 32 ((s.pool n).length + count) })
        ∧ u.pool n = s.pool n ++ lotRun first count ∧ u.pool (1 - n) = s.pool (1 - n)
        ∧ (∀ l, u.lot l = if first ≤ l ∧ l < first + count then 3 else s.lot l)
        ∧ u = { s.taken p 0x0904 (lotRun first count) with hq := u.hq }) ∧
    (256 < (s.pool n).length + count →
      exec (.frameRxPool p) s = .next (s.replied p 0x0904 (lotRun first count) fun t => (t, { status := 0x000C }))))

/-- Each cell and arm command is accepted in its state for the next span instant, and rejected elsewhere with its status. -/
def Obligations.CellCommandsAreAcceptedInTheirStates : Prop :=
  ∀ (s : State) (p : Packet), s.takes p = true → s.replicates = false → s.refusesReplicated = false →
    s.dev.accepted = [] → s.dev.heldStop = none → s.red.repl = [] →
    let waits := fun (c : Instr) (op : W16) (arg : Byte) =>
      exec c s = .next { s.taken p op [] with dev := { s.dev with accepted := [{ queue := some p.queue, opcode := op, arg := arg }] } }
    let wrong := fun (c : Instr) (op : W16) => exec c s = .next (s.replied p op [] fun t => (t, { status := 0x0004 }))
    let a := param p.params 0 1
    (unusedZero p.params [] = true →
      (s.dev.cell = .loaded → s.hq.service = false → waits (.cellIntegrate p) 0x0201 0) ∧
      (s.dev.cell = .parked → s.hq.service = false → s.stopDemand = false → s.openInput .eStop = false → s.openInput .guard = false
        → s.sectionMatch = true → waits (.cellEngage p) 0x0202 0) ∧
      (s.dev.cell = .hold → (∀ n, n < 12 → (s.core n).halted = false) → waits (.cellRun p) 0x0203 0) ∧
      (s.dev.cell = .run → waits (.cellStop p) 0x0204 0) ∧
      (s.dev.cell = .run ∨ s.dev.cell = .hold → waits (.cellPark p) 0x0205 0) ∧
      (s.dev.cell = .parked → waits (.cellRingsOff p) 0x0206 0) ∧
      (s.dev.cell = .fault → s.causePresent = false → waits (.cellClear p) 0x0207 0) ∧
      (s.dev.cell ≠ .loaded → wrong (.cellIntegrate p) 0x0201) ∧ (s.dev.cell ≠ .parked → wrong (.cellEngage p) 0x0202) ∧
      (s.dev.cell ≠ .hold → wrong (.cellRun p) 0x0203) ∧ (s.dev.cell ≠ .run → wrong (.cellStop p) 0x0204) ∧
      (s.dev.cell ≠ .run → s.dev.cell ≠ .hold → wrong (.cellPark p) 0x0205) ∧
      (s.dev.cell ≠ .parked → wrong (.cellRingsOff p) 0x0206) ∧ (s.dev.cell ≠ .fault → wrong (.cellClear p) 0x0207)) ∧
    (unusedZero p.params [(0, 1)] = true →
      (a < 8 → s.arm a = .halted → s.dev.cell = .hold ∨ s.dev.cell = .run → s.armCause a = false → waits (.armResume p) 0x0208 (BitVec.ofNat 8 a)) ∧
      (a < 14 → (s.ring a).phase = .line → s.dev.cell = .parked → waits (.ringClose p) 0x0209 (BitVec.ofNat 8 a)))

/-- What an accepted cell or arm command does at the span instant. -/
def Obligations.AcceptedCellCommandsTakeEffect : Prop :=
  ∀ (s : State) (op : W16) (arg : Byte),
    let c : CellCmd := { queue := none, opcode := op, arg := arg }
    let a := arg.toNat
    let t := s.runCommand c
    let moved := fun (goal : CellState) => ({ s.dev with
      cell := goal, previous := s.dev.cell, causeKind := 0, causeEvent := 0, causeOpcode := op, transitions := inc s.dev.transitions } : DevState)
    let stops := fun (goal : StopGoal) =>
      t.dev = { moved .stopping with stopGoal := goal, stopEvent := 0, stopOpcode := op, stopSpan := s.wholeSpan }
        ∧ ∀ ch, ch < 72 → (s.chanCfg ch).used = true → (s.chanCfg ch).arm.toNat < 9 → (s.profCfg ch).enabled = true → (t.prof ch).stopDue = true
    let arms := ∀ b, b < 8 → t.arm b = if s.armUsed b then .enabled else .unused
    s.cellVerdict c = 0 →
    (op = 0x0201 → t.dev = moved .integrating ∧ t.tb.tb0.mode = if s.tb.refFault then .free else .acquiring) ∧
    (op = 0x0202 → t.dev = moved .hold ∧ ∀ b, b < 9 → (t.armSet b).engage = true) ∧
    (op = 0x0203 → t.dev = moved .run) ∧
    (op = 0x0204 → stops .hold) ∧
    (op = 0x0205 → s.dev.cell = .run → stops .parked) ∧
    (op = 0x0205 → s.dev.cell = .hold → t.dev = { moved .parked with arms := t.dev.arms } ∧ arms) ∧
    (op = 0x0206 → t.dev = { moved .loaded with arms := t.dev.arms } ∧ arms ∧ t.tb.tb0.mode = .free ∧ ∀ r, r < 14 → (t.ring r).phase = .silent) ∧
    (op = 0x0207 → ∃ u : State, t = u.clearOutputs ∧
      u.dev = { moved (if s.allRingsRun then .parked else .loaded) with arms := u.dev.arms } ∧ ∀ b, b < 8 → u.arm b = if s.armUsed b then .enabled else .unused) ∧
    (op = 0x0208 → t.arm a = .enabled ∧ (t.armSet a).engage = true ∧ ∀ b, b ≠ a → t.arm b = s.arm b) ∧
    (op = 0x0209 → (t.ring a).start = .listening ∧ (t.ring a).phase = .silent ∧ t.dev = s.dev)

/-- A raised event is recorded with its acting class and reacts by it: arm stop, cell stop or FAULT, held back in UNCATALOGUED and LOADED. -/
def Obligations.ReactionsFollowTheirClass : Prop :=
  ∀ (s : State) (e : Ev) (cls : BitVec 3), s.cfg.pair.pair = false → e.cls = some cls →
    let t := s.raise e
    let acting : BitVec 3 := if cls = 2 ∧ (∀ a, e.arm = some a → 8 ≤ a) then 3 else cls
    (cls = 0 → t = s) ∧
    (cls ≠ 0 → ∃ r : Record, t.evt.queue = s.evt.queue ++ [r] ∧ r.code = e.code ∧ r.data = e.data ∧ r.source = e.source ∧ r.cause = e.cause
      ∧ r.flags.toNat % 8 = acting.toNat
      ∧ r.flags.getLsbD 6 = (decide (s.dev.cell = .uncatalogued ∨ s.dev.cell = .loaded) && decide (2 ≤ acting.toNat))) ∧
    (cls ≠ 0 → s.dev.cell = .uncatalogued ∨ s.dev.cell = .loaded ∨ cls = 1 → t = { s with evt := { s.evt with queue := t.evt.queue } }) ∧
    (s.dev.cell ≠ .uncatalogued → s.dev.cell ≠ .loaded →
      (acting = 2 → ∀ a, e.arm = some a → s.arm a = .enabled → s.dev.cell = .hold ∨ s.dev.cell = .run ∨ s.dev.cell = .stopping →
        t.arm a = .stopping ∧ t.dev.cell = s.dev.cell ∧ t.evt.reactions = inc s.evt.reactions) ∧
      (acting = 3 → s.dev.cell = .run ∨ s.dev.cell = .hold → t.dev.cell = .stopping ∧ t.dev.stopGoal = .fault ∧ t.dev.stopEvent = e.code
        ∧ t.evt.reactions = inc s.evt.reactions) ∧
      (acting = 4 → t.dev.cell = .fault ∧ (s.dev.cell ≠ .fault → t.dev.previous = s.dev.cell ∧ t.dev.causeEvent = e.code
        ∧ t.evt.reactions = inc s.evt.reactions)))

/-- The span instant completes: it opens the span with its compares; with the core die down only the other devices act; pace and slack are published. -/
def Obligations.SpanInstantOpensTheSpan : Prop :=
  (∀ (s : State) (pace : Paces) (volts : List (BitVec 16)), s.coreUp = true →
    ∃ t, exec (.spanInstant pace volts) s = .next t ∧ t.le.ran = false ∧ t.ax.cutoff = false ∧
      let waits := fun (off : Nat) (what : CompareKind) =>
        ({ tb := 0, instant := BitVec.ofNat 64 (t.spanStart + off), what := what } : Compare) ∈ t.tb.compares ++ t.tb.fired
      (t.cfg.deadlineLe ≠ 0 → waits t.cfg.deadlineLe.toNat .deadlineLe) ∧
      (t.dev.deadlineVc ≠ 0 → waits t.dev.deadlineVc.toNat .deadlineVc) ∧
      (t.cfg.safety.wdnDeadline ≠ 0 → waits t.cfg.safety.wdnDeadline.toNat .wardenDeadline) ∧
      (∀ e ∈ t.cfg.rows, e.2.enabled = true → e.2.trigger = spanTrigger → t.rowInPhase e.2 = true →
        waits e.2.offsetNs.toNat (.template (BitVec.ofNat 6 e.1))) ∧
      waits 4000 .inPublish ∧ waits (t.spanNs - 2000) .outputFreeze ∧
      (t.cfg.pair.pair = true → waits 2000 .heartbeat) ∧
      (∀ r, r < 14 → t.leads r = true → 1000 ≤ (t.ring r).depart.toNat →
        let n := BitVec.ofNat 4 r
        waits (8 * t.cfg.gatherOffset.toNat) (.gatherDeparture n) ∧
        waits ((t.cfg.gatherOffset.toNat * 2048 + (t.ring r).glap.toNat + t.cfg.returnGuard.toNat * 16000 + 255) / 256) (.gatherCutoff n) ∧
        waits ((t.ring r).depart.toNat - 1000) (.deliverCutoff n) ∧ waits (t.ring r).depart.toNat (.deliverDeparture n))) ∧
  (∀ (s : State) (pace : Paces), s.coreUp = false →
    exec (.spanInstant pace []) s = .next ((s.lr.nodes.map (fun e => e.1)).foldl (fun u k => u.nodeInstant (k / 32) (k % 32)) s)) ∧
  (∀ (e : EngineClass) (pace floor : BitVec 24),
    (e.paced pace floor).1.pace = pace ∧ (e.paced pace floor).1.low = decide (pace.toNat < floor.toNat)
    ∧ (e.paced pace floor).1.paceLow = (if pace.toNat < floor.toNat then inc e.paceLow else e.paceLow)
    ∧ (e.paced pace floor).2 = (decide (pace.toNat < floor.toNat) && !e.low)) ∧
  (∀ (e : EngineClass) (now : Nat),
    let fell := (e.dones.filter (fun x => decide (x.1 < now))).map (fun x => x.2)
    let rest := e.dones.filter (fun x => decide (now ≤ x.1))
    (fell = [] → e.published now = { e with slack := 0x80000000, dones := rest }) ∧
    (∀ l ∈ fell, (∀ m ∈ fell, l ≤ m) → e.published now = { e with
      slack := bvS 32 l, slackMin := if l < e.slackMin.toInt then bvS 32 l else e.slackMin, dones := rest }))

/-- Listening, claims and back-off: the higher claim originates and wins, an equal foreign claim clashes. -/
def Obligations.ClaimsElectTheKeystone : Prop :=
  ∀ (s : State) (r : BitVec 4),
    let n := r.toNat
    let g := s.ring n
    let mine := s.ringClaim n
    (g.start = .listening → mine ≠ 0 → ∃ t, exec (.listenTimeout r) s = .next t ∧ t = { s with lr := t.lr }
      ∧ (t.ring n).start = .originating ∧ (t.ring n).phase = .cold ∧ deckType (t.ring n).gather = 1 ∧ (t.ring n).sentAt = s.stamp) ∧
    (g.start ≠ .listening ∨ mine = 0 → exec (.listenTimeout r) s = .next s) ∧
    (g.start = .node → ∃ t, exec (.deckSilenceTimeout r) s = .next t ∧ t = { s with lr := t.lr } ∧ (t.ring n).start = .listening ∧ (t.ring n).phase = .silent) ∧
    (g.start ≠ .node → exec (.deckSilenceTimeout r) s = .next s) ∧
    (g.start = .backoff → ∃ t, exec (.claimBackoffExpiry r) s = .next t ∧ t = { s with lr := t.lr } ∧ (t.ring n).start = .listening ∧ (t.ring n).phase = .silent) ∧
    (g.start ≠ .backoff → exec (.claimBackoffExpiry r) s = .next s) ∧
    (∀ d : Octets, s.portEnabled (westPort n) = false → exec (.coldDeckReceived r d) s = .next s) ∧
    (∀ d : Octets, s.portEnabled (westPort n) = true → deckType d = 1 → judgeDeck d = .good → s.cfg.classOf 0x0602 = 1 →
      let c := u8 (deckBody d) 6
      let own := u32 (deckBody d) 20 = s.dev.serialLo
      ∃ t, exec (.coldDeckReceived r d) s = .next t ∧
        (g.start = .listening ∨ g.start = .originating → mine.toNat < c.toNat → (t.ring n).start = .node ∧ (t.ring n).keystoneClaim = c) ∧
        (g.start = .listening → c.toNat < mine.toNat → (t.ring n).start = .originating) ∧
        (g.start = .listening → c = mine → c ≠ 0 → ¬ own → g.clashed = false →
          (t.ring n).start = .backoff ∧ (t.ring n).clashed = true ∧ ∃ x : Record, t.evt.queue = s.evt.queue ++ [x] ∧ x.code = 0x0602) ∧
        (g.start = .originating → c.toNat < mine.toNat → t.ring n = g) ∧
        (g.start = .originating → c = mine → own → (t.ring n).start = .keystone ∧ (t.ring n).coldLeft = 16 ∧ (t.ring n).keystoneClaim = mine) ∧
        (g.start = .originating → c = mine → ¬ own → (t.ring n).start = .backoff ∧ (t.ring n).clashed = true))

/-- COLD decks count the nodes, INTEGRATE decks pass their phases, and a ring whose laps fit starts its cycle. -/
def Obligations.ColdStartLeadsToTheCycle : Prop :=
  ∀ (s : State) (r : BitVec 4),
    let n := r.toNat
    let g := s.ring n
    let cold := g.start = .keystone ∧ g.phase = .cold
    let agreed := g.coldLeft = 0 ∧ s.counted n = true ∧ g.mismatch = false
    let sent := fun (t : State) (left : Byte) => t = { s with lr := t.lr } ∧ deckType (t.ring n).gather = 1
      ∧ u8 (deckBody (t.ring n).gather) 18 = left ∧ (t.ring n).sentAt = s.stamp ∧ (t.ring n).start = g.start
    (g.start = .originating → ∃ t, exec (.coldDeckDeparture r) s = .next t ∧ sent t 0) ∧
    (cold → g.coldLeft ≠ 0 → ∃ t, exec (.coldDeckDeparture r) s = .next t ∧ sent t g.coldLeft ∧ (t.ring n).coldLeft = g.coldLeft - 1) ∧
    (cold → g.coldLeft = 0 → ¬ agreed → ∃ t, exec (.coldDeckDeparture r) s = .next t ∧ sent t 16 ∧ (t.ring n).coldLeft = 15) ∧
    (g.start ≠ .originating → ¬ cold ∨ agreed → exec (.coldDeckDeparture r) s = .next s) ∧
    (∀ (d : Octets) (lap : W32), s.portEnabled (westPort n) = true → judgeDeck d = .good → deckType d = 1 → u32 (deckBody d) 20 = s.dev.serialLo →
      u8 (deckBody d) 6 = s.ringClaim n →
      let hops := u8 (deckBody d) 16
      (g.start = .originating → ∃ t, exec (.coldDeckReturn r d false lap) s = .next t ∧ (t.ring n).start = .keystone ∧ (t.ring n).phase = .cold
        ∧ (t.ring n).coldLeft = 16 ∧ t.tb = s.tb ∧ t.mem = s.mem) ∧
      (cold → s.cfg.classOf 0x0604 = 1 → s.cfg.classOf 0x0603 = 4 →
        ∃ t, exec (.coldDeckReturn r d false lap) s = .next t ∧ (t.ring n).hops = some hops ∧ (t.ring n).coldLap = lap
          ∧ (16 < hops.toNat → (t.ring n).start = .idle ∧ (t.ring n).phase = .silent)
          ∧ (hops.toNat ≤ 16 → (t.ring n).start = .keystone ∧ (t.ring n).phase = .cold
              ∧ (t.ring n).mismatch = (g.mismatch || (decide (u8 (deckBody d) 18 = 1) && decide (hops.toNat ≠ (s.ringCfg n).nodes.length)))))) ∧
    (cold → agreed →
      ∃ t, exec (.integrateDeckDeparture r) s = .next t ∧ (t.ring n).phase = .integrate ∧ (t.ring n).phaseNo = 0 ∧ (t.ring n).phaseSpan = 1
        ∧ deckType (t.ring n).gather = 2 ∧ (t.ring n).sentAt = s.stamp ∧ t = { s with lr := t.lr }) ∧
    (g.start = .keystone → g.phase = .integrate → g.phaseSpan.toNat < 64 →
      ∃ t, exec (.integrateDeckDeparture r) s = .next t ∧ (t.ring n).phase = .integrate ∧ (t.ring n).phaseSpan = g.phaseSpan + 1
        ∧ deckType (t.ring n).gather = 2
        ∧ (g.phaseNo = 2 → s.tb.tb0.mode = .acquiring → s.tb.refFault = false → t.tb.tb0.mode = .locked ∧ t.tb.tb0.ns = s.tb.tb0.ns
            ∧ t.tb.tb0.frac = s.tb.tb0.frac ∧ t.tb.tb0.step = 0 ∧ t.tb.tb0.steps = inc s.tb.tb0.steps)
        ∧ (g.phaseNo ≠ 2 ∨ s.tb.tb0.mode ≠ .acquiring → t = { s with lr := t.lr })) ∧
    (g.start = .keystone → g.phase = .integrate → 64 ≤ g.phaseSpan.toNat → s.cfg.classOf 0x0605 = 1 →
      ∃ t, exec (.integrateDeckDeparture r) s = .next t ∧ (t.ring n).phase = .cold ∧ (t.ring n).coldLeft = 16
        ∧ ∃ x : Record, t.evt.queue = s.evt.queue ++ [x] ∧ x.code = 0x0605) ∧
    (g.start ≠ .keystone → exec (.integrateDeckDeparture r) s = .next s) ∧
    (∀ (d : Octets) (lap : W32), s.portEnabled (westPort n) = true → g.start = .keystone → g.phase = .integrate → judgeDeck d = .good → deckType d = 2 →
      (u8 (deckBody d) 7).toNat = n → u8 (deckBody d) 34 = g.phaseNo →
      let w := g.ready ||| u16 (deckBody d) 36
      let least := if g.phaseNo = 1 then 16 else 8
      (s.allReady n w = false ∨ g.phaseSpan.toNat < least → g.phaseSpan.toNat < 64 →
        ∃ t, exec (.integrateDeckReturn r d ⟨false, lap⟩) s = .next t ∧ t = { s with lr := t.lr } ∧ t.ring n = { g with ready := w }) ∧
      (s.allReady n w = true → least ≤ g.phaseSpan.toNat →
        ∃ t, exec (.integrateDeckReturn r d ⟨false, lap⟩) s = .next t ∧
          (g.phaseNo ≠ 2 → t = { s with lr := t.lr } ∧ t.ring n = { g with phaseNo := g.phaseNo + 1, phaseSpan := 0, ready := 0 }) ∧
          (let glap := lapOf lap ((s.ringCfg n).deckLen true)
            let dlap := lapOf lap ((s.ringCfg n).deckLen false)
            g.phaseNo = 2 → g.lineStart = false → ∀ x : Nat, s.departure dlap = some x →
              (1000 + s.ringDeadline n ≤ x → glap ≤ (s.ringCfg n).glapBound.toNat → (t.ring n).phase = .running ∧ (t.ring n).start = .keystone
                ∧ (t.ring n).glap = BitVec.ofNat 32 glap ∧ (t.ring n).dlap = BitVec.ofNat 32 dlap ∧ (t.ring n).depart = BitVec.ofNat 20 x) ∧
              (x < 1000 + s.ringDeadline n ∨ (s.ringCfg n).glapBound.toNat < glap → (t.ring n).phase = .silent ∧ (t.ring n).start = .idle)))) ∧
    (s.dev.cell = .integrating → s.cfg.classOf 0x0601 = 4 →
      ∃ t, exec .integrationTimeout s = .next t ∧ t.dev.cell = .fault ∧ t.dev.previous = .integrating ∧ t.dev.causeEvent = 0x0601 ∧ t.mem = s.mem) ∧
    (s.dev.cell ≠ .integrating → exec .integrationTimeout s = .next s)

/-- The gather deck departs at its instant, outputs and stop word freeze at the cut-off, and the frozen deliver deck departs at its own. -/
def Obligations.CycleDecksDepartFrozen : Prop :=
  ∀ (s : State) (r : BitVec 4),
    let n := r.toNat
    let verifies := fun (d : Octets) => crc32c (covered (deckBody d)) = checkOf (deckBody d)
    (s.came (.gatherDeparture r) = true → s.leads n = true →
      ∃ t, exec (.gatherDeparture r) s = .next t ∧ (t.ring n).gatherSent = true ∧ (t.ring n).gatherDone = false ∧ (t.ring n).gatherLost = false
        ∧ (t.ring n).sentAt = s.stamp ∧ deckType (t.ring n).gather = (if (s.ring n).phase = .line then 5 else 3)
        ∧ u32 (deckBody (t.ring n).gather) 2 = s.span32 ∧ verifies (t.ring n).gather
        ∧ t.mem = s.mem ∧ t.tb = (s.disarm (.gatherDeparture r)).tb ∧ t.dev = s.dev) ∧
    (s.came (.deliverCutoff r) = true → s.leads n = true →
      let at_ := (s.instantOf (.deliverCutoff r)).getD 0
      ∃ t, exec (.deliverCutoff r) s = .next t ∧ (t.ring n).frozen = true ∧ (t.ring n).frozenWord = s.stopWordOf n ∧ (t.ring n).owed = 0
        ∧ t.tb = (s.disarm (.deliverCutoff r)).tb ∧ t.ax.cutoff = true
        ∧ (s.ax.cutoff = false → t.dio = { s.dio with frozen := s.dio.out }) ∧ (s.ax.cutoff = true → t.dio = s.dio)
        ∧ (∀ c, c < 72 → (s.chanCfg c).used = true → (s.chanCfg c).ring.toNat = n →
            (s.chanDone c at_ = true → (t.chan c).sent.pos = (s.chan c).post.pos ∧ (t.chan c).sent.torque = (s.chan c).post.torque) ∧
            (s.chanDone c at_ = false → (t.chan c).sent.pos = ((s.chan c).sent.extrapolated s.spanNs).pos ∧ (t.chan c).sent.torque = (s.chan c).sent.torque))
        ∧ t.mem = s.mem) ∧
    (s.came (.deliverDeparture r) = true → s.leads n = true → (s.ring n).frozen = true → (s.ring n).deliverSent = false →
      ∃ t, exec (.deliverDeparture r) s = .next t ∧ (t.ring n).deliverSent = true ∧ (t.ring n).deliverDone = false
        ∧ deckType (t.ring n).deliver = (if (s.ring n).phase = .line then 5 else 4)
        ∧ (28 ≤ (deckBody (s.ring n).deliver).length →
            u32 (deckBody (t.ring n).deliver) 2 = s.span32 ∧ verifies (t.ring n).deliver)
        ∧ t.mem = s.mem ∧ t.tb = (s.disarm (.deliverDeparture r)).tb ∧ t.dev = s.dev) ∧
    (s.came (.gatherDeparture r) = false ∨ s.leads n = false → exec (.gatherDeparture r) s = .next s) ∧
    (s.came (.deliverDeparture r) = false ∨ s.leads n = false → exec (.deliverDeparture r) s = .next s) ∧
    (s.came (.deliverCutoff r) = false ∨ s.leads n = false ∧ s.shadows n = false → exec (.deliverCutoff r) s = .next (s.disarm (.deliverCutoff r))) ∧
    (s.came .outputFreeze = true →
      exec .outputFreeze s = .next (if s.ax.cutoff then s.disarm .outputFreeze else { s.disarm .outputFreeze with dio := { s.dio with frozen := s.dio.out } })) ∧
    (s.came .outputFreeze = false → exec .outputFreeze s = .next s)

/-- A deck that comes back well counts towards the run of good decks, a lost one is counted and its inputs are extrapolated. -/
def Obligations.ReturnedAndLostDecksAreJudged : Prop :=
  ∀ (s : State) (r : BitVec 4) (d : Octets) (lap : W32),
    let n := r.toNat
    let g := s.ring n
    (s.leads n = true → g.phase = .running → s.cfg.pair.pair = false → s.portEnabled (westPort n) = true →
      (g.gatherSent = true → g.gatherDone = false → s.passedBy (.gatherCutoff r) = false → judgeDeck d = .good → s.ourDeck n true d = true →
        ∃ t, exec (.gatherCompletion r (some d) none lap) s = .next t ∧ (t.ring n).gatherDone = true ∧ (t.ring n).gatherLost = false
          ∧ (t.ring n).consecutive = 0 ∧ (t.ring n).goodDecks = g.goodDecks + 1 ∧ t.lr.stopWord = s.lr.stopWord ||| stopBitsIn true d
          ∧ (t.ring n).inputs = (((s.positions n).foldl (fun u p =>
              if (u16 (deckBody d) 12).getLsbD (p - 1) then u.takeInputs n p (deckBody d) else u.substitute n p) s).ring n).inputs) ∧
      (g.gatherSent = true → g.gatherDone = false → s.passedBy (.gatherCutoff r) = true →
        exec (.gatherCompletion r (some d) none lap) s = .next (s.countDeck (westPort n) (judgeDeck d))) ∧
      (g.gatherSent = true → g.gatherDone = false → s.came (.gatherCutoff r) = true →
        ∃ t, exec (.gatherCutoff r) s = .next t ∧ (t.ring n).gatherDone = true ∧ (t.ring n).gatherLost = true
          ∧ (t.ring n).lostGather = inc g.lostGather ∧ (t.ring n).consecutive = inc g.consecutive
          ∧ (t.ring n).inputs = (((s.positions n).foldl (fun u p => u.substitute n p) s).ring n).inputs ∧ t.came (.gatherCutoff r) = false) ∧
      (g.gatherSent = true → g.gatherDone = true → g.gatherLost = false → s.came (.gatherCutoff r) = true →
        exec (.gatherCutoff r) s = .next (s.disarm (.gatherCutoff r))) ∧
      (g.gatherSent = false ∨ g.gatherDone = true → exec (.gatherCompletion r (some d) none lap) s = .next s) ∧
      (g.deliverSent = true → g.deliverDone = false → judgeDeck d = .good → s.ourDeck n false d = true →
        ∃ t, exec (.deliverDeckReturn r (some d) none lap) s = .next t ∧ (t.ring n).deliverDone = true ∧ (t.ring n).consecutive = 0
          ∧ (t.ring n).goodDecks = g.goodDecks + 1 ∧ t.lr.returned = s.lr.returned ||| stopBitsIn false d ∧ t.mem = s.mem) ∧
      (g.deliverSent = true → g.deliverDone = false → judgeDeck d ≠ .good →
        ∃ t, exec (.deliverDeckReturn r (some d) none lap) s = .next t ∧ (t.ring n).deliverDone = true
          ∧ (t.ring n).lostDeliver = inc g.lostDeliver ∧ (t.ring n).consecutive = inc g.consecutive) ∧
      (g.deliverSent = true → g.deliverDone = false →
        ∃ t, exec (.deliverDeckReturn r none none lap) s = .next t ∧ (t.ring n).deliverDone = true
          ∧ (t.ring n).lostDeliver = inc g.lostDeliver ∧ (t.ring n).consecutive = inc g.consecutive)) ∧
    (g.deliverSent = false ∨ g.deliverDone = true ∨ s.leads n = false → exec (.deliverDeckReturn r (some d) none lap) s = .next s) ∧
    (s.leads n = false → s.shadows n = false → exec (.gatherCompletion r (some d) none lap) s = .next s) ∧
    (s.came (.gatherCutoff r) = false → exec (.gatherCutoff r) s = .next s) ∧
    (s.came (.gatherCutoff r) = true → s.leads n = false → exec (.gatherCutoff r) s = .next (s.disarm (.gatherCutoff r)))

/-- A node forwards what it cannot use unchanged, takes its position from COLD decks, and holds a good deliver deck for the next instant. -/
def Obligations.DecksPassNodes : Prop :=
  ∀ (s : State) (r : BitVec 4) (pos : BitVec 5) (d : Octets) (a : Passage),
    let n := r.toNat
    let k := pos.toNat
    let x := s.node n k
    s.isSelf n = false → a.cut = false → d ≠ [] →
    (judgeDeck d = .unknown →
      ∃ t, exec (.deckArrival r pos d a) s = .next t ∧ t.lr.forwarded = d ∧ (t.node n k).counts.unknown = inc x.counts.unknown ∧ t = { s with lr := t.lr }) ∧
    (judgeDeck d = .good → deckType d = 3 ∨ deckType d = 4 ∨ deckType d = 5 → x.configured = false ∨ x.tag ≠ u16 (deckBody d) 10 ∨ (u8 (deckBody d) 7).toNat ≠ n →
      ∃ t, exec (.deckArrival r pos d a) s = .next t ∧ t.lr.forwarded = d ∧ (t.node n k).counts.layout = inc x.counts.layout ∧ t = { s with lr := t.lr }) ∧
    (judgeDeck d = .good → deckType d = 1 → (deckBody d).length = 28 →
      ∃ t, exec (.deckArrival r pos d a) s = .next t ∧ (t.node n k).position = u8 (deckBody d) 16 + 1
        ∧ u8 (deckBody t.lr.forwarded) 16 = u8 (deckBody d) 16 + 1
        ∧ crc32c (covered (deckBody t.lr.forwarded)) = checkOf (deckBody t.lr.forwarded) ∧ t = { s with lr := t.lr }) ∧
    (judgeDeck d = .good → deckType d = 4 → x.configured = true → x.tag = u16 (deckBody d) 10 → (u8 (deckBody d) 7).toNat = n →
      u32 (deckBody d) 2 = a.span → u8 (deckBody d) 16 = u8 (deckBody d) 17 → u8 (deckBody d) 16 ≠ 0 → a.late = false → x.excluded = false →
      ∃ t, exec (.deckArrival r pos d a) s = .next t ∧ (t.node n k).next = some (deckBody d) ∧ (t.node n k).arrived = true ∧ t = { s with lr := t.lr }) ∧
    (x.configured = true → x.excluded = false →
      (∀ b : Octets, x.next = some b → ((s.nodeInstant n k).node n k).next = none ∧ ((s.nodeInstant n k).node n k).started = true) ∧
      (x.next = none → x.started = true → ((s.nodeInstant n k).node n k).missedFlag = true ∧ ((s.nodeInstant n k).node n k).missRun = x.missRun + 1)) ∧
    (x.started = true →
      let limit := if x.entry.dataLoss = 0 then 4 else x.entry.dataLoss.toNat
      ∃ y : Node, exec (.nodeDataLoss r pos) s = .next (s.setNode n k y)
        ∧ y = { x with loss := x.loss || decide (limit ≤ x.missRun), joints := y.joints }
        ∧ ∀ o ∈ s.jointsAt n x.entry, (y.joint o.1).loss = ((x.joint o.1).loss || decide (limit ≤ (x.joint o.1).missRun))) ∧
    (x.started = false → exec (.nodeDataLoss r pos) s = .next s)

/-- A host message waits on its ring until acknowledged, is retried after 8 decks and fails after 3 retries; a node message is received once. -/
def Obligations.MailboxMessagesTravelAndAreRetried : Prop :=
  (∀ (s : State) (p : Packet), s.takes p = true → unusedZero p.params [(0, 1), (1, 1), (2, 2), (4, 2)] = true →
    let r := param p.params 0 1
    let dest := param p.params 1 1
    let len := param p.params 2 2
    let lot := param p.params 4 2
    let a := 0x00F0000000 + 4096 * lot
    r < 14 → (1 ≤ dest ∧ dest ≤ 16) ∨ dest = 0xFE → 1 ≤ len → len ≤ 4096 → s.lot lot = 2 →
    ((s.ring r).tx = none → s.sound a len = true →
      exec (.mbxSend p) s = .next ((s.taken p 0x0901 [lot]).setRing r { s.ring r with
        tx := some { queue := p.queue, dest := BitVec.ofNat 8 dest, data := s.octets a len, seq := Table.get 0 (s.ring r).txSeq dest } })) ∧
    ((s.ring r).tx ≠ none → exec (.mbxSend p) s = .next (s.replied p 0x0901 [lot] fun t => (t, { status := 0x000C })))) ∧
  (∀ (s : State) (p : Packet), s.takes p = true → unusedZero p.params [(0, 1), (2, 2)] = true →
    let r := param p.params 0 1
    let lot := param p.params 2 2
    let a := 0x00F0000000 + 4096 * lot
    r < 14 → s.lot lot = 2 →
    ((s.ring r).rxDone = [] → exec (.mbxRecv p) s = .next (s.replied p 0x0902 [lot] fun t => (t, { status := 0x000D }))) ∧
    (∀ (m : MailRx) (rest : List MailRx), (s.ring r).rxDone = m :: rest → s.sound a m.data.length = true →
      ∃ u : State, exec (.mbxRecv p) s = .next (u.reply p.queue.toNat (s.ctxFor p 0x0902 [lot])
          { r0 := BitVec.ofNat 32 m.data.length, r1 := m.src.setWidth 32 })
        ∧ u.ring r = { s.ring r with rxDone := rest } ∧ u.octets a m.data.length = m.data
        ∧ (∀ x, x < a ∨ a + m.data.length ≤ x → Table.get 0 u.mem x = Table.get 0 s.mem x))) ∧
  (∀ (s : State) (r : BitVec 4) (m : MailTx) (c : ReplyCtx),
    let g := s.ring r.toNat
    g.tx = some m → m.sent = true → 8 ≤ m.decks → (s.queue m.queue.toNat).busy = some c →
    (m.tries < 3 → exec (.mailboxRetransmit r) s = .next (s.setRing r.toNat { g with
      retries := inc g.retries
      tx := some { m with sent := false, decks := 0, tries := m.tries + 1, retransmissions := inc m.retransmissions } })) ∧
    (3 ≤ m.tries → exec (.mailboxRetransmit r) s = .next ((s.setRing r.toNat { g with
        tx := none, txSeq := Table.put 0 g.txSeq m.dest.toNat (m.seq + 1), failures := inc g.failures }).reply
      m.queue.toNat c { status := 0x000E, r0 := m.retransmissions.setWidth 32 })))

/-- Link ports gain and lose sync and count their errors, and probe results give the link delay. -/
def Obligations.LinksAndProbes : Prop :=
  ∀ (s : State) (port : BitVec 5),
    let n := port.toNat
    let o := s.port n
    (s.portEnabled n = true →
      exec (.pcsSyncAcquired port) s = .next (s.setPort n { o with pcsSync := true, cleanFrom := s.tb.tb2.ns }) ∧
      exec (.invalidCodeGroup port true) s = .next (s.setPort n { o with deckErr := inc o.deckErr, cleanFrom := s.tb.tb2.ns }) ∧
      exec (.invalidCodeGroup port false) s = .next (s.setPort n { o with idleErr := inc o.idleErr, cleanFrom := s.tb.tb2.ns }) ∧
      (∀ al : BitVec 4,
        (o.pcsSync = true → o.linkUp = false → 131072 ≤ (s.tb.tb2.ns - o.cleanFrom).toNat →
          ∃ t, exec (.linkUp port al) s = .next t ∧ t.port n = { o with linkUp := true } ∧
            (n ≠ 24 → n ≠ 25 → t = { s.setPort n { o with linkUp := true } with tb := { s.tb with rxAlign := Table.put 0 s.tb.rxAlign n al } })) ∧
        (o.pcsSync = false ∨ o.linkUp = true ∨ (s.tb.tb2.ns - o.cleanFrom).toNat < 131072 → exec (.linkUp port al) s = .next s)) ∧
      (∃ t, exec (.linkDown port) s = .next t ∧ t.port n = { o with
          pcsSync := false, linkUp := false, request := none
          syncLosses := if o.pcsSync then inc o.syncLosses else o.syncLosses
          linkDowns := if o.linkUp then inc o.linkDowns else o.linkDowns }
        ∧ (o.linkUp = false → t = s.setPort n (t.port n)))) ∧
    (s.portEnabled n = false → exec (.pcsSyncAcquired port) s = .next s ∧ exec (.linkDown port) s = .next s
      ∧ (∀ b, exec (.invalidCodeGroup port b) s = .next s) ∧ ∀ al, exec (.linkUp port al) s = .next s) ∧
    (s.probes n = true →
      exec (.probeWindowOpen port) s = .next ((s.setPort n { o with request := some o.nextSeq, nextSeq := o.nextSeq + 1 }).transmits n
        (probeLine (probeOctets 1 o.nextSeq 0))) ∧
      (∀ (x : Octets) (times : ProbeTimes) (inWindow : Bool),
        let res := s.probeResidence n times
        (u8 x 0 = 1 → inWindow = true → 0 ≤ res → res ≤ 131072 →
          exec (.probeRequest port x times inWindow) s = .next (s.transmits n (probeLine (probeOctets 2 (u8 x 1) (BitVec.ofInt 40 res))))) ∧
        (u8 x 0 ≠ 1 ∨ inWindow = false ∨ res < 0 ∨ 131072 < res → exec (.probeRequest port x times inWindow) s = .next s)) ∧
      (∀ (x : Octets) (tx rx : RawStamp),
        (o.request = none → exec (.probeResponse port x tx rx) s = .next s) ∧
        (∀ q : Byte, o.request = some q →
          let rt := s.roundTrip n tx rx
          (u8 x 0 = 2 → u8 x 1 = q → rt ≤ 131072000 →
            ∃ l : List Int, l = ((rt - (fieldO x 2 5 * 256 : Nat) + 512 * (s.portCfg n).asym.toInt) :: o.results).take l.length ∧ l ≠ [] ∧
              (∀ m, ringOfPort n = some m → (s.ring m).phase = .running → l.length = min 16 (o.results.length + 1)) ∧
              exec (.probeResponse port x tx rx) s = .next (s.setPort n { o with
                request := none, results := l, silentRaised := false
                delay := BitVec.ofInt 32 (roundDiv (l.foldl (· + ·) 0) (512 * (l.length : Int))) })) ∧
          (u8 x 0 ≠ 2 ∨ u8 x 1 ≠ q ∨ 131072000 < rt → exec (.probeResponse port x tx rx) s = .next s))) ∧
      (o.silentRaised = false → s.cfg.classOf 0x060A = 1 →
        ∃ t, exec (.probeSilent port) s = .next t ∧ t.port n = { o with silentRaised := true } ∧ (∃ x : Record, t.evt.queue = s.evt.queue ++ [x] ∧ x.code = 0x060A)) ∧
      (o.silentRaised = true → exec (.probeSilent port) s = .next s)) ∧
    (s.probes n = false → exec (.probeWindowOpen port) s = .next s ∧ exec (.probeSilent port) s = .next s
      ∧ (∀ x times b, exec (.probeRequest port x times b) s = .next s) ∧ ∀ x tx rx, exec (.probeResponse port x tx rx) s = .next s)

/-- A run of the joint-loop engine completes and takes every set's path time on by its speed scale; channels late at the deadline are overruns. -/
def Obligations.LoopRunAdvancesPathTimes : Prop :=
  (∀ (s : State) (joints axes : List Nat),
    (s.leReady = false → exec (.leRun joints axes) s = .next s) ∧
    (s.leReady = true → ∃ t, exec (.leRun joints axes) s = .next t
      ∧ t.le.ran = true ∧ t.le.ends = endStamps s.stamp125 (runTimes joints axes) ∧ t.le.due = s.spanStart + s.cfg.deadlineLe.toNat ∧ t.dev.vcMissed = 0
      ∧ t.dev.le = s.dev.le.complete (t.lastEnd / 8 / s.spanNs) (slackAt t.le.due t.lastEnd)
      ∧ (s.tb.tb0.ns.toNat < (t.lastEnd + 7) / 8 →
          ({ tb := 0, instant := BitVec.ofNat 64 ((t.lastEnd + 7) / 8), what := .leComplete } : Compare) ∈ t.tb.compares)
      ∧ t.tb = { s.tb with compares := t.tb.compares, fired := t.tb.fired } ∧ t.za = s.za ∧ t.saf = s.saf ∧ t.cfg = s.cfg
      ∧ ((∀ e ∈ s.cfg.rows, e.2.release = true → (s.desc e.2.target.toNat).count = 0) → t.mem = s.mem)
      ∧ (∀ a, a < 9 →
        let u := s.armSet a
        let p := (t.armSet a).ptime
        let moves : Prop := (s.dev.cellAt = .run ∨ s.dev.cellAt = .stopping)
          ∧ (a = 8 ∨ Table.get .unused s.dev.armsAt a = .enabled ∨ Table.get .unused s.dev.armsAt a = .stopping)
        (u.engage = true → p = 0 ∧ ∀ c ∈ s.setChans a, (t.chan c).knotLast = 0xFFFFFFFF) ∧
        (u.engage = false → moves → a = 8 ∨ u.scale = 0x7FFF → p = u.ptime + 0x100000000) ∧
        (u.engage = false → moves → a ≠ 8 → u.scale.toInt ≤ 0 → p = u.ptime) ∧
        (u.engage = false → moves → a ≠ 8 → 0 < u.scale.toInt → u.scale ≠ 0x7FFF → p = u.ptime + (u.scale.setWidth 64 <<< 17)) ∧
        (u.engage = false → ¬ moves → p = u.ptime ∧ (t.armSet a).frozen = true) ∧
        (moves → a ≠ 8 → u.scale.toInt < 0 → (t.armSet a).badScale = inc u.badScale) ∧
        (0 ≤ u.scale.toInt → (t.armSet a).badScale = u.badScale)))) ∧
  (∀ s : State,
    let late := s.usedChans.filter (fun c => !s.chanDone c ((s.instantOf .deadlineLe).getD 0))
    (s.came .deadlineLe = false → exec .deadlineLeExpiry s = .next s) ∧
    (s.came .deadlineLe = true → late = [] → exec .deadlineLeExpiry s = .next (s.disarm .deadlineLe)) ∧
    (s.came .deadlineLe = true → late ≠ [] → s.cfg.classOf 0x0102 ≠ 0 →
      ∃ t, exec .deadlineLeExpiry s = .next t ∧ t.tb = (s.disarm .deadlineLe).tb ∧ t.dev.le = { s.dev.le with overruns := inc s.dev.le.overruns }
        ∧ (∀ a, a < 9 →
          let n := (late.filter (fun c => (s.chanCfg c).arm.toNat == a)).length
          n ≠ 0 → ∃ x ∈ t.evt.queue, x.code = 0x0102 ∧ x.data = BitVec.ofNat 32 (0xFF + 256 * a + 65536 * n))
        ∧ t.mem = s.mem ∧ t.le = s.le))

/-- In a run of the engine each used channel writes the outputs of its effective mode within its limits. -/
def Obligations.ChannelsRunInTheirModes : Prop :=
  ∀ (s : State) (joints axes : List Nat) (c : Nat), s.leReady = true → c < 72 → (s.chanCfg c).used = true →
    let k := s.chanCfg c
    let o := s.chan c
    let eff := s.effMode k
    ∃ t, exec (.leRun joints axes) s = .next t ∧
      let n := t.chan c
      let ctl := fun (w : W16) => n.post.control = (w ||| (if o.resetRequest then 0x10 else 0) ||| ((o.seq + 1).setWidth 16 <<< 12))
      let tracks := n.eff = 7 ∧ n.holdPos = o.measured.x ∧ n.integ = o.iPreload ∧ n.bq1 = {} ∧ n.bq2 = {}
        ∧ n.post.torque = 0 ∧ n.post.pos = o.measured.x ∧ n.post.vff = 0 ∧ ctl 0
      let within := k.tqMin.toInt ≤ k.tqMax.toInt → k.tqMin.toInt ≤ n.post.torque.toInt ∧ n.post.torque.toInt ≤ k.tqMax.toInt
      n.seq = o.seq + 1 ∧ n.resetRequest = false ∧ n.measured = o.measured ∧ n.tff = o.tff ∧ n.iPreload = o.iPreload
      ∧ n.extrap = (if o.measured.status.getLsbD 6 then inc o.extrap else o.extrap)
      ∧ (eff = 7 → tracks)
      ∧ (eff ≠ 7 → k.mode ≠ 5 →
        (o.driveOff = true → tracks ∧ n.flags.driveOff = true) ∧
        (o.driveOff = false → n.flags.driveOff = false ∧
          (eff = 0 → n.eff = 0 ∧ n.post.torque = 0 ∧ n.post.pos = o.measured.x ∧ n.post.vff = 0 ∧ ctl 0) ∧
          (eff = 1 → n.eff = 1 ∧ within ∧ n.post.pos = o.measured.x ∧ n.post.vff = 0 ∧ ctl 3) ∧
          (eff = 2 → n.eff = 2 ∧ within ∧ ctl 3) ∧
          (eff = 3 ∨ eff = 4 → n.eff = eff ∧ within ∧ ctl (if k.flags.getLsbD 0 then 7 else 3)) ∧
          (2 ≤ eff.toNat → k.iMin.toInt ≤ k.iMax.toInt → k.iMin.toInt ≤ n.integ.toInt ∧ n.integ.toInt ≤ k.iMax.toInt) ∧
          (eff = 4 → n.post.pos = n.holdPos ∧ n.post.vff = 0) ∧
          (eff = 4 → o.eff = 4 → n.holdPos = o.holdPos) ∧
          (eff = 4 → o.eff = 7 → n.holdPos = o.measured.x) ∧
          (eff = 4 → o.eff = 2 ∨ o.eff = 3 ∨ o.eff = 5 → n.holdPos = o.ref)))
      ∧ (k.mode = 5 → k.leader.toNat < c → (s.chanCfg k.leader.toNat).used = true → (s.chanCfg k.leader.toNat).mode ≠ 5 →
        let led := s.effMode (s.chanCfg k.leader.toNat) ≠ 7 ∧ (s.chan k.leader.toNat).driveOff = false
        (¬ led → tracks) ∧
        (led → eff ≠ 7 → o.driveOff = true → tracks ∧ n.flags.driveOff = true) ∧
        (led → eff = 4 ∨ eff = 5 → o.driveOff = false → n.eff = eff ∧ within ∧ ctl (if k.flags.getLsbD 0 then 7 else 3)))

/-- A fabric write to a joint record changes the runtime and profile octets that it covers and no other. -/
def Obligations.JointRecordsKeepTheirCatalogueFields : Prop :=
  ∀ (s : State) (who : Requester) (c : BitVec 7) (offset : BitVec 8) (w : Octets),
    (c.toNat < 72 → who ≠ .host →
      ∃ t, exec (.leRecordWrite who c offset w) s = .next t ∧ t = { s with le := t.le }
        ∧ (∀ d, d ≠ c.toNat → t.chan d = s.chan d) ∧ (∀ a, t.armSet a = s.armSet a)
        ∧ (∀ p, p < 256 → (t.leRecord c.toNat).getD p 0
            = if offset.toNat ≤ p ∧ p < offset.toNat + w.length ∧ 0x90 ≤ p ∧ p < 0xDC then w.getD (p - offset.toNat) 0 else (s.leRecord c.toNat).getD p 0)
        ∧ (let free := ∀ p, offset.toNat ≤ p → p < offset.toNat + w.length → 0x90 ≤ p ∧ p < 0xDC
          (free → t.le.refused = s.le.refused) ∧ (¬ free → t.le.refused = inc s.le.refused))) ∧
    (c.toNat < 72 → exec (.leRecordWrite .host c offset w) s = .next s.hostRefused) ∧
    (72 ≤ c.toNat → exec (.leRecordWrite who c offset w) s = .next s)

/-- Targets, group starts, stops and hand-overs act on the profile channels and are refused as their rules say. -/
def Obligations.ProfileCommandsActOnTheirChannels : Prop :=
  ∀ (s : State) (p : Packet), s.takes p = true → s.replicates = false → s.refusesReplicated = false →
    let c := param p.params 0 1
    let f := param p.params 1 1
    let old := s.prof c
    let kept := fun (a : Nat) => if (s.pgSet a).req && !(s.pgSet a).toSolver then (s.pgSet a).boundary else none
    let tgt : Target := if f % 2 = 1 then .velocity (BitVec.ofInt 32 (clampInt (-((s.profCfg c).vMax.toNat : Int)) (s.profCfg c).vMax.toNat
      (BitVec.ofNat 32 (param p.params 8 4)).toInt)) else .position (BitVec.ofNat 64 (param p.params 8 8))
    (s.pgTargetGood p.params = true →
      ((s.armSet (s.setOf c)).source = false → exec (.pgTarget p) s = .next (s.replied p 0x0301 [] fun t => (t, { status := 0x0004 }))) ∧
      ((s.armSet (s.setOf c)).source = true → s.limitHit c tgt = true →
        exec (.pgTarget p) s = .next (s.replied p 0x0301 [] fun t => (t.setProf c { old with refused := satAdd old.refused 1 }, { status := 0x0007 }))) ∧
      ((s.armSet (s.setOf c)).source = true → s.limitHit c tgt = false →
        ∃ n : PgChan, exec (.pgTarget p) s = .next (s.replied p 0x0301 [] fun t => (t.setProf c n, {}))
          ∧ n.kind = decide (f % 2 = 1) ∧ n.grouped = decide (f / 2 % 2 = 1) ∧ n.plan = old.plan
          ∧ (n.grouped = true → n.waiting = some (BitVec.ofNat 4 (param p.params 2 1), tgt) ∧ n.target = old.target)
          ∧ (n.grouped = false → n.target = some tgt ∧ n.waiting = old.waiting
            ∧ n.superseded = if old.target.isSome then inc old.superseded else old.superseded))) ∧
    (let start := BitVec.ofNat 16 (param p.params 0 2)
      let sync := BitVec.ofNat 16 (param p.params 2 2)
      let named := fun (d : Nat) (t : Target) => ∃ g : BitVec 4, (s.prof d).waiting = some (g, t) ∧ start.getLsbD g.toNat = true
      unusedZero p.params [(0, 2), (2, 2)] = true →
      ((∀ d t, d < 72 → named d t → s.planRest d = true ∧ s.dev.cell = .run ∧ (s.armSet (s.setOf d)).source = true
          ∧ (s.setOf d = 8 ∨ s.arm (s.setOf d) = .enabled) ∧ s.limitHit d t = false) →
        ∃ e, exec (.pgStartGroup p) s = .next (s.replied p 0x0302 [] fun t =>
            ({ t with pg := { t.pg with starts := t.pg.starts ++ [(start, sync)], emptyStarts := e } }, {}))
          ∧ exec (.pgGroupGo .registrar (start.setWidth 32 ||| (sync.setWidth 32 <<< 16))) s
            = .next { s with pg := { s.pg with starts := s.pg.starts ++ [(start, sync)], emptyStarts := e } }) ∧
      ((∃ d t, d < 72 ∧ named d t ∧ s.planRest d = false) →
        exec (.pgStartGroup p) s = .next (s.replied p 0x0302 [] fun t => (t, { status := 0x0006 })))) ∧
    (unusedZero p.params [(0, 9)] = true →
      ∃ u : State, exec (.pgStop p) s = .next (s.replied p 0x0303 [] fun _ => (u, {}))
        ∧ u = { s.taken p 0x0303 [] with pg := u.pg }
        ∧ ∀ d, d < 72 → (u.prof d).stopDue = ((s.prof d).stopDue || ((param p.params 0 9).testBit d && (s.profCfg d).enabled))) ∧
    (unusedZero p.params [(0, 1), (1, 1)] = true → c < 9 →
      (f = 1 → exec (.pgHandover p) s = .next (s.replied p 0x0304 [] fun t =>
        (t.setPgSet c { t.pgSet c with req := true, toSolver := true, take := false, boundary := none }, { r0 := 0xFFFFFFFF }))) ∧
      (f = 0 → exec (.pgHandover p) s = .next ((s.taken p 0x0304 []).setPgSet c
        { s.pgSet c with req := true, toSolver := false, take := true, boundary := kept c, reply := (s.pgSet c).reply ++ [p.queue] }))) ∧
    (∀ (a : BitVec 4) (v : W32), a.toNat < 9 → exec (.pgArmHoReq .registrar a v) s
      = .next (s.setPgSet a.toNat { s.pgSet a.toNat with req := true, toSolver := v.getLsbD 30, take := !v.getLsbD 30, boundary := if v.getLsbD 30 then none else kept a.toNat })) ∧
    (∀ (d : BitVec 7) (v : W32), d.toNat < 72 →
      let o := s.prof d.toNat
      ∃ n : PgChan, exec (.pgChCmdGo .registrar d v) s = .next (s.setProf d.toNat n)
        ∧ n.kind = v.getLsbD 30 ∧ n.grouped = v.getLsbD 29 ∧ n.group = v.setWidth 4 ∧ n.plan = o.plan
        ∧ ((s.profCfg d.toNat).enabled = false → n.refused = satAdd o.refused 1 ∧ n.target = o.target ∧ n.waiting = o.waiting)
        ∧ ((s.profCfg d.toNat).enabled = true → v.getLsbD 30 = false →
          (v.getLsbD 29 = false → n.target = some (.position o.tgt)) ∧ (v.getLsbD 29 = true → n.waiting = some (v.setWidth 4, .position o.tgt)))) ∧
    (∀ (a : BitVec 4) (d : BitVec 7) (v : W32), exec (.pgChCmdGo .host d v) s = .next s.hostRefused
      ∧ exec (.pgGroupGo .host v) s = .next s.hostRefused ∧ exec (.pgArmHoReq .host a v) s = .next s.hostRefused)

/-- A generator run plans the targets of resting channels, makes the stops that are due and writes three knots of every plan. -/
def Obligations.GeneratorRunsPlanAndWriteKnots : Prop :=
  ∀ (s : State) (reached : BitVec 7), ∃ t, exec (.profileRun reached) s = .next t ∧ t.pg.starts = [] ∧ t.pg.busy = false
    ∧ t.tb = s.tb ∧ t.mem = s.mem ∧ t.cfg = s.cfg ∧ t.lr.nodes = s.lr.nodes
    ∧ ∀ c, c < 72 → (s.profCfg c).enabled = true → (s.chanCfg c).used = true → s.setOf c < 9 →
      let a := s.setOf c
      let pn := s.pNext a
      let i0 := pn.toNat / 2 ^ 32
      let old := { s.prof c with plan := (s.prof c).plan.renewed (firstKnot pn) }
      let stops := (s.setProf c old).stopsNow c
      let m := old.plan.motion (firstKnot pn)
      (s.armSet a).engage = false → (s.pgSet a).req = false → s.pg.starts = [] →
      ((s.armSet a).source = false → (t.prof c).plan = old.plan ∧ (t.chan c).knots = (s.chan c).knots ∧ (t.chan c).knotLast = (s.chan c).knotLast) ∧
      ((s.armSet a).source = true →
        (reached.toNat ≤ c → (t.chan c).knots = (s.chan c).knots ∧ (t.chan c).knotLast = (s.chan c).knotLast) ∧
        (c < reached.toNat → (t.chan c).knotLast = BitVec.ofNat 32 (i0 + 2) ∧
          ∀ n, n < 3 → (t.chan c).knot (i0 + n) =
            { x := BitVec.ofInt 64 (storeI ((t.prof c).plan.motion (BitVec.ofNat 64 ((i0 + n) * 2 ^ 32))).x 24 64)
              d := BitVec.ofInt 64 (storeI ((t.prof c).plan.motion (BitVec.ofNat 64 ((i0 + n) * 2 ^ 32))).v 24 64) }) ∧
        (s.limitInput (s.profCfg c).limitPos = false → s.limitInput (s.profCfg c).limitNeg = false → old.hardDue = false →
          (old.stopDue = true → stops = false → (t.prof c).plan = s.planStopFor c (firstKnot pn) m) ∧
          (old.stopDue = true → stops = true → (t.prof c).plan = old.plan) ∧
          (old.stopDue = false → stops = false → ∀ g, old.target = some g → s.stalled c = false →
            (t.prof c).plan = s.planTo c (firstKnot pn) m g ∧ (t.prof c).target = none) ∧
          (old.stopDue = false → old.target = none → (t.prof c).plan = old.plan)))

/-- Zero events, peaks, samples, faults, load-all and forces act on the module that they name. -/
def Obligations.AxisModulesFollowTheirCarriers : Prop :=
  ∀ (s : State) (n : BitVec 3),
    let i := n.toNat
    let k := s.axCfg i
    let a := s.axm i
    let kept := fun (t : State) => t = { s with ax := t.ax, fresh := t.fresh }
    (∀ (flt : Bool) (vs : PhaseVolts), s.axServes i = true →
      ∃ t, exec (.zeroEvent n flt vs) s = .next t ∧ kept t ∧ (t.axm i).pw.count = 0 ∧ (t.axm i).pw.down = false
        ∧ (t.axm i).pw.cut = (flt && k.fltEn) ∧ (t.axm i).pw.faultCuts = (if (flt && k.fltEn) = true then inc a.pw.faultCuts else a.pw.faultCuts)
        ∧ (k.direct = true → ∀ l, a.pw.staged = some l →
          (s.ax.acceptedAt.toNat / 4 ≠ s.tb.tb2.ns.toNat / 4 → (t.axm i).pw.active = l ∧ (t.axm i).pw.staged = none) ∧
          (s.ax.acceptedAt.toNat / 4 = s.tb.tb2.ns.toNat / 4 → (t.axm i).pw.active = a.pw.active ∧ (t.axm i).pw.staged = some l))
        ∧ (k.direct = false → k.mode = 3 →
          let c := min ((min a.latched.torque.toInt.natAbs (k.dutyMax.toNat * 65536) * k.top.toNat + 2 ^ 30) / 2 ^ 31) k.top.toNat
          (t.axm i).pw.active = if a.latched.torque.toInt < 0 then [pairLow, pairAt c] else [pairAt c, pairLow])
        ∧ (a.pw.forceNew = true → a.pw.forceReg.getLsbD 31 = false →
          (t.axm i).pw.force = a.pw.forceReg.setWidth 16 ∧ (t.axm i).pw.forceNew = false)
        ∧ (a.pw.forceReg.getLsbD 31 = true ∨ a.pw.forceNew = false → (t.axm i).pw.force = a.pw.force)
        ∧ (i < 7 → (s.axCfg (i + 1)).enable = true → (s.axCfg (i + 1)).syncIn = true →
          (t.axm (i + 1)).pw.count = (s.axCfg (i + 1)).phase ∧ (t.axm (i + 1)).pw.down = false)
        ∧ (t.axm i).pw.waves.length = 4) ∧
    (k.enable = true → ∃ t, exec (.carrierPeak n) s = .next t ∧ kept t ∧ (t.axm i).pw.count = k.top ∧ (t.axm i).pw.down = true
      ∧ (a.pw.forceNew = true → a.pw.forceReg.getLsbD 31 = true → (t.axm i).pw.force = a.pw.forceReg.setWidth 16 ∧ (t.axm i).pw.forceNew = false)
      ∧ (∀ j, j ≠ i → t.axm j = s.axm j)) ∧
    (∀ (second : Bool) (v : W16), s.axServes i = true →
      ∃ t, exec (.conversionComplete n second v) s = .next t ∧ kept t
        ∧ (t.axm i).fb.is1 = (if second then v else a.fb.is1) ∧ (t.axm i).fb.is0 = (if second then a.fb.is0 else v)
        ∧ (let beyond := decide (k.ocLimit.toNat < ((v.toNat : Int) - 32768).natAbs)
          (t.axm i).pw.cut = (a.pw.cut || beyond)
          ∧ (t.axm i).pw.ocCuts = if (beyond && !a.pw.cut) = true then inc a.pw.ocCuts else a.pw.ocCuts)
        ∧ (∀ j, j ≠ i → t.axm j = s.axm j)) ∧
    (s.axServes i = true → ∃ t, exec (.fltActive n) s = .next t ∧ kept t ∧ (t.axm i).pw.flt = true
      ∧ (t.axm i).pw.cut = (a.pw.cut || k.fltEn)
      ∧ (k.fltEn = true → s.axDrives i = true → (t.axm i).pw.out = .fault)
      ∧ (s.axDrives i = false → (t.axm i).pw.out = .idle)
      ∧ (∀ j, j ≠ i → t.axm j = s.axm j)) ∧
    (∀ who, who ≠ .host →
      (s.ax.pending = true → exec (.loadAll who) s = .next { s with ax := { s.ax with loadOverrun := inc s.ax.loadOverrun } }) ∧
      (s.ax.pending = false → ∃ t, exec (.loadAll who) s = .next t ∧ kept t ∧ t.ax.acceptedAt = s.tb.tb2.ns
        ∧ (∀ j, j < 8 → (s.axCfg j).enable = true → (s.axCfg j).direct = true → t.ax.pending = true
          ∧ (t.axm j).pw.staged = some [Table.get 0 (s.axm j).pw.shadow 0, Table.get 0 (s.axm j).pw.shadow 1, Table.get 0 (s.axm j).pw.shadow 2,
            Table.get 0 (s.axm j).pw.shadow 3])
        ∧ (∀ j, ¬ (j < 8 ∧ (s.axCfg j).enable = true ∧ (s.axCfg j).direct = true) → t.axm j = s.axm j)
        ∧ ((∀ j, j < 8 → (s.axCfg j).enable = true → (s.axCfg j).direct = false) → t.ax.pending = false)) ∧
      (∀ v, exec (.pwForceWrite who n v) s
        = .next (s.setAxm i { a with pw := { a.pw with forceReg := v &&& 0x8000FFFF, forceNew := true } }))) ∧
    (∀ v, exec (.loadAll .host) s = .next s.hostRefused ∧ exec (.pwForceWrite .host n v) s = .next s.hostRefused)

/-- Feedback edges are filtered and counted, step outputs advance, and a stall stays until it is cleared. -/
def Obligations.AxisFeedbackAndStepsCount : Prop :=
  ∀ (s : State) (n : BitVec 3),
    let i := n.toNat
    let k := s.axCfg i
    let a := s.axm i
    let one := fun (t : State) => t = { s with ax := t.ax } ∧ ∀ j, j ≠ i → t.axm j = s.axm j
    let counts := fun (new : BitVec 3) (t : State) =>
      let da := new.getLsbD 0 != a.fb.filtered.getLsbD 0
      let db := new.getLsbD 1 != a.fb.filtered.getLsbD 1
      (k.kind = 2 → (da != db) = true → ((t.axm i).fb.count = a.fb.count + 1 ∨ (t.axm i).fb.count = a.fb.count - 1) ∧ (t.axm i).fb.illegal = a.fb.illegal) ∧
      (k.kind = 2 → da = true → db = true → (t.axm i).fb.count = a.fb.count ∧ (t.axm i).fb.illegal = inc a.fb.illegal) ∧
      (k.kind ≠ 1 → da = false → db = false → (t.axm i).fb.count = a.fb.count ∧ (t.axm i).fb.illegal = a.fb.illegal) ∧
      (k.kind = 1 → (t.axm i).fb.count = a.fb.count ∨ (t.axm i).fb.count = a.fb.count + 1 ∨ (t.axm i).fb.count = a.fb.count - 1)
    (∀ levels : BitVec 3, s.axServes i = true →
      let new := (a.fb.filtered &&& ~~~ ((levels ^^^ a.fb.pins) &&& ~~~ a.fb.holding)) ||| (levels &&& ((levels ^^^ a.fb.pins) &&& ~~~ a.fb.holding))
      ∃ t, exec (.feedbackEdge n levels) s = .next t ∧ one t ∧ (t.axm i).fb.pins = levels ∧ (t.axm i).fb.filtered = new ∧ counts new t
        ∧ (k.spacing ≠ 0 → (t.axm i).fb.holding = a.fb.holding ||| ((levels ^^^ a.fb.pins) &&& ~~~ a.fb.holding))
        ∧ (((levels ^^^ a.fb.pins) &&& a.fb.holding) = 0 → (t.axm i).fb.glitch = a.fb.glitch)) ∧
    (∀ pins : BitVec 3, s.axServes i = true →
      let due := pins &&& a.fb.holding
      let new := (a.fb.filtered &&& ~~~ due) ||| (a.fb.pins &&& due)
      ∃ t, exec (.edgeSpacingExpiry n pins) s = .next t ∧ one t ∧ (t.axm i).fb.holding = a.fb.holding &&& ~~~ due
        ∧ (t.axm i).fb.filtered = new ∧ (t.axm i).fb.pins = a.fb.pins ∧ counts new t) ∧
    (k.mode = 4 → s.axOut i = .wave →
      (a.pw.left ≠ 0 → exec (.stepPulse n) s = .next (s.setAxm i { a with pw := { a.pw with
        left := a.pw.left - 1, emitted := if a.pw.dir then a.pw.emitted + 1 else a.pw.emitted - 1 } })) ∧
      (a.pw.left = 0 → exec (.stepPulse n) s = .next s)) ∧
    (s.axServes i = true → k.mode = 2 → k.ext = true →
      ∃ t, exec (.stepInputTimeout n) s = .next t ∧ one t ∧ (t.axm i).pw.target = a.pw.target
        ∧ (t.axm i).pw.m = BitVec.ofInt 32 (roundDiv (a.pw.target.toInt * 256) (k.div.toNat + 1 : Nat))) ∧
    (k.mode = 2 → 64 ≤ a.pw.still → exec (.holdAmplitude n) s = .next (s.setAxm i { a with pw := { a.pw with held := true } })) ∧
    (∀ p : Packet, s.takes p = true → s.replicates = false → s.refusesReplicated = false → unusedZero p.params [(0, 1)] = true →
      let c := param p.params 0 1
      let b := s.axm c
      c < 8 →
      (b.fb.devRun = 0 → b.fb.laRun = 0 →
        exec (.axStallClear p) s = .next (s.replied p 0x0305 [] fun t => (t.setAxm c { b with fb := { b.fb with active := false } }, {}))) ∧
      (b.fb.devRun ≠ 0 ∨ b.fb.laRun ≠ 0 →
        exec (.axStallClear p) s = .next (s.replied p 0x0305 [] fun t => (t, { status := 0x0005 }))))

/-- Posts wait for their solve, tokens and triggers start slots by their kind and the cell state, and results are copied. -/
def Obligations.SolverTakesPostsTokensAndTriggers : Prop :=
  ∀ (s : State) (i : Nat), i < 128 →
    let k := s.slotCfg i
    let z := s.slot i
    let starts := s.dev.cell = .run ∨ s.dev.cell = .stopping ∨ (s.dev.cell = .hold ∧ k.prime = true)
    let started := fun (t : State) (start base : Nat) =>
      let e : Solve := { slot := BitVec.ofNat 7 i, start := start, deadline := BitVec.ofNat 64 (base + k.dlSpans.toNat * s.spanNs + k.dlOffset.toNat) }
      ((t.setSlot i { z with activity := 1 }).setLane (i / 4) { s.lane (i / 4) with queue := enqueueSolve e (s.lane (i / 4)).queue }).arm0
        e.deadline.toNat (.solveDeadline e.slot)
    let skipped := fun (t : State) => t.setSlot i { z with startSkipped := inc z.startSkipped }
    let stamp8 := (s.tb.tb0.ns.toNat + (if s.tb.tb0.frac = 0 then 0 else 1) + 7) / 8 * 8
    (∀ (b : BitVec 7) (n : BitVec 12), b.toNat = i →
      (z.pending = false → exec (.zaSlotPostGo .registrar b n) s = .next (s.setSlot i { z with pending := true, entries := n })) ∧
      (z.pending = true → exec (.zaSlotPostGo .registrar b n) s = .next (s.setSlot i { z with postOverrun := inc z.postOverrun })) ∧
      (k.enabled = true → k.token = true → starts → z.activity = 0 → exec (.zaSlotTokenGo .registrar b) s = .next (started s s.stamp125 stamp8)) ∧
      (k.enabled = true → k.token = true → starts → z.activity ≠ 0 → exec (.zaSlotTokenGo .registrar b) s = .next (skipped s)) ∧
      (k.enabled = true → k.token = false → exec (.zaSlotTokenGo .registrar b) s = .next (skipped s)) ∧
      (k.enabled = true → k.token = true → ¬ starts → exec (.zaSlotTokenGo .registrar b) s = .next s) ∧
      (k.enabled = true → k.token = false → k.phase.toNat ≤ k.period.toNat →
        (s.zaDue k = true ↔ s.span.toNat % (k.period.toNat + 1) = k.phase.toNat)) ∧
      (∀ base, (i, k) ∈ s.cfg.slots → s.zaDue k = true →
        ({ tb := 0, instant := BitVec.ofNat 64 (base + k.offsetNs.toNat), what := .solveTrigger b } : Compare)
          ∈ (s.armSolves base).tb.compares ++ (s.armSolves base).tb.fired) ∧
      (s.takeFired (.solveTrigger b) = none → exec (.solveTrigger b) s = .next s) ∧
      (∀ (at_ : Nat) (u : State), s.takeFired (.solveTrigger b) = some (at_, u) →
        (k.enabled = true → k.token = false → starts → z.activity = 0 → exec (.solveTrigger b) s = .next (started u (8 * at_) (at_ - k.offsetNs.toNat))) ∧
        (k.enabled = true → k.token = false → starts → z.activity ≠ 0 → exec (.solveTrigger b) s = .next (skipped u)) ∧
        (k.enabled = false ∨ k.token = true ∨ ¬ starts → exec (.solveTrigger b) s = .next u)) ∧
      exec (.zaSlotPostGo .host b n) s = .next s.hostRefused ∧ exec (.zaSlotTokenGo .host b) s = .next s.hostRefused) ∧
    (∀ p : Packet, s.takes p = true → s.replicates = false → s.refusesReplicated = false → param p.params 0 1 = i →
      (unusedZero p.params [(0, 1)] = true → k.enabled = true → k.token = true → starts → z.activity = 0 →
        exec (.zaToken p) s = .next (s.replied p 0x0402 [] fun t => (started t s.stamp125 stamp8, {}))) ∧
      (let n := param p.params 2 2
        let first := param p.params 4 2
        let off := param p.params 6 2
        let len := 16 + 8 * n
        let lots := lotsFor first off len
        unusedZero p.params [(0, 1), (2, 2), (4, 2), (6, 2)] = true → off % 8 = 0 → off < 4096 → n ≤ k.listCap.toNat → n < 4096 →
        first + (off + len + 4095) / 4096 ≤ 65536 → (∀ l ∈ lots, s.lot l = 2) →
        s.sound (0xF0000000 + 4096 * first + off) len = true →
        (z.pending = false → exec (.zaPost p) s = .next (s.replied p 0x0401 lots fun t =>
          ((t.copyMem (s.zaAddr i k.listAt) (s.octets (0xF0000000 + 4096 * first + off) len) false).setSlot i
            { z with pending := true, entries := BitVec.ofNat 12 n }, { r0 := BitVec.ofNat 32 n }))) ∧
        (z.pending = true → exec (.zaPost p) s = .next (s.replied p 0x0401 lots fun t =>
          (t.setSlot i { z with postOverrun := inc z.postOverrun }, { status := 0x000B })))) ∧
      (let first := param p.params 2 2
        let len := 36 + 4 * k.n.toNat + 8 * k.m.toNat
        let lots := lotsFor first 0 len
        let from_ := s.zaAddr i (if z.buffer then k.result1At else k.result0At)
        unusedZero p.params [(0, 1), (2, 2)] = true → first + lots.length ≤ 65536 → (∀ l ∈ lots, s.lot l = 2) →
        (z.posted = false → exec (.zaResult p) s = .next (s.replied p 0x0403 lots fun t => (t, { status := 0x000D }))) ∧
        (z.posted = true → s.sound from_ len = true →
          ∃ r1, exec (.zaResult p) s = .next (s.replied p 0x0403 lots fun t =>
            (t.copyMem (0xF0000000 + 4096 * first) (s.octets from_ len) false, { r0 := z.last.seq, r1 := r1 })))))

/-- A queued solve starts, refactorises, iterates and posts its result, or ends at its deadline as its phase says. -/
def Obligations.SolvesRunToTheirResults : Prop :=
  ∀ (s : State) (lane : BitVec 5), s.cfg.classOf 0x0104 = 1 →
    let n := lane.toNat
    let ln := s.lane n
    let inTime := (∀ e ∈ ln.queue, s.solvePast e = false) ∧ ∀ v, ln.run = some v → s.solvePast v = false ∨ v.missed = true
    (inTime → ∀ e rest, ln.queue = e :: rest → ln.run = none → (∀ h ∈ s.ts.held, h.lane ≠ some lane) →
      let i := e.slot.toNat
      let z := s.slot i
      ∃ t v, exec (.solveStart lane) s = .next t ∧ (t.lane n).queue = rest ∧ (t.lane n).run = some v
        ∧ v.slot = e.slot ∧ v.deadline = e.deadline ∧ v.span = s.span32 ∧ v.iteration = e.iteration
        ∧ (t.slot i).pending = false ∧ (t.slot i).activity = 2 ∧ t.mem = s.mem
        ∧ (∀ j, j ≠ i → t.slot j = s.slot j) ∧ (∀ m, m ≠ n → t.lane m = s.lane m)
        ∧ (v.ending = .running ∨ v.ending = .rejected)
        ∧ (v.ending = .rejected → z.pending = true ∧ (t.slot i).problem = z.problem ∧ v.phase = .posting)
        ∧ (z.pending = false → v.ending = .running ∧ (t.slot i).problem = z.problem)
        ∧ (v.ending = .running → z.refactorPending = true ∨ z.factorOf.valid = false → v.phase = .refactor ∧ v.owes = true)
        ∧ (t.slot i).refactorPending = z.refactorPending ∧ s.stamp125 ≤ v.listEnd ∧ v.listEnd ≤ v.setEnd) ∧
    (inTime → ln.queue = [] ∨ ln.run ≠ none ∨ (∃ h ∈ s.ts.held, h.lane = some lane) → exec (.solveStart lane) s = .next s) ∧
    (inTime → (∀ v, ln.run = some v → v.phase ≠ .refactor) → exec (.refactorisationComplete lane) s = .next s) ∧
    (inTime → (∀ v, ln.run = some v → v.phase ≠ .iterate) → exec (.iterationComplete lane) s = .next s) ∧
    (inTime → (∀ v, ln.run = some v → v.phase ≠ .posting) → exec (.solvePosting lane) s = .next s) ∧
    (inTime → ∀ b : BitVec 7, b.toNat / 4 = n → exec (.solveDeadline b) s = .next s) ∧
    (∀ v, ln.run = some v →
      let i := v.slot.toNat
      let z := s.slot i
      let k := s.slotCfg i
      let kept := fun (t : State) => t = { s with za := t.za, memc := if s.zaPoisoned i then { s.memc with poisoned := inc s.memc.poisoned } else s.memc }
      (inTime → v.phase = .refactor →
        ∃ t w, exec (.refactorisationComplete lane) s = .next t ∧ (t.lane n).run = some w ∧ w.phase = .iterate ∧ kept t
          ∧ (s.zaPoisoned i = false → w.refactored = true ∧ (t.slot i).active = (!z.active) ∧ (t.slot i).factorOf = k.factorise z.problem
              ∧ (t.slot i).factorOf.valid = true ∧ (t.slot i).refactorPending = false)
          ∧ (s.zaPoisoned i = true → w.poisoned = true ∧ (t.slot i).active = z.active ∧ (t.slot i).factorOf = z.factorOf
              ∧ (t.slot i).refactorPending = true)) ∧
      (inTime → v.phase = .iterate →
        ∃ t w, exec (.iterationComplete lane) s = .next t ∧ (t.lane n).run = some w ∧ w.iteration = v.iteration + 1
          ∧ w.it = (k.iterate z.problem z.factorOf v.it).1 ∧ w.phase = (if v.iteration + 1 = k.nIt then .posting else .iterate)
          ∧ w.poisoned = (v.poisoned || s.zaPoisoned i) ∧ kept t
          ∧ (s.zaPoisoned i = true → (t.slot i).factorOf.valid = false)) ∧
      (inTime → v.phase = .posting → i / 4 = n →
        ∃ t, exec (.solvePosting lane) s = .next t ∧ (t.lane n).run = none ∧ (t.lane n).solves = inc ln.solves
          ∧ (t.slot i).buffer = (!z.buffer) ∧ (t.slot i).posted = true ∧ (t.slot i).activity = 0
          ∧ (t.slot i).last.seq = z.last.seq + 1 ∧ (t.slot i).last.tag = v.tag ∧ (t.slot i).last.span = v.span
          ∧ (v.ending = .rejected → (t.slot i).last.status = 5)
          ∧ (v.ending = .stale → (t.slot i).last.status = 3)
          ∧ (v.ending = .truncated → z.factorOf.saturated = false → v.poisoned = false → (t.slot i).last.status = 2
            ∧ (t.slot i).last.x = v.it.x ∧ (t.slot i).last.iterations = v.iteration)
          ∧ (v.ending = .running ∨ v.ending = .late → z.factorOf.saturated = false → v.poisoned = false → (t.slot i).last.status = 1
            ∧ (t.slot i).last.x = v.it.x ∧ (t.slot i).last.y = v.it.y ∧ (t.slot i).last.iterations = v.iteration)
          ∧ (v.ending ≠ .rejected → v.ending ≠ .stale → z.factorOf.saturated = true ∨ v.poisoned = true → (t.slot i).last.status = 4)) ∧
      (s.solvePast v = true → v.missed = false → i / 4 = n → (∀ e ∈ ln.queue, s.solvePast e = false) →
        ∃ t w, exec (.solveDeadline v.slot) s = .next t ∧ (t.lane n).run = some w ∧ w.missed = true ∧ w.it = v.it
          ∧ t.dev.za.overruns = inc s.dev.za.overruns
          ∧ (v.phase = .iterate → v.setEnd ≤ v.deadline.toNat * 8 → w.ending = .truncated ∧ w.phase = .posting ∧ t.slot i = z)
          ∧ (v.phase = .refactor ∨ v.phase = .iterate ∧ v.deadline.toNat * 8 < v.setEnd → w.ending = .stale ∧ w.phase = .posting
            ∧ t.slot i = { z with refactorPending := z.refactorPending || v.owes })
          ∧ (v.phase = .posting → v.ending = .running → w.ending = .late ∧ w.phase = .posting ∧ t.slot i = z))) ∧
    (∀ e ∈ ln.queue, e.slot.toNat / 4 = n → s.solvePast e = true → (∀ x ∈ ln.queue, x.slot ≠ e.slot → s.solvePast x = false) →
      (∀ v, ln.run = some v → s.solvePast v = false ∨ v.missed = true) →
      ∃ t, exec (.solveDeadline e.slot) s = .next t ∧ (∀ x ∈ (t.lane n).queue, x.slot ≠ e.slot) ∧ (t.lane n).run = ln.run
        ∧ (t.slot e.slot.toNat).last.status = 3 ∧ (t.slot e.slot.toNat).pending = (s.slot e.slot.toNat).pending)

/-- SAF_STATUS reports, SAF_STAGE and SAF_ACCEPT bring in a section step by step, SAF_RESTART and SAF_OUTPUT act on Warden. -/
def Obligations.SafetyCommandsAnswerByTheirConditions : Prop :=
  ∀ (s : State) (p : Packet), s.takes p = true → s.replicates = false → s.refusesReplicated = false →
    let answer := fun (op st : W16) => s.replied p op [] fun t => (t, { status := st })
    (unusedZero p.params [] = true → ∃ a : Answer, exec (.safStatus p) s = .next (s.replied p 0x0A01 [] fun t => (t, a))
      ∧ a.status = 0 ∧ a.r1 = s.saf.sectionA ∧ a.r2 = s.saf.sectionB
      ∧ a.r0.getLsbD 31 = s.saf.wardenOk ∧ a.r0.getLsbD 30 = s.saf.parapetOk ∧ a.r0.getLsbD 29 = s.sectionMatch ∧ a.r0.getLsbD 28 = s.saf.lockstepErr) ∧
    (let crc := BitVec.ofNat 32 (param p.params 0 4)
      let allowed := s.dev.cell = .loaded ∨ s.dev.cell = .parked
      unusedZero p.params [(0, 4)] = true →
      (¬ allowed → exec (.safStage p) s = .next (answer 0x0A02 0x0004)) ∧
      (allowed → crc ≠ s.cfg.safety.sectionCrc → exec (.safStage p) s = .next (answer 0x0A02 0x0008)) ∧
      (allowed → crc = s.cfg.safety.sectionCrc → s.par.up = false → exec (.safStage p) s = .next (answer 0x0A02 0x000E)) ∧
      (allowed → crc = s.cfg.safety.sectionCrc → s.par.up = true →
        ∃ v : ParState, exec (.safStage p) s = .next (s.replied p 0x0A02 [] fun t => ({ t with par := v }, {}))
          ∧ v.staged = some (decide (s.par.selected = some false), s.par.clock) ∧ v.selected = s.par.selected
          ∧ (let c := if s.par.selected = some false then v.copyB else v.copyA
            c.complete = false ∧ c.crc = crc ∧ c.section_ = s.cfg.safety)
          ∧ (if s.par.selected = some false then v.copyA = s.par.copyA else v.copyB = s.par.copyB)) ∧
      (s.par.staged = none → exec (.safAccept p) s = .next (answer 0x0A03 0x0004)) ∧
      (∀ (b : Bool) (at_ : W64), s.par.staged = some (b, at_) →
        let c := if b then s.par.copyB else s.par.copyA
        let o := if b then s.par.copyA else s.par.copyB
        let fresh_ := allowed ∧ (s.par.clock - at_).toNat ≤ 600000000000
        (¬ fresh_ → exec (.safAccept p) s = .next (answer 0x0A03 0x0004)) ∧
        (fresh_ → crc ≠ c.crc ∨ crc ≠ s.saf.sectionA → exec (.safAccept p) s = .next (answer 0x0A03 0x0008)) ∧
        (fresh_ → crc = c.crc → crc = s.saf.sectionA → s.keyHeld = false → exec (.safAccept p) s = .next (answer 0x0A03 0x0009)) ∧
        (fresh_ → crc = c.crc → crc = s.saf.sectionA → s.keyHeld = true → s.cfg.classOf 0x0C09 = 1 →
          ∃ (v : ParState) (e : Record), exec (.safAccept p) s
              = .next (s.replied p 0x0A03 [] fun t => ({ t with par := v, evt := { t.evt with queue := t.evt.queue ++ [e] } }, {}))
            ∧ e.code = 0x0C09 ∧ v.staged = none ∧ v.switchTo = some b
            ∧ (if b then v.copyB else v.copyA) = { c with seq := o.seq + 1, complete := true }
            ∧ (if b then v.copyA else v.copyB) = o))) ∧
    (let a := param p.params 0 1
      let w := s.warm a
      unusedZero p.params [(0, 1)] = true → a < 8 →
      (w.prot = 0 → exec (.safRestart p) s = .next (answer 0x0A04 0x0004)) ∧
      (w.prot ≠ 0 → w.restartWait = false → exec (.safRestart p) s = .next (answer 0x0A04 0x0005)) ∧
      (w.prot ≠ 0 → w.restartWait = true → exec (.safRestart p) s = .next (s.replied p 0x0A04 [] fun t =>
        ((t.setWarm a { w with prot := 0, needRestart := false, restartWait := false, clearSince := none }).settle t, {})))) ∧
    (unusedZero p.params [(0, 1), (1, 1)] = true → ∃ u : State, exec (.safOutput p) s = .next (s.replied p 0x0A05 [] fun _ => (u, {}))
      ∧ ∀ n, n < 8 → ((param p.params 1 1).testBit n = true → (u.chOut .a n).request = (param p.params 0 1).testBit n)
        ∧ ((param p.params 1 1).testBit n = false → (u.chOut .a n).request = (s.chOut .a n).request)
        ∧ ((u.chOut .a n).request = false → (u.chOut .a n).closed = false)) ∧
    exec .stagedCopyLapse s = .next { s with par := { s.par with staged := none } }

/-- Each completed Warden span posts scales within its rules; overruns and lockstep mismatches stop the arms. -/
def Obligations.WardenScalesAndStopsEveryArm : Prop :=
  (∀ s : State, s.wardenUp = false ∨ s.wardenReady = false → exec .wardenRun s = .next s) ∧
  (∀ s : State, s.saf.loadedA = true → s.saf.halted = false → s.wardenReady = true →
    ∃ t, exec .wardenRun s = .next t ∧ t.saf.ran = true ∧ t.saf.firstRun = false ∧ t.saf.heartbeat = some s.span32
      ∧ t.saf.slack = bvS 32 (s.slackOf s.cfg.safety.wdnDeadline.toNat)
      ∧ ∀ a, a < 8 → (s.armModel a).present = true →
        let m := s.armModel a
        let o := s.lookAt a
        let prev := if s.saf.firstRun then 0 else (s.warm a).scale.toNat
        (∀ x ∈ o.pairs, 0 < x.vnom → (((t.warm a).scale.toNat : Int) ≤ max 0 (floorDiv (x.allow * 32768) x.vnom)))
        ∧ (t.warm a).scale.toNat ≤ prev + m.sRise.toNat ∧ (t.warm a).scale.toNat ≤ 0x7FFF
        ∧ (o.lost = true ∨ o.unfit = true ∨ (∃ x ∈ o.pairs, x.bad = true ∨ x.ratio < (m.sMin.toNat : Int)) → (t.warm a).prot ≠ 0)
        ∧ ((t.warm a).prot ≠ 0 → (t.warm a).scale = 0)) ∧
  (∀ s : State, s.came .wardenDeadline = false → exec .wardenDeadline s = .next s) ∧
  (∀ s : State, s.came .wardenDeadline = true →
    (s.saf.ran = true ∨ s.saf.late = true ∨ s.saf.loadedA = false → exec .wardenDeadline s = .next (s.disarm .wardenDeadline)) ∧
    (s.saf.ran = false → s.saf.late = false → s.saf.loadedA = true → s.saf.halted = true →
      exec .wardenDeadline s = .next { s.disarm .wardenDeadline with saf := { s.saf with late := true } }) ∧
    (s.saf.ran = false → s.saf.late = false → s.saf.loadedA = true → s.saf.halted = false → ∃ t, exec .wardenDeadline s = .next t ∧ t.saf.late = true ∧ t.saf.overruns = inc s.saf.overruns
      ∧ t.saf.overrunRun = s.saf.overrunRun + 1 ∧ t.saf.wardenOk = false
      ∧ (1 ≤ s.saf.overrunRun → ∀ a, a < 8 → (s.armModel a).present = true →
        2 ≤ (t.warm a).prot.toNat ∧ (t.warm a).needRestart = true))) ∧
  (∀ s : State, s.saf.halted = false → s.pwr.inReset = false → s.pwr.dormant = false → s.cfg.classOf 0x0C04 = 4 →
    ∃ t, exec .wardenLockstep s = .next t ∧ t.saf.halted = true ∧ t.saf.lockstepErr = true ∧ t.saf.wardenOk = false
      ∧ (∀ n, n < 8 → (t.chOut .a n).closed = false)
      ∧ (s.dev.cell ≠ .uncatalogued → s.dev.cell ≠ .loaded → t.dev.cell = .fault)) ∧
  (∀ s : State, s.saf.halted = true ∨ s.pwr.inReset = true ∨ s.pwr.dormant = true → exec .wardenLockstep s = .next s)

/-- The Parapet accepts containers by its own tests, keeps its copy of TB0 by span marks and completes outgoing containers. -/
def Obligations.ParapetTakesContainersAndMarks : Prop :=
  (∀ (k : SafConn) (ch : Channel) (c : ConnCfg) (o : Octets) (now : W32) (low : Int),
    let old := k.expired c.tWdNs now
    let n := (k.take ch c o now low).1
    let took := (k.take ch c o now low).2
    (tests125 ch c o now low = false → n = { old with run := 0 } ∧ took = .refused) ∧
    (tests125 ch c o now low = true → old.started = false →
      n.started = true ∧ n.lastSeq = u16 o 1 ∧ n.lastStamp = u32 o 3 ∧ n.state = old.state ∧ took = .refused) ∧
    (tests125 ch c o now low = true → old.started = true → 2 ^ 31 ≤ (u32 o 3 - old.lastStamp).toNat → n = { old with run := 0 } ∧ took = .refused) ∧
    (tests125 ch c o now low = true → old.started = true → (u32 o 3 - old.lastStamp).toNat < 2 ^ 31 →
      let valid := c.kind ≠ .safeState ∨ (u8 o 13).getLsbD 5 = true
      (u16 o 1 = old.lastSeq + 1 → ¬ valid → n = { old with run := 0 } ∧ took = .refused) ∧
      (u16 o 1 = old.lastSeq ∨ 32768 < (u16 o 1 - old.lastSeq).toNat → n = { old with run := 0 } ∧ took = .refused) ∧
      (u16 o 1 = old.lastSeq + 1 → valid → took = .accepted ∧ n.payload = sliceO o 7 8 ∧ n.newest = u32 o 3
        ∧ (old.state ≠ .safe → n.state = .accepted) ∧ (old.state = .safe → old.run = 0 → n.state = .safe ∧ n.run = 1)
        ∧ (old.state = .safe → 1 ≤ old.run → n.state = .accepted)) ∧
      (2 ≤ (u16 o 1 - old.lastSeq).toNat → (u16 o 1 - old.lastSeq).toNat ≤ 32768 →
        took = .resynchronised ∧ n.lastSeq = u16 o 1 ∧ n.run = 0 ∧ n.state = old.state ∧ n.payload = old.payload
        ∧ n.resync = some (match old.resync with | some q => c.kind.join q (sliceO o 7 8) | none => sliceO o 7 8)))) ∧
  (∀ (s : State) (conn : BitVec 8) (o : Octets) (now : W32),
    let n := conn.toNat
    let c := s.parConn n
    s.parNow = some now → s.par.up = true → c.used = true → c.parapet = true → c.plantTime = false →
    ∃ t, exec (.parapetContainerReceived conn o) s = .next t ∧ t.pconn n = ((s.pconn n).take .b c o now (-2000)).1
      ∧ (∀ m, m ≠ n → t.pconn m = s.pconn m) ∧ t.mem = s.mem ∧ t.tb = s.tb) ∧
  (∀ (s : State) (conn : BitVec 8) (o : Octets), let c := s.parConn conn.toNat
    s.parNow = none ∨ s.par.up = false ∨ c.used = false ∨ c.parapet = false ∨ c.plantTime = true →
    exec (.parapetContainerReceived conn o) s = .next s) ∧
  (∀ (s : State) (conn : BitVec 8) (d o : Octets),
    let n := conn.toNat
    let c := s.connCfg n
    (Table.get {} s.saf.outConns n : OutConn).draft = some d → d.length = 24 → o.length = 24 → c.kind = .demand → (s.parConn n).kind = .demand →
    s.par.up = true → s.saf.halted = false →
    ∃ t, exec (.demandOctetsReceived conn o) s = .next t ∧ t = { s with saf := t.saf } ∧
      let r := (Table.get {} t.saf.outConns n : OutConn)
      r.draft = none ∧ r.octets.length = 24 ∧ u8 r.octets 8 = s.demandB (s.parConn n).arm.toNat
        ∧ u32 r.octets 15 = checkA c.identity r.octets
        ∧ (sliceO o 0 8 = sliceO d 0 8 → sliceO o 9 6 = sliceO d 9 6 → u32 r.octets 19 = checkB (s.parConn n).identity r.octets)) ∧
  (∀ (s : State) (mark : W32), s.par.up = true →
    (s.parNow = none → ∃ t, exec (.spanMarkReceived mark) s = .next t ∧ t = { s with par := t.par } ∧ t.parNow = some mark ∧ t.par.ignored = 0) ∧
    (∀ copy, s.parNow = some copy →
      let diff := (mark - copy).toInt
      let ringConns := fun (t : State) (f : SafConn → SafConn) => ∀ e ∈ s.parConns, e.2.plant = false → t.pconn e.1 = f (s.pconn e.1)
      (s.par.ignored < 8 → -2000 ≤ diff → diff ≤ 2000 → ∃ t, exec (.spanMarkReceived mark) s = .next t ∧ t = { s with par := t.par }
        ∧ t.par.ignored = 0 ∧ t.par.conns = s.par.conns) ∧
      (s.par.ignored < 7 → diff < -2000 ∨ 2000 < diff → ∃ t, exec (.spanMarkReceived mark) s = .next t ∧ t = { s with par := t.par }
        ∧ t.par.ignored = s.par.ignored + 1 ∧ t.parNow = s.parNow ∧ t.par.conns = s.par.conns) ∧
      (s.par.ignored = 7 → diff < -2000 ∨ 2000 < diff → ∃ t, exec (.spanMarkReceived mark) s = .next t
        ∧ t.par.ignored = 8 ∧ ringConns t (fun k => { k with state := .safe, run := 0 })) ∧
      (8 ≤ s.par.ignored → ∃ t, exec (.spanMarkReceived mark) s = .next t ∧ t.par.ignored = 0 ∧ t.parNow = some mark ∧ ringConns t (fun _ => {}))) ∧
    (∀ r : BitVec 4, ∃ t, exec (.integrationMarkReceived r) s = .next t ∧ t.tb = s.tb
      ∧ (∀ e ∈ s.parConns, e.2.plant = false → e.2.ring = r → t.pconn e.1 = {}))) ∧
  (∀ (s : State) (conn : BitVec 8),
    let n := conn.toNat
    (∃ t, exec (.connectionWatchdogExpiry .a conn) s = .next t ∧ t.wconn n = (s.wconn n).expired (s.connCfg n).tWdNs (s.wardenNow (s.connCfg n))
      ∧ ∀ m, m ≠ n → t.wconn m = s.wconn m) ∧
    (∀ now, s.parNow = some now →
      ∃ t, exec (.connectionWatchdogExpiry .b conn) s = .next t ∧ t.pconn n = (s.pconn n).expired (s.parConn n).tWdNs now
        ∧ ∀ m, m ≠ n → t.pconn m = s.pconn m))

/-- The Parapet judges joints in its zone, holds violations, watches the heartbeats and reports over its status path. -/
def Obligations.ParapetEvaluatesAndWatches : Prop :=
  (∀ s : State, s.par.up = true →
    let lowOpen := fun (t : State) => ∀ n, n < 8 → (t.chOut .b n).closed = false
    (∀ pass : Bool, s.par.switchTo = none → s.par.clearDue = false →
      ∃ t, exec (.parapetEvaluation pass) s = .next t ∧ t.par.zone = s.zoneNow
        ∧ t.par.zoneChanges = (if s.zoneNow = s.par.zone then s.par.zoneChanges else inc s.par.zoneChanges)
        ∧ (∀ a, a < 8 → (t.parm a).violating = (s.changeZone s.zoneNow).armViolates a
          ∧ (t.parm a).holding = ((s.parm a).holding || (s.changeZone s.zoneNow).armViolates a))
        ∧ (pass = false → t.par.internalFault = true ∧ lowOpen t)
        ∧ (pass = true → t.par.internalFault = s.par.internalFault)) ∧
    exec .graceEnd s = .next { s with par := { s.par with oldZone := none } } ∧
    (∀ a : BitVec 3,
      ((s.parm a.toNat).violating = true → exec (.parapetHoldEnd a) s = .next s) ∧
      ((s.parm a.toNat).violating = false → ∃ t, exec (.parapetHoldEnd a) s = .next t ∧ (t.parm a.toNat).holding = false
        ∧ ∀ b, b ≠ a.toNat → t.parm b = s.parm b)) ∧
    (s.par.beating = true →
      (∃ t, exec .wardenSilent s = .next t ∧ t.par.beating = false ∧ t.par.beatsGood = false ∧ t.par.silent = inc s.par.silent ∧ lowOpen t) ∧
      (∃ t, exec .heartbeatRestored s = .next t ∧ t.par.beatsGood = true)) ∧
    (∀ (span : W32) (gap : Nat), ∃ t, exec (.heartbeatReceived span gap) s = .next t ∧ t.par.firstBeat = true ∧ t.par.beating = true
      ∧ (s.par.firstBeat = true → s.par.beating = true → s.beatGap gap = true → t.par.silent = inc s.par.silent ∧ t.par.beatsGood = false)
      ∧ (s.par.firstBeat = false ∨ s.par.beating = false ∨ s.beatGap gap = false → t.par.silent = s.par.silent ∧ t.par.beatsGood = s.par.beatsGood)) ∧
    (s.pwr.inReset = false → s.pwr.dormant = false → ∃ t, exec .parapetStatusReport s = .next t
      ∧ t.saf.zone = s.par.zone ∧ t.saf.violations = s.par.violations ∧ t.saf.silent = s.par.silent ∧ t.saf.zoneChanges = s.par.zoneChanges
      ∧ t.saf.parapetOk = (!s.par.internalFault) ∧ t.par.onsets = [] ∧ t.par.toReport = []
      ∧ (∀ a, a < 8 → (t.warm a).parDemand = ((s.parm a).violating || (s.parm a).holding)) ∧ t.saf.siB = s.siBNow
      ∧ (∀ b, s.par.selected = some b → t.saf.reportedB = true ∧ t.saf.sectionB = (if b then s.par.copyB.crc else s.par.copyA.crc))
      ∧ (s.par.selected = none → t.saf.sectionB = s.saf.sectionB)) ∧
    (∃ t, exec .parapetStatusTimeout s = .next t ∧ t.saf = { s.saf with parapetOk := false } ∧ t = { s with saf := t.saf, hq := t.hq }) ∧
    (∃ t, exec .parapetReset s = .next t ∧ t.par.up = false ∧ t.par.staged = none ∧ lowOpen t ∧ t.saf.reportedB = false
      ∧ t.par.copyA = s.par.copyA ∧ t.par.copyB = s.par.copyB ∧ t.pwr = { s.pwr with causeParapet := true, parapets := inc s.pwr.parapets }) ∧
    (let d : State := { s with par := { s.par with up := false } }
      ∃ t, exec .parapetStart d = .next t ∧ t.par.up = true ∧ t.par.copyA = s.par.copyA ∧ t.par.copyB = s.par.copyB
        ∧ t.par.selected = s.par.newest ∧ t.parNow = none ∧ t.par.startedAt = s.par.clock ∧ t.par.log = s.par.log ∧ lowOpen t)) ∧
  (∀ s : State, s.par.up = false → (∀ pass, exec (.parapetEvaluation pass) s = .next s) ∧ exec .wardenSilent s = .next s
    ∧ exec .heartbeatRestored s = .next s ∧ (∀ span gap, exec (.heartbeatReceived span gap) s = .next s) ∧ exec .parapetStatusReport s = .next s)

/-- After every change of a safe input or output a switch stays closed only under its permit or its off delay, and faults open their switches. -/
def Obligations.SafeInputsAndOutputsFollowTheirFaults : Prop :=
  ∀ (s : State) (ch : Channel) (i : BitVec 4) (o : BitVec 3),
    let n := i.toNat
    let m := o.toNat
    let other := otherChannel ch
    let settled := fun (t : State) => ∀ (c : Channel) (j : Nat), j < 8 → (t.chOut c j).closed = true →
      t.heldOpen c = false ∧ (t.permit c j = true ∨ (t.chOut c j).delaying = true)
    let bothShut := fun (t : State) => (t.chOut ch m).fault = true ∧ (t.chOut other m).fault = true ∧ (t.chOut ch m).closed = false ∧ (t.chOut other m).closed = false
    (∀ (f : Nat) (p : SafPin) (level : Bool), p.sample f true level = { p with raw := level } ∧
      let q := p.sample f false level
      let held := if p.level = level then p.run + 1 else 1
      q.raw = level ∧ q.level = level ∧ q.high = (if f ≤ held then some level else p.high)) ∧
    (∀ samples : List Bool,
      let k := s.siCfg ch n
      let u := s.chIn ch n
      (s.channelUp ch = true →
        (∃ t, exec (.safeInputChange ch i false samples) s = .next t ∧ (t.chIn ch n).a = s.filterPin ch n k.tpA u.a samples ∧ (t.chIn ch n).b = u.b ∧ settled t) ∧
        (∃ t, exec (.safeInputChange ch i true samples) s = .next t ∧ (t.chIn ch n).b = s.filterPin ch n k.tpB u.b samples ∧ (t.chIn ch n).a = u.a ∧ settled t)) ∧
      (s.channelUp ch = false → ∀ b, exec (.safeInputChange ch i b samples) s = .next s)) ∧
    (ch = .a ∨ s.par.up = true → (s.siCfg ch n).role ≠ .unused → (s.pinsShut ch n).1 ≠ (s.pinsShut ch n).2 → (s.chIn ch n).discrepancy = false →
      ∃ t, exec (.discrepancyFault ch i) s = .next t ∧ (t.chIn ch n).discrepancy = true ∧ t.inputShut ch n = false ∧ settled t
        ∧ (ch = .a → t.saf.discA = inc s.saf.discA) ∧ (ch = .b → t.par.disc = inc s.par.disc)) ∧
    (∀ (tp : BitVec 2) (high : BitVec 32), s.channelUp ch = true →
      (∃ t, exec (.testPulse ch tp false high) s = .next t ∧ t.source ch tp.toNat = { s.source ch tp.toNat with fault := true, good := 0 } ∧ settled t) ∧
      ((s.source ch tp.toNat).fault = false → (s.siCfg ch n).role ≠ .unused → s.virtualOf ch n = none → (s.siCfg ch n).tpA = some tp →
        (s.chIn ch n).a.high = some true → high.getLsbD n = true →
        ∃ t, exec (.testPulse ch tp true high) s = .next t ∧ (t.chIn ch n).testPulse = true ∧ t.inputShut ch n = false ∧ settled t)) ∧
    ((s.chOut ch m).delaying = true → ∃ t, exec (.offDelayExpiry ch o) s = .next t ∧ settled t
      ∧ ((t.chOut ch m).closed = true → t.permit ch m = true)) ∧
    ((s.chOut ch m).testing = false →
      ((s.chOut ch m).closed = false → ∃ t, exec (.outputReadbackFault o ch true) s = .next t ∧ bothShut t ∧ settled t) ∧
      ((s.chOut ch m).closed = true → ∃ t, exec (.outputReadbackFault o ch false) s = .next t ∧ (t.chOut ch m).fault = true
        ∧ (t.chOut ch m).closed = false ∧ settled t)) ∧
    (∃ t, exec (.safeOutputOverload o ch) s = .next t ∧ bothShut t ∧ settled t) ∧
    ((s.soCfg ch m).dark = true → (s.chOut ch m).closed = true → s.heldOpen ch = false →
      exec (.darkTest ch o) s = .next (s.setChOut ch m { s.chOut ch m with testing := true, reads := false })) ∧
    ((s.chOut ch m).testing = true →
      (∃ t, exec (.darkTestEnd ch o true) s = .next t ∧ (t.chOut ch m).testing = false ∧ settled t) ∧
      (∃ t, exec (.darkTestEnd ch o false) s = .next t ∧ bothShut t ∧ settled t)) ∧
    (∀ level : Bool, let idle := level && s.par.staged.isNone
      exec (.safKeyChange .a level) s = .next { s with saf := { s.saf with
        keyLevel := level, keySince := s.tb.tb0.ns, keyCount := if idle then inc s.saf.keyCount else s.saf.keyCount } } ∧
      (s.par.up = true → exec (.safKeyChange .b level) s = .next { s with par := { s.par with
        keyLevel := level, keySince := s.par.clock, keyCount := if idle then inc s.par.keyCount else s.par.keyCount } }))

/-- DIO writes set output pins only, frames switch them, faults and the watchdog take them off or safe, and filters take samples. -/
def Obligations.FieldPinsFollowWritesFramesAndFaults : Prop :=
  ∀ s : State,
    let only := fun (t : State) => t = { s with dio := t.dio }
    let setBits := fun (t : State) (f : Nat → Bool → Bool) => ∀ p, p < 48 →
      t.dio.out.getLsbD p = if (s.pinCfg p).output then f p (s.dio.out.getLsbD p) else s.dio.out.getLsbD p
    (∀ (who : Requester) (v : W32), who ≠ .host →
      (∃ t, exec (.dioOutWrite who false v) s = .next t ∧ only t ∧ setBits t (fun p b => if p < 32 then v.getLsbD p else b)) ∧
      (∃ t, exec (.dioOutWrite who true v) s = .next t ∧ only t ∧ setBits t (fun p b => if 32 ≤ p then v.getLsbD (p - 32) else b)) ∧
      (∃ t, exec (.dioOutSet who false v) s = .next t ∧ only t ∧ setBits t (fun p b => b || v.getLsbD p)) ∧
      (∃ t, exec (.dioOutSet who true v) s = .next t ∧ only t ∧ setBits t (fun p b => b || (decide (32 ≤ p) && v.getLsbD (p - 32)))) ∧
      (∃ t, exec (.dioOutClr who false v) s = .next t ∧ only t ∧ setBits t (fun p b => b && !v.getLsbD p)) ∧
      (∃ t, exec (.dioOutClr who true v) s = .next t ∧ only t ∧ setBits t (fun p b => b && !(decide (32 ≤ p) && v.getLsbD (p - 32))))) ∧
    (∀ (hi : Bool) (v : W32), exec (.dioOutWrite .host hi v) s = .next s.hostRefused ∧ exec (.dioOutSet .host hi v) s = .next s.hostRefused
      ∧ exec (.dioOutClr .host hi v) s = .next s.hostRefused) ∧
    (∀ p : Packet, s.takes p = true → s.replicates = false → s.refusesReplicated = false →
      (dioMasksGood p.params = true → ∃ u : State, exec (.dioWrite p) s = .next (s.replied p 0x0601 [] fun _ => (u, {}))
        ∧ u = { s.taken p 0x0601 [] with dio := u.dio }
        ∧ setBits u (fun i b => if (param p.params 0 8).testBit i then true else b && !(param p.params 8 8).testBit i)) ∧
      (unusedZero p.params [] = true → exec (.dioClear p) s
        = .next (s.replied p 0x0602 [] fun t => ({ t with dio := { t.dio with fault := false, clearReq := true } }, {})))) ∧
    (∀ good : Bool, s.pwr.inReset = true ∨ s.pwr.dormant = true → exec (.exchangeFrame good) s = .next s) ∧
    (let u := if s.dev.cell = .uncatalogued then s.sendFrame else s
      let f := u.dio.frame
      let d := u.dio.die
      (∀ good : Bool, s.pwr.inReset = false → s.pwr.dormant = false → (good = false ∨ d.lastSeq = some f.seq) → exec (.exchangeFrame good) s
        = .next { s with dio := { u.dio with die := { d with frameErr := d.frameErr + 1, goodFrames := 0 } } }) ∧
      (s.pwr.inReset = false → s.pwr.dormant = false → d.lastSeq ≠ some f.seq → ∃ t, exec (.exchangeFrame true) s = .next t ∧ only t ∧ t.dio.die.lastSeq = some f.seq
        ∧ t.dio.die.image = f.image ∧ t.dio.out = s.dio.out ∧ t.dio.die.answerDue = true ∧ t.dio.die.safe = (d.safe && decide (d.goodFrames ≠ 7))
        ∧ (f.clear = true → t.dio.die.latchedOff = 0)
        ∧ (f.catalogued = true → f.faultSafe = false → (d.safe = true → d.goodFrames = 7) → ∀ p, p < 48 →
          t.dio.die.outputs.getLsbD p = ((s.pinCfg p).output && s.groupAlive p && (f.clear || !d.latchedOff.getLsbD p) && f.image.getLsbD p)))) ∧
    (s.dio.die.answerDue = true →
      (∃ t, exec (.exchangeAnswer true) s = .next t ∧ t.dio.received = some s.inputAnswer ∧ t.dio.die.answerDue = false
        ∧ t.dio.fault = (s.dio.fault || decide (s.dio.die.faultDue ≠ 0)) ∧ t.dio.wdExpired = (s.dio.wdExpired || decide (s.dio.die.expiryDue ≠ 0))
        ∧ t.dio.safeActive = s.dio.die.safe ∧ t.dio.inputs = s.dio.inputs ∧ t.dio.out = s.dio.out) ∧
      exec (.exchangeAnswer false) s
        = .next { s with dio := { s.dio with frameErr := inc s.dio.frameErr, die := { s.dio.die with answerDue := false } } }) ∧
    (s.came .inPublish = true → ∀ img, s.dio.received = some img →
      exec .dioInPublish s = .next { s with
        tb := (s.disarm .inPublish).tb, dio := { s.dio with inputs := img, received := none }
        red := if s.cfg.pair.pair = true ∧ s.red.role = .active then { s.red with outbox := s.red.outbox ++ [.fieldImage img] } else s.red }) ∧
    (s.came .inPublish = true → s.dio.received = none → exec .dioInPublish s = .next (s.disarm .inPublish)) ∧
    (s.came .inPublish = false → exec .dioInPublish s = .next s) ∧
    (∀ (pin : BitVec 6) (group : Bool), pin.toNat < 48 → (s.dio.die.pin pin.toNat).output = true →
      ∃ t, exec (.fieldOutputFault pin group) s = .next t ∧ only t ∧ t.dio.die.faultDue = s.dio.die.faultDue + 1
        ∧ ∀ p, p < 48 → (s.dio.die.pin p).output = true → (if group then p / 8 = pin.toNat / 8 else p = pin.toNat) →
          t.dio.die.latchedOff.getLsbD p = true ∧ t.dio.die.outputs.getLsbD p = false) ∧
    (s.dio.die.safe = false → ∃ t, exec .fieldWatchdogExpiry s = .next t ∧ only t ∧ t.dio.die.safe = true
      ∧ t.dio.die.expiryDue = s.dio.die.expiryDue + 1
      ∧ ∀ p, p < 48 → t.dio.die.outputs.getLsbD p = ((s.dio.die.pin p).output && s.groupAlive p && !s.dio.die.latchedOff.getLsbD p
        && (if (s.dio.die.pin p).safe = 0 then false else if (s.dio.die.pin p).safe = 1 then true else s.dio.die.image.getLsbD p))) ∧
    (∀ (levels : BitVec 48) (continuous : Bool), ∃ t, exec (.dioSamplingPoint levels continuous) s = .next t ∧ only t
      ∧ t.dio.die.atInstant = (if s.tb.tb2.ns = s.dio.frame.tb2 then t.dio.die.filtered else s.dio.die.atInstant)
      ∧ ∀ p, p < 48 →
        let k := s.dio.die.pin p
        let level := s.groupAlive p && levels.getLsbD p
        let was := s.dio.die.filtered.getLsbD p
        let run := Table.get 0 s.dio.die.runs p
        let now := t.dio.die.filtered.getLsbD p
        (k.output = true ∨ k.continuous ≠ continuous → now = was ∧ Table.get 0 t.dio.die.runs p = run) ∧
        (k.output = false → k.continuous = continuous →
          (was = level → now = was ∧ Table.get 0 t.dio.die.runs p = 0) ∧
          (was ≠ level → k.filter.toNat ≤ run + 1 → now = level ∧ Table.get 0 t.dio.die.runs p = 0) ∧
          (was ≠ level → run + 1 < k.filter.toNat → now = was ∧ Table.get 0 t.dio.die.runs p = run + 1)))

/-- Vector arithmetic gives each lane its wrapped, saturated, rounded or counted value, moves A registers, and changes nothing else. -/
def Obligations.VectorInstructionsComputeTheirLanes : Prop :=
  ∀ (s : State) (n : BitVec 4) (f : FormatP),
    let c := s.core n.toNat
    let code := s.coreRuns n.toNat = true ∧ s.sound (vcBase + n.toNat * 0x100000 + 8 * c.pc.toNat) 8 = true
    let ready := fun (mv : Moves) => code ∧ mv.reserved = false
      ∧ ∀ e ∈ movesOf mv, e.2.store = false → s.sound (localWord n.toNat e.1 (c.areg (moveReg e.2 e.1)).toNat) 16 = true
    let lands := fun (v : BitVec 5) => c.loads.any (fun l => l.v == v)
    let frame := fun (mv : Moves) (t : State) =>
      let d := t.core n.toNat
      let g := c.flow
      t = { s with vc := { s.vc with cores := t.vc.cores }, mem := t.mem, memc := t.memc, fresh := t.fresh }
      ∧ (∀ k, k ≠ n.toNat → t.core k = s.core k)
      ∧ (∀ a, (∀ e ∈ movesOf mv, e.2.store = true →
          let w := localWord n.toNat e.1 (c.areg (moveReg e.2 e.1)).toNat
          a < w ∨ w + 16 ≤ a) → Table.get 0 t.mem a = Table.get 0 s.mem a)
      ∧ d = { c with
          v := d.v, a := d.a, ac := d.ac, pc := g.pc, loads := d.loads, transfer := g.transfer, rpt := g.rpt, rptTail := g.rptTail
          loops := g.loops, accSat := d.accSat, sat := d.sat, steps := c.steps + 1, itemSteps := c.itemSteps + 1
          stepDone := d.stepDone, breakHit := d.breakHit, watchHit := d.watchHit, sigAt := d.sigAt }
      ∧ (∀ k, (∀ e ∈ movesOf mv, moveReg e.2 e.1 ≠ k) → d.areg k = c.areg k)
      ∧ (∀ e ∈ movesOf mv, d.areg (moveReg e.2 e.1) = nextAddress (c.areg (moveReg e.2 e.1)) (c.oreg e.2.o.toNat) e.2.mode)
      ∧ d.loads.map (fun l => l.v) = ((movesOf mv).filter (fun e => !e.2.store)).map (fun e => e.2.v)
    let fits := fun (b : Nat) (x : Int) => -(2 ^ (b - 1) : Int) ≤ x ∧ x < (2 ^ (b - 1) : Int)
    let clamp := fun (b : Nat) (x : Int) => max (-(2 ^ (b - 1) : Int)) (min ((2 ^ (b - 1) : Int) - 1) x)
    let redundantBits := fun (b : Nat) (x : Int) (k : Nat) => k < b ∧ fits b (x * 2 ^ k) ∧ (k + 1 = b ∨ ¬ fits b (x * 2 ^ (k + 1)))
    let moved := fun (rnd : Bool) (count : Int) (x : Int) =>
      if 0 < count then (x + (if rnd then 2 ^ (count.toNat - 1) else 0)) / 2 ^ count.toNat else x * 2 ^ (-count).toNat
    let b := 16 * 2 ^ f.w.toNat
    let lane := fun (x : W128) (i : Nat) => x.extractLsb' (b * i) b
    let x := fun (i : Nat) => (lane (c.vreg f.va) i).toInt
    let y := fun (i : Nat) => (lane (c.vreg f.vb) i).toInt
    let writes := fun (t : State) (is : W128 → Prop) =>
      let d := t.core n.toNat
      frame f.mv t ∧ d.ac = c.ac ∧ d.accSat = c.accSat ∧ (∀ v, v ≠ f.vd → lands v = false → d.vreg v = c.vreg v) ∧ (lands f.vd = false → is (d.vreg f.vd))
    let gives := fun (i : Instr) (always : Bool) (g : Nat → Int) => ∃ t, exec i s = .next t
      ∧ writes t (fun r => ∀ i, i < 128 / b → lane r i = BitVec.ofInt b (if always || f.sat then clamp b (g i) else g i))
      ∧ ((t.core n.toNat).sat = true ↔ c.sat = true ∨ ((always || f.sat) = true ∧ ∃ i, i < 128 / b ∧ ¬ fits b (g i)))
    let quiet := fun (i : Instr) (is : W128 → Prop) => ∃ t, exec i s = .next t ∧ writes t is ∧ (t.core n.toNat).sat = c.sat
    (ready f.mv → quiet (.vectorMove n f) (fun r => r = c.vreg f.va)) ∧
    (ready f.mv → f.w ≠ 3 →
      gives (.vectorAdd n f) false (fun i => x i + y i) ∧
      gives (.vectorSubtract n f) false (fun i => x i - y i) ∧
      (∀ count : Int, gives (.shift n f count) false (fun i => moved f.rnd count (x i))) ∧
      gives (.mul n f) true (fun i => moved f.rnd (b - 1 : Nat) (x i * y i)) ∧
      quiet (.norm n f .lanes) (fun r => ∀ i, i < 128 / b → ∃ k, redundantBits b (x i) k ∧ lane r i = lane (c.vreg f.va) i <<< k) ∧
      quiet (.exp n f .lanes) (fun r => ∀ i, i < 128 / b → ∃ k, redundantBits b (x i) k ∧ lane r i = BitVec.ofNat b k) ∧
      quiet (.compare n f) (fun _ => True) ∧ quiet (.select n f) (fun _ => True) ∧
      (∀ op, quiet (.logic n op f) (fun _ => True))) ∧
    (code → f.mv.reserved = true ∨ f.w = 3 →
      exec (.vectorAdd n f) s = .next (s.coreFault n.toNat 6 0) ∧ exec (.vectorSubtract n f) s = .next (s.coreFault n.toNat 6 0) ∧
      exec (.mul n f) s = .next (s.coreFault n.toNat 6 0) ∧ (∀ count, exec (.shift n f count) s = .next (s.coreFault n.toNat 6 0)))

/-- Multiply-accumulate adds exact products and saturates its lanes, and STAC shifts, rounds and saturates or cuts them. -/
def Obligations.AccumulatorInstructionsSaturateTheirLanes : Prop :=
  ∀ (s : State) (n : BitVec 4) (f : FormatP),
    let c := s.core n.toNat
    let code := s.coreRuns n.toNat = true ∧ s.sound (vcBase + n.toNat * 0x100000 + 8 * c.pc.toNat) 8 = true
    let ready := fun (mv : Moves) => code ∧ mv.reserved = false
      ∧ ∀ e ∈ movesOf mv, e.2.store = false → s.sound (localWord n.toNat e.1 (c.areg (moveReg e.2 e.1)).toNat) 16 = true
    let lands := fun (v : BitVec 5) => c.loads.any (fun l => l.v == v)
    let frame := fun (mv : Moves) (t : State) =>
      let d := t.core n.toNat
      let g := c.flow
      t = { s with vc := { s.vc with cores := t.vc.cores }, mem := t.mem, memc := t.memc, fresh := t.fresh }
      ∧ (∀ k, k ≠ n.toNat → t.core k = s.core k)
      ∧ (∀ a, (∀ e ∈ movesOf mv, e.2.store = true →
          let w := localWord n.toNat e.1 (c.areg (moveReg e.2 e.1)).toNat
          a < w ∨ w + 16 ≤ a) → Table.get 0 t.mem a = Table.get 0 s.mem a)
      ∧ d = { c with
          v := d.v, a := d.a, ac := d.ac, pc := g.pc, loads := d.loads, transfer := g.transfer, rpt := g.rpt, rptTail := g.rptTail
          loops := g.loops, accSat := d.accSat, sat := d.sat, steps := c.steps + 1, itemSteps := c.itemSteps + 1
          stepDone := d.stepDone, breakHit := d.breakHit, watchHit := d.watchHit, sigAt := d.sigAt }
      ∧ (∀ k, (∀ e ∈ movesOf mv, moveReg e.2 e.1 ≠ k) → d.areg k = c.areg k)
      ∧ (∀ e ∈ movesOf mv, d.areg (moveReg e.2 e.1) = nextAddress (c.areg (moveReg e.2 e.1)) (c.oreg e.2.o.toNat) e.2.mode)
      ∧ d.loads.map (fun l => l.v) = ((movesOf mv).filter (fun e => !e.2.store)).map (fun e => e.2.v)
    let fits := fun (b : Nat) (x : Int) => -(2 ^ (b - 1) : Int) ≤ x ∧ x < (2 ^ (b - 1) : Int)
    let clamp := fun (b : Nat) (x : Int) => max (-(2 ^ (b - 1) : Int)) (min ((2 ^ (b - 1) : Int) - 1) x)
    let redundantBits := fun (b : Nat) (x : Int) (k : Nat) => k < b ∧ fits b (x * 2 ^ k) ∧ (k + 1 = b ∨ ¬ fits b (x * 2 ^ (k + 1)))
    let moved := fun (rnd : Bool) (count : Int) (x : Int) =>
      if 0 < count then (x + (if rnd then 2 ^ (count.toNat - 1) else 0)) / 2 ^ count.toNat else x * 2 ^ (-count).toNat
    let b := if f.w = 1 then 32 else 16
    let m := if f.w = 1 then 80 else 40
    let lane := fun (x : W128) (i : Nat) => x.extractLsb' (b * i) b
    let aLane := fun (x : BitVec 320) (i : Nat) => x.extractLsb' (m * i) m
    let x := fun (i : Nat) => (lane (c.vreg f.va) i).toInt
    let y := fun (i : Nat) => (lane (c.vreg f.vb) i).toInt
    let z := fun (i : Nat) => (aLane (c.acc f.ac) i).toInt
    let vKept := fun (d : Core) => ∀ v, lands v = false → d.vreg v = c.vreg v
    let acKept := fun (d : Core) => ∀ k, k ≠ f.ac → d.acc k = c.acc k
    let sums := fun (i : Instr) (g : Nat → Int) => ∃ t, exec i s = .next t ∧ frame f.mv t ∧
      let d := t.core n.toNat
      vKept d ∧ acKept d ∧ d.sat = c.sat
      ∧ (∀ i, i < 320 / m → (aLane (d.acc f.ac) i).toInt = clamp m (z i + g i))
      ∧ (d.accSat = true ↔ c.accSat = true ∨ ∃ i, i < 320 / m ∧ ¬ fits m (z i + g i))
    let sets := fun (i : Instr) (is : BitVec 320 → Prop) => ∃ t, exec i s = .next t ∧ frame f.mv t ∧
      let d := t.core n.toNat
      vKept d ∧ acKept d ∧ d.sat = c.sat ∧ d.accSat = c.accSat ∧ is (d.acc f.ac)
    let pair := fun (conj : Bool) (i : Nat) =>
      let p := i / 2 * 2
      let e := if conj then -(y (p + 1)) else y (p + 1)
      if i % 2 = 0 then x p * y p - x (p + 1) * e else x p * e + x (p + 1) * y p
    let d := (f.vb.toNat : Int) - (if f.va.getLsbD 0 then 32 else 0)
    (ready f.mv → f.w = 0 ∨ f.w = 1 →
      sums (.mac n f) (fun i => x i * y i) ∧ sums (.msu n f) (fun i => -(x i * y i)) ∧
      sets (.norm n f .accumulator) (fun r => ∀ i, i < 320 / m → ∃ k, redundantBits m (z i) k ∧ aLane r i = aLane (c.acc f.ac) i <<< k) ∧
      (∃ t, exec (.exp n f .accumulator) s = .next t ∧ frame f.mv t ∧ (t.core n.toNat).ac = c.ac ∧ (t.core n.toNat).sat = c.sat
        ∧ (∀ v, v ≠ f.vd → lands v = false → (t.core n.toNat).vreg v = c.vreg v)
        ∧ (lands f.vd = false → ∀ i, i < 128 / b → ∃ k, redundantBits m (z i) k ∧ lane ((t.core n.toNat).vreg f.vd) i = BitVec.ofNat b k)) ∧
      (f.va.toNat < 2 → ∃ t, exec (.stac n f) s = .next t ∧ frame f.mv t ∧ (t.core n.toNat).ac = c.ac ∧ (t.core n.toNat).accSat = c.accSat
        ∧ (∀ v, v ≠ f.vd → lands v = false → (t.core n.toNat).vreg v = c.vreg v)
        ∧ (lands f.vd = false → ∀ i, i < 128 / b → lane ((t.core n.toNat).vreg f.vd) i
            = BitVec.ofInt b (if f.sat then clamp b (moved f.rnd d (z i)) else moved f.rnd d (z i)))
        ∧ ((t.core n.toNat).sat = true ↔ c.sat = true ∨ (f.sat = true ∧ ∃ i, i < 128 / b ∧ ¬ fits b (moved f.rnd d (z i)))))) ∧
    (ready f.mv → f.w = 3 ∨ (f.w = 1 ∧ f.cw = true) → sums (.cmac n f) (pair false) ∧ sums (.cmacc n f) (pair true)) ∧
    (ready f.mv → sets (.clr n f) (fun r => r = 0) ∧ (f.va.toNat < 2 → sets (.accShift n f) (fun _ => True))) ∧
    (ready f.mv → f.va.toNat < 2 → 2 ≤ f.w.toNat → exec (.stac n f) s = .next (s.coreFault n.toNat 10 0)) ∧
    (code → 2 ≤ f.va.toNat → exec (.stac n f) s = .next (s.coreFault n.toNat 6 0) ∧ exec (.accShift n f) s = .next (s.coreFault n.toNat 6 0)) ∧
    (code → 2 ≤ f.w.toNat → exec (.mac n f) s = .next (s.coreFault n.toNat 6 0) ∧ exec (.msu n f) s = .next (s.coreFault n.toNat 6 0)) ∧
    (code → f.w ≠ 3 → ¬ (f.w = 1 ∧ f.cw = true) → exec (.cmac n f) s = .next (s.coreFault n.toNat 6 0) ∧ exec (.cmacc n f) s = .next (s.coreFault n.toNat 6 0))

/-- Branches, calls and returns move PC after two delay slots, RPT repeats, LOOP loops, END completes the item, NOP flows on and its moves act. -/
def Obligations.ControlInstructionsFlow : Prop :=
  ∀ (s : State) (n : BitVec 4) (mv : Moves),
    let c := s.core n.toNat
    let code := s.coreRuns n.toNat = true ∧ s.sound (vcBase + n.toNat * 0x100000 + 8 * c.pc.toNat) 8 = true
    let lands := fun (v : BitVec 5) => c.loads.any (fun l => l.v == v)
    let wordOf := fun (e : Bool × Move) => localWord n.toNat e.1 (c.areg (moveReg e.2 e.1)).toNat
    let ready := code ∧ mv.reserved = false ∧ ∀ e ∈ movesOf mv, e.2.store = false → s.sound (wordOf e) 16 = true
    let frame := fun (g : Core) (t : State) =>
      let d := t.core n.toNat
      t = { s with vc := { s.vc with cores := t.vc.cores }, mem := t.mem, memc := t.memc, fresh := t.fresh, ts := t.ts, tb := t.tb, dev := { s.dev with vc := t.dev.vc } }
      ∧ (∀ k, k ≠ n.toNat → t.core k = s.core k)
      ∧ d = { g with
          v := d.v, a := d.a, loads := d.loads, steps := c.steps + 1, itemSteps := c.itemSteps + 1
          stepDone := d.stepDone, breakHit := d.breakHit, watchHit := d.watchHit, sigAt := d.sigAt }
      ∧ (∀ v, lands v = false → d.vreg v = c.vreg v)
      ∧ (∀ k, (∀ e ∈ movesOf mv, moveReg e.2 e.1 ≠ k) → d.areg k = c.areg k)
      ∧ (∀ a, (∀ e ∈ movesOf mv, e.2.store = true → a < wordOf e ∨ wordOf e + 16 ≤ a) → Table.get 0 t.mem a = Table.get 0 s.mem a)
    let runs := fun (i : Instr) (g : Core) => ∃ t, exec i s = .next t ∧ frame g t ∧ t.ts = s.ts ∧ t.tb = s.tb ∧ t.dev = s.dev
    let traps := fun (i : Instr) (cause : Nat) => exec i s = .next (s.coreFault n.toNat cause 0)
    let plain := c.transfer = none ∧ c.rpt = none
    let roomy := ∀ l rest, c.loops = l :: rest → l.first.toNat ≤ c.pc.toNat → c.pc.toNat ≤ l.last.toNat → c.pc.toNat + 2 ≤ l.last.toNat
    (ready → plain → ∀ (cond a : BitVec 4) (target : BitVec 14), cond.toNat ≤ 4 →
      let x := (c.areg a.toNat).toInt
      let taken := decide (cond.toNat = 0 ∨ (cond.toNat = 1 ∧ x = 0) ∨ (cond.toNat = 2 ∧ x ≠ 0) ∨ (cond.toNat = 3 ∧ x < 0) ∨ (cond.toNat = 4 ∧ 0 ≤ x))
      let slots := fun (ends : Bool) (p : BitVec 14) =>
        { c with pc := c.pc + 1, rptTail := false, transfer := some { ends := ends, slots := 2, taken := taken, target := p } }
      (roomy →
        runs (.branch n cond a target mv) (slots true target) ∧
        runs (.call n cond a target mv) { slots false target with returns := if taken then (c.pc + 3) :: c.returns else c.returns } ∧
        (∀ p rest, c.returns = p :: rest → runs (.returnOp n cond a mv) { slots false p with returns := if taken then rest else c.returns }) ∧
        (c.returns = [] → ∃ p, runs (.returnOp n cond a mv) (slots false p))) ∧
      (¬ roomy → traps (.branch n cond a target mv) 9 ∧ traps (.call n cond a target mv) 9 ∧ traps (.returnOp n cond a mv) 9)) ∧
    (ready → plain → ∀ count : RptCount,
      let k := match count with | .imm m => m.toNat + 1 | .reg a => (c.areg a.toNat).toNat
      (1 ≤ k → k ≤ 1024 → runs (.rpt n count mv) { c with
        rpt := some k, rptTail := false, pc := (sequence c.pc c.loops).1, loops := (sequence c.pc c.loops).2 }) ∧
      (k = 0 ∨ 1024 < k → traps (.rpt n count mv) 8)) ∧
    (ready → plain → ∀ (a : BitVec 4) (target : BitVec 14),
      let k := (c.areg a.toNat).toNat
      (1 ≤ k → k ≤ 65536 → c.loops.length < 2 →
        runs (.loop n a target mv) { c with rptTail := false, pc := c.pc + 1, loops := { first := c.pc + 1, last := target, left := k } :: c.loops }) ∧
      (k = 0 ∨ 65536 < k ∨ 2 ≤ c.loops.length → traps (.loop n a target mv) 8)) ∧
    (ready → plain → ∀ d, c.item = some d →
      let q := s.desc d
      let v0 := c.vreg 0
      let what := CompareKind.itemDeadline (BitVec.ofNat 10 d)
      (s.ts.queue.length < 64 → (∀ b, c.due = some b → 0 ≤ s.slackTo b.toNat) →
        ∃ t, exec (.endItem n mv) s = .next t
          ∧ frame { c with item := none, due := none, items := inc c.items, pc := c.pc + 1, rptTail := false, loops := [], returns := [] } t
          ∧ t.ts = { s.ts with queue := t.ts.queue, vcDone := if c.due.isSome && q.vcDeadline then s.ts.vcDone ++ [d] else s.ts.vcDone }
          ∧ t.ts.queue = (if q.doneToken.getLsbD 15 then s.ts.queue
              else s.ts.queue ++ [{ entry := q.doneToken.setWidth 12, operand := v0, lane := none, core := some n }])
          ∧ t.tb = (if c.due.isSome && !q.vcDeadline then (s.disarm what).tb else s.tb)
          ∧ t.dev.vc = (match c.due with | none => s.dev.vc | some b => s.dev.vc.complete s.span.toNat (s.slackTo b.toNat))) ∧
      (∀ b, c.due = some b → s.slackTo b.toNat < 0 →
        (if q.vcDeadline then d ∉ s.ts.vcMissed ∧ s.spanStart ≤ b.toNat else (s.instantOf what).isSome = true) →
        ∃ t, exec (.endItem n mv) s = .next t ∧ (t.core n.toNat).item = none ∧ t.dev.vc.overruns = inc s.dev.vc.overruns
          ∧ (q.vcDeadline = true → q.arm.toNat < 8 → t.dev.vcMissed.getLsbD q.arm.toNat = true))) ∧
    (code → mv.reserved = false → c.transfer.isSome = true ∨ c.rpt.isSome = true → ∀ (cond a : BitVec 4) (target : BitVec 14) (count : RptCount), cond.toNat ≤ 4 →
      traps (.branch n cond a target mv) 7 ∧ traps (.call n cond a target mv) 7 ∧ traps (.returnOp n cond a mv) 7 ∧ traps (.rpt n count mv) 7
        ∧ traps (.loop n a target mv) 7 ∧ traps (.endItem n mv) 7) ∧
    (ready → ∃ (t : State) (g : Core), exec (.nop n mv) s = .next t ∧ frame g t ∧ t.ts = s.ts ∧ t.tb = s.tb ∧ t.dev = s.dev
      ∧ g = { c with pc := g.pc, transfer := g.transfer, rpt := g.rpt, rptTail := g.rptTail, loops := g.loops }
      ∧ (∀ k, c.rpt = some k → 1 < k → g = { c with rpt := some (k - 1) })
      ∧ (c.rpt = some 1 → c.loops = [] → g = { c with pc := c.pc + 1, rpt := none, rptTail := true })
      ∧ (c.rpt = none → c.transfer = none → c.loops = [] → g = { c with pc := c.pc + 1, rptTail := false })
      ∧ (∀ l rest, c.rpt = none → c.transfer = none → c.loops = l :: rest →
          (l.last ≠ c.pc → g = { c with pc := c.pc + 1, rptTail := false }) ∧
          (l.last = c.pc → 1 < l.left → g = { c with pc := l.first, rptTail := false, loops := { l with left := l.left - 1 } :: rest }) ∧
          (l.last = c.pc → l.left ≤ 1 → rest = [] → g = { c with pc := c.pc + 1, rptTail := false, loops := [] }))
      ∧ (∀ x, c.rpt = none → c.transfer = some x →
          (1 < x.slots → g = { c with pc := c.pc + 1, rptTail := false, transfer := some { x with slots := x.slots - 1 } }) ∧
          (x.slots = 1 → x.taken = true → g.pc = x.target ∧ g.transfer = none
            ∧ (x.ends = true → ∀ l, c.loops = [l] →
                g.loops = if l.first.toNat ≤ x.target.toNat ∧ x.target.toNat ≤ l.last.toNat then [l] else [])))
      ∧ (∀ l, c.loads = [l] → (t.core n.toNat).vreg l.v = (c.vreg l.v &&& ~~~ l.mask) ||| (l.value &&& l.mask))
      ∧ (∀ e ∈ movesOf mv, (t.core n.toNat).areg (moveReg e.2 e.1) = nextAddress (c.areg (moveReg e.2 e.1)) (c.oreg e.2.o.toNat) e.2.mode
          ∧ (e.2.store = true → ∀ i, i < 16 → Table.get 0 t.mem (wordOf e + i) = (c.vreg e.2.v).extractLsb' (8 * i) 8)
          ∧ (e.2.store = false → ∃ l ∈ (t.core n.toNat).loads, l.v = e.2.v ∧ l.mask = BitVec.allOnes 128
              ∧ ∀ i, i < 16 → l.value.extractLsb' (8 * i) 8 = Table.get 0 s.mem (wordOf e + i))))

/-- Long moves, lane moves, fabric accesses and token sends move exactly their octets, and their refused accesses fault. -/
def Obligations.LongScalarAndFabricInstructionsAct : Prop :=
  ∀ (s : State) (n : BitVec 4),
    let c := s.core n.toNat
    let code := s.coreRuns n.toNat = true ∧ s.sound (vcBase + n.toNat * 0x100000 + 8 * c.pc.toNat) 8 = true
    let lands := fun (v : BitVec 5) => c.loads.any (fun l => l.v == v)
    let octet := fun (x : W128) (i : Nat) => x.extractLsb' (8 * i) 8
    let frame := fun (u : State) (g : Core) (k : Nat) (t : State) =>
      let d := t.core n.toNat
      t = { u with vc := { u.vc with cores := t.vc.cores }, mem := t.mem, memc := t.memc, fresh := t.fresh, ts := t.ts }
      ∧ (∀ j, j ≠ n.toNat → t.core j = u.core j)
      ∧ d = { g with
          v := d.v, a := d.a, o := d.o, loads := d.loads, steps := c.steps + BitVec.ofNat 64 k, itemSteps := c.itemSteps + k
          stepDone := d.stepDone, breakHit := d.breakHit, watchHit := d.watchHit, sigAt := d.sigAt }
    let vKept := fun (t : State) (w : Option (BitVec 5)) => ∀ v, some v ≠ w → lands v = false → (t.core n.toNat).vreg v = c.vreg v
    let aKept := fun (t : State) (w : Option Nat) => ∀ k, some k ≠ w → (t.core n.toNat).areg k = c.areg k
    let oKept := fun (t : State) (w : Option Nat) => ∀ k, some k ≠ w → (t.core n.toNat).oreg k = c.oreg k
    (code → ∀ f : FormatL, f.reserved = false →
      let len := 2 ^ (f.size.toNat + 1)
      let off := f.elem.toNat * len % 16
      let a := vcBase + n.toNat * 0x100000 + (if f.ym then 0x80000 else 0x40000) + 16 * ((c.areg f.a.toNat + f.offset.signExtend 32).toNat % 8192)
      (s.sound a 16 = true → ∃ t l, exec (.longLoad n f) s = .next t ∧ frame s c.flow 1 t ∧ t.mem = s.mem ∧ t.memc = s.memc ∧ t.ts = s.ts
        ∧ vKept t none ∧ aKept t none ∧ oKept t none ∧ (t.core n.toNat).loads = [l] ∧ l.v = f.v
        ∧ ∀ i, i < 16 → (if off ≤ i ∧ i < off + len then octet l.mask i = 0xFF ∧ octet l.value i = Table.get 0 s.mem (a + i) else octet l.mask i = 0)) ∧
      (s.wordPoisoned a = true → s.errorAt a = false → exec (.longLoad n f) s
        = .next ({ s with memc := { s.memc with poisoned := inc s.memc.poisoned } }.coreFault n.toNat 1 a)) ∧
      (len = 16 ∨ s.sound a 16 = true → ∃ t, exec (.longStore n f) s = .next t ∧ frame s c.flow (if len = 16 then 1 else 2) t ∧ t.ts = s.ts
        ∧ vKept t none ∧ aKept t none ∧ oKept t none ∧ (t.core n.toNat).loads = [] ∧ t.wordPoisoned a = false
        ∧ ∀ x, Table.get 0 t.mem x = if a + off ≤ x ∧ x < a + off + len then octet (c.vreg f.v) (x - a) else Table.get 0 s.mem x) ∧
      (len < 16 → s.wordPoisoned a = true → exec (.longStore n f) s = .next ((s.countAbort a).coreFault n.toNat 1 a))) ∧
    (code → ∀ (f : FormatS) (op : BitVec 6), f.reserved = false →
      (∃ t, exec (.scalarOp n op f) s = .next t ∧ frame s c.flow 1 t ∧ t.mem = s.mem ∧ t.memc = s.memc ∧ t.ts = s.ts ∧ vKept t none
        ∧ aKept t (if f.destO then none else some f.dest.toNat) ∧ oKept t (if f.destO then some (f.dest.toNat % 8) else none)) ∧
      (∀ w : BitVec 2, ∃ t, exec (.laneMove n true w f) s = .next t ∧ frame s c.flow 1 t ∧ t.mem = s.mem ∧ t.memc = s.memc ∧ t.ts = s.ts
        ∧ vKept t (some f.v) ∧ aKept t none ∧ oKept t none
        ∧ (lands f.v = false → w = 1 → f.lane.toNat < 4 → ∀ i, i < 4 → ((t.core n.toNat).vreg f.v).extractLsb' (32 * i) 32
            = if i = f.lane.toNat then c.areg f.src.toNat else (c.vreg f.v).extractLsb' (32 * i) 32)
        ∧ (lands f.v = false → w = 0 → ∀ i, i < 8 → ((t.core n.toNat).vreg f.v).extractLsb' (16 * i) 16
            = if i = f.lane.toNat then (c.areg f.src.toNat).setWidth 16 else (c.vreg f.v).extractLsb' (16 * i) 16)) ∧
      (∀ w : BitVec 2, ∃ t, exec (.laneMove n false w f) s = .next t ∧ frame s c.flow 1 t ∧ t.mem = s.mem ∧ t.memc = s.memc ∧ t.ts = s.ts
        ∧ vKept t none ∧ aKept t (some f.dest.toNat) ∧ oKept t none
        ∧ (w = 1 → f.lane.toNat < 4 → (t.core n.toNat).areg f.dest.toNat = (c.vreg f.v).extractLsb' (32 * f.lane.toNat) 32))) ∧
    (code → ∀ f : FormatF, f.reserved = false → f.size ≠ 0 → c.rpt = none →
      let len := 2 ^ (f.size.toNat + 1)
      let a := f.seg.toNat * 2 ^ 32 + (c.areg f.a.toNat + f.offset.signExtend 32).toNat
      let data := (List.range len).map (fun i => octet (c.vreg f.v) i)
      (a % len ≠ 0 → exec (.fabricLoad n f) s = .next (s.coreFault n.toNat 4 a) ∧ exec (.fabricStore n f) s = .next (s.coreFault n.toNat 4 a)) ∧
      (a % len = 0 →
        (∀ u o, s.busRead (.core n) a len = .ok u o → ∃ t, exec (.fabricLoad n f) s = .next t ∧ frame u c.flow 1 t ∧ t.mem = u.mem ∧ t.memc = u.memc ∧ t.ts = u.ts
          ∧ vKept t (some f.v) ∧ aKept t none ∧ oKept t none
          ∧ (lands f.v = false → ∀ i, i < len → octet ((t.core n.toNat).vreg f.v) i = o.getD i 0)) ∧
        (∀ u, s.busRead (.core n) a len = .error u → exec (.fabricLoad n f) s = .next (u.coreFault n.toNat 2 a)) ∧
        (∀ u o, s.busRead (.core n) a len = .poisoned u o → exec (.fabricLoad n f) s = .next (u.coreFault n.toNat 3 a)) ∧
        (∀ u o, s.busWrite (.core n) a data = .ok u o → ∃ t, exec (.fabricStore n f) s = .next t ∧ frame u c.flow 1 t ∧ t.mem = u.mem ∧ t.memc = u.memc ∧ t.ts = u.ts
          ∧ vKept t none ∧ aKept t none ∧ oKept t none) ∧
        (∀ u, s.busWrite (.core n) a data = .error u → exec (.fabricStore n f) s = .next (u.coreFault n.toNat 2 a)) ∧
        (0x0100000000 ≤ a → a < 0x0101000000 → s.sound a len = true →
          (∃ t, exec (.fabricLoad n f) s = .next t ∧ frame s c.flow 1 t ∧ t.mem = s.mem ∧ t.memc = s.memc ∧ t.ts = s.ts
            ∧ (lands f.v = false → ∀ i, i < len → octet ((t.core n.toNat).vreg f.v) i = Table.get 0 s.mem (a + i))) ∧
          (∃ t, exec (.fabricStore n f) s = .next t ∧ frame s c.flow 1 t ∧ t.ts = s.ts
            ∧ ∀ x, Table.get 0 t.mem x = if a ≤ x ∧ x < a + len then octet (c.vreg f.v) (x - a) else Table.get 0 s.mem x)))) ∧
    (code → ∀ f : FormatF, f.reserved = false →
      (c.rpt = none → ∃ t, exec (.tokenSend n f) s = .next t ∧ frame s c.flow 1 t ∧ t.mem = s.mem ∧ t.memc = s.memc
        ∧ vKept t none ∧ aKept t none ∧ oKept t none
        ∧ (let k : Token := { entry := f.entry, operand := c.vreg f.v, lane := none, core := some n }
           t.ts = if s.ts.queue.length < 64 then { s.ts with queue := s.ts.queue ++ [k] } else { s.ts with held := s.ts.held ++ [k] })) ∧
      (c.rpt.isSome = true → exec (.tokenSend n f) s = .next (s.coreFault n.toNat 7 0)
        ∧ (f.size ≠ 0 → exec (.fabricLoad n f) s = .next (s.coreFault n.toNat 7 0) ∧ exec (.fabricStore n f) s = .next (s.coreFault n.toNat 7 0))))

/-- Signals halt a core, debug reads and writes a halted core only, a fault abandons the item, and budgets raise their events. -/
def Obligations.CoresHaltFaultAndAnswerDebug : Prop :=
  ∀ (s : State) (n : BitVec 4), n.toNat < 12 →
    let i := n.toNat
    let c := s.core i
    let refused := fun (by_ : Requester) (t : State) =>
      t = { s with vc := { s.vc with writesRefused := inc s.vc.writesRefused }
                   hq := if by_ = .host then { s.hq with regRefused := inc s.hq.regRefused } else s.hq }
    (∀ mv : Moves, s.coreRuns i = true → s.wordPoisoned (vcBase + i * 0x100000 + 8 * c.pc.toNat) = true →
      s.errorAt (vcBase + i * 0x100000 + 8 * c.pc.toNat) = false →
      exec (.nop n mv) s = .next ({ s with memc := { s.memc with poisoned := inc s.memc.poisoned } }.coreFault i 5 0)) ∧
    (∀ cause addr : Nat, cause < 16 →
      let t := s.coreFault i cause addr
      let d := t.core i
      let k := s.itemDesc i
      d = { c with
        v := d.v, faultCause := BitVec.ofNat 4 cause, faultPc := c.pc, faults := inc c.faults
        faultAddr := if cause ≤ 4 then BitVec.ofNat 40 addr else c.faultAddr
        item := none, due := none, transfer := none, rpt := none, rptTail := false, loads := [], stepDone := c.stepDone || c.stepping
        sigAt := if c.haltReq || c.stepDone || c.stepping || c.breakHit || c.watchHit then some (c.sigAt.getD c.steps) else none } ∧
      (∀ v, (∀ l ∈ c.loads, l.v ≠ v) → d.vreg v = c.vreg v) ∧
      (∀ j, j ≠ i → t.core j = s.core j) ∧ t.mem = s.mem ∧ t.memc = s.memc ∧ t.ts = s.ts ∧
      (k.arm.toNat < 8 → t.dev.vcMissed.getLsbD k.arm.toNat = true) ∧
      (s.faultClass k.arm = 1 → t.dev = { s.dev with vcMissed := t.dev.vcMissed }
        ∧ ∃ x : Record, t.evt = { s.evt with queue := s.evt.queue ++ [x] } ∧ x.code = 0x1301)) ∧
    (∀ (by_ : Requester) (w : BitVec 14) (x : W64),
      let a := vcBase + i * 0x100000 + 8 * w.toNat
      (by_ = .registrar → s.sound a 8 = true → ∃ t, exec (.imWrite by_ n w x) s = .next t ∧ t = { s with mem := t.mem, memc := t.memc }
        ∧ ∀ b, Table.get 0 t.mem b = if a ≤ b ∧ b < a + 8 then x.extractLsb' (8 * (b - a)) 8 else Table.get 0 s.mem b) ∧
      (by_ ≠ .registrar → exec (.imWrite by_ n w x) s = .next { s with vc := { s.vc with writesRefused := inc s.vc.writesRefused } })) ∧
    (∀ (by_ : Requester) (x : W32), by_ ≠ .debug → ¬ (by_ = .host ∧ s.hq.service = true) →
      (∃ t, exec (.vcHaltReq by_ n) s = .next t ∧ refused by_ t) ∧ (∃ t, exec (.vcRun by_ n) s = .next t ∧ refused by_ t) ∧
      (∃ t, exec (.vcStep by_ n) s = .next t ∧ refused by_ t) ∧ (∃ t, exec (.vcDbgSelGo by_ n x) s = .next t ∧ refused by_ t)) ∧
    (∀ by_ : Requester, by_ = .debug ∨ (by_ = .host ∧ s.hq.service = true) →
      (s.dev.cell = .parked ∨ s.dev.cell = .hold ∨ s.cfg.liveDebug = true →
        exec (.vcHaltReq by_ n) s = .next (if c.halted then s else s.setCore i { c with haltReq := true, sigAt := some (c.sigAt.getD c.steps) })) ∧
      (¬ (s.dev.cell = .parked ∨ s.dev.cell = .hold ∨ s.cfg.liveDebug = true) →
        exec (.vcHaltReq by_ n) s = .next { s with vc := { s.vc with haltRefused := inc s.vc.haltRefused } }) ∧
      (c.halted = true → exec (.vcRun by_ n) s = .next (s.setCore i { c with halted := false, haltCause := 0 })) ∧
      (c.halted = true → c.item.isSome = true → exec (.vcStep by_ n) s = .next (s.setCore i { c with halted := false, haltCause := 0, stepping := true })) ∧
      (c.halted = false → exec (.vcRun by_ n) s = .next s ∧ exec (.vcStep by_ n) s = .next s) ∧
      (c.halted = false → ∀ x, exec (.vcDbgSelGo by_ n x) s = .next { s with vc := { s.vc with writesRefused := inc s.vc.writesRefused } }) ∧
      (c.halted = true → ∀ x : W32,
        let sel := (x.extractLsb' 0 9).toNat
        let data := fun (d : Core) (k : Nat) => Table.get 0 d.dbgData k
        (x.getLsbD 30 = false → ∃ t, exec (.vcDbgSelGo by_ n x) s = .next t ∧ t = { s with vc := { s.vc with cores := t.vc.cores } }
          ∧ (∀ j, j ≠ i → t.core j = s.core j) ∧ t.core i = { c with dbgSel := x &&& 0x400001FF, dbgData := (t.core i).dbgData }
          ∧ (sel < 0x20 → ∀ k, k < 4 → data (t.core i) k = (c.vreg (BitVec.ofNat 5 sel)).extractLsb' (32 * k) 32)
          ∧ (0x20 ≤ sel → sel < 0x30 → ∀ k, k < 4 → data (t.core i) k = if k = 0 then c.areg (sel - 0x20) else 0)
          ∧ (0x30 ≤ sel → sel < 0x38 → ∀ k, k < 4 → data (t.core i) k = if k = 0 then c.oreg (sel - 0x30) else 0)
          ∧ (∀ (a : BitVec 2) (p : Nat), p < 3 → sel = 0x40 + 3 * a.toNat + p → ∀ k, k < 4 → data (t.core i) k = (c.acc a).extractLsb' (128 * p + 32 * k) 32)) ∧
        (x.getLsbD 30 = true → ∃ t, exec (.vcDbgSelGo by_ n x) s = .next t ∧ t = { s with vc := { s.vc with cores := t.vc.cores } }
          ∧ (∀ j, j ≠ i → t.core j = s.core j)
          ∧ (let d := t.core i
             d = { c with dbgSel := x &&& 0x400001FF, v := d.v, a := d.a, o := d.o, ac := d.ac }
             ∧ (∀ v : BitVec 5, if sel = v.toNat then ∀ k, k < 4 → (d.vreg v).extractLsb' (32 * k) 32 = data c k else d.vreg v = c.vreg v)
             ∧ (∀ a, a < 16 → d.areg a = if sel = 0x20 + a then data c 0 else c.areg a)
             ∧ (∀ o, o < 8 → d.oreg o = if sel = 0x30 + o then data c 0 else c.oreg o)
             ∧ (∀ (a : BitVec 2) (k : Nat), k < 10 → (d.acc a).extractLsb' (32 * k) 32
                  = if sel = 0x40 + 3 * a.toNat + k / 4 then data c (k % 4) else (c.acc a).extractLsb' (32 * k) 32))))) ∧
    (∀ cause : BitVec 3, c.halted = false → c.transfer = none → c.rpt = none → c.rptTail = false →
      (cause = 1 ∧ c.haltReq = true) ∨ (cause = 2 ∧ c.breakHit = true) ∨ (cause = 3 ∧ c.watchHit = true) ∨ (cause = 4 ∧ c.stepDone = true) →
      ∃ t, exec (.coreSignalTaken n cause) s = .next t ∧ t = { s with vc := { s.vc with cores := t.vc.cores }, ts := t.ts }
        ∧ (∀ j, j ≠ i → t.core j = s.core j)
        ∧ t.core i = { c with
            halted := true, haltCause := cause
            haltReq := false, breakHit := false, watchHit := false, stepDone := false, stepping := false
            sigAt := none
            holdMax := BitVec.ofNat 11 (max c.holdMax.toNat (min 2047 (c.steps - c.sigAt.getD c.steps).toNat)) }
        ∧ t.tsSlot i = none
        ∧ (s.tsSlot i = none → t.ts = s.ts)
        ∧ (∀ x, s.tsSlot i = some x → t.ts.recalls = inc s.ts.recalls
            ∧ t.ready (s.desc x.desc).priority.toNat = x.desc :: s.ready (s.desc x.desc).priority.toNat)) ∧
    (∀ cause, c.halted = true ∨ c.transfer.isSome = true ∨ c.rpt.isSome = true ∨ c.rptTail = true ∨ c.waitsFor cause = false →
      exec (.coreSignalTaken n cause) s = .next s) ∧
    (c.item = none → exec (.budgetOverrun n) s = .next s ∧ exec (.coreHung n) s = .next s) ∧
    (∀ d, c.item = some d →
      (c.overBudget = false → (s.desc d).budget.toNat < c.itemSteps → ∃ u, exec (.budgetOverrun n) s
          = .next (u.raise { code := 0x0F02, source := srcTs, data := BitVec.ofNat 32 (d + 65536 * i) })
        ∧ u = { s.setCore i { c with overBudget := true } with ts := { s.ts with budgetOverruns := inc s.ts.budgetOverruns } }) ∧
      (c.overBudget = true ∨ c.itemSteps ≤ (s.desc d).budget.toNat → exec (.budgetOverrun n) s = .next s) ∧
      (c.hung = false → (s.desc d).budget.toNat + 65536 ≤ c.itemSteps → exec (.coreHung n) s
          = .next ((s.setCore i { c with hung := true }).raise { code := 0x1302, source := srcVc, data := BitVec.ofNat 32 i })) ∧
      (c.hung = true ∨ c.itemSteps < (s.desc d).budget.toNat + 65536 → exec (.coreHung n) s = .next s))

/-- A token fills an empty owned entry, is discarded with an event at a full one, and is discarded and counted at an unrouted one. -/
def Obligations.TokensFillTheirEntriesOrAreDiscarded : Prop :=
  ∀ (s : State) (k : Token) (rest : List Token), s.ts.queue = k :: rest →
    let e := k.entry.toNat
    let u := { s with ts := { s.ts with queue := rest ++ s.ts.held.take 1, held := s.ts.held.drop 1 } }
    (∀ d, s.ownerOf e = some d → (s.entry e).full = false →
      ∃ t, exec .tokenAccept s = .next t ∧ t = { s with ts := t.ts, tb := t.tb, mem := t.mem, memc := t.memc }
        ∧ t.ts.queue = u.ts.queue ∧ t.ts.held = u.ts.held ∧ t.ts.tokens = inc s.ts.tokens
        ∧ t.ts.collisions = s.ts.collisions ∧ t.ts.unrouted = s.ts.unrouted
        ∧ ∀ i, t.entry i = if i = e then { full := true, operand := k.operand } else s.entry i) ∧
    (∀ d, s.ownerOf e = some d → (s.entry e).full = true →
      ∃ v : State, v = { u with ts := { u.ts with collisions := inc s.ts.collisions } }
        ∧ exec .tokenAccept s = .next (v.raise { code := 0x0F01, source := srcTs, data := BitVec.ofNat 32 e })
        ∧ (∀ i, (v.raise { code := 0x0F01, source := srcTs, data := BitVec.ofNat 32 e }).entry i = s.entry i)
        ∧ (v.raise { code := 0x0F01, source := srcTs, data := BitVec.ofNat 32 e }).vc = s.vc) ∧
    (s.ownerOf e = none → exec .tokenAccept s = .next { u with ts := { u.ts with unrouted := inc s.ts.unrouted } })

/-- The last operand makes an item ready or recalls a lower slot, prefetch fills the lowest core with the first item, start empties its entries, rows fire. -/
def Obligations.DispatcherReadiesPrefetchesAndStartsItems : Prop :=
  ∀ s : State,
    let prio := fun (d : Nat) => (s.desc d).priority.toNat
    let admits := fun (n d : Nat) => n < 12 ∧ (s.desc d).affinity.getLsbD n = true
    let served := fun (n : Nat) => (s.core n).halted = false ∧ (s.core n).stepping = false ∧ (s.core n).hung = false
    let due := fun (d : Nat) =>
      let k := s.desc d
      BitVec.ofNat 64 (if k.vcDeadline then (if s.dev.deadlineVc = 0 then 0 else s.spanStart + s.dev.deadlineVc.toNat)
        else if k.ownDeadline then s.spanStart + k.deadline.toNat else 0)
    let base := fun (n : Nat) => if (s.core n).buffer then 8188 else 8184
    (∀ d n, s.victim d = some n → admits n d ∧ served n ∧ ∃ x, s.tsSlot n = some x ∧ prio x.desc < prio d
      ∧ ∀ m y, admits m d → served m → s.tsSlot m = some y → prio x.desc < prio y.desc ∨ (prio x.desc = prio y.desc ∧ y.order ≤ x.order)) ∧
    (∀ d n, admits n d → served n → s.tsSlot n = none → s.victim d = none) ∧
    (∀ (k : Token) (rest : List Token) (d : Nat), s.ts.queue = k :: rest → s.ownerOf k.entry.toNat = some d → (s.entry k.entry.toNat).full = false →
      (¬ (∀ i ∈ (s.desc d).entries, i ≠ k.entry.toNat → (s.entry i).full = true) →
        ∃ t, exec .tokenAccept s = .next t ∧ t.ts.ready = s.ts.ready ∧ t.ts.slots = s.ts.slots ∧ t.mem = s.mem) ∧
      ((∀ i ∈ (s.desc d).entries, i ≠ k.entry.toNat → (s.entry i).full = true) →
        (s.victim d = none → ∃ t, exec .tokenAccept s = .next t ∧ t.ts.slots = s.ts.slots ∧ t.mem = s.mem ∧ Table.get 0 t.ts.dues d = due d
          ∧ ∀ p, t.ready p = if p = prio d then s.ready p ++ [d] else s.ready p) ∧
        (∀ n x, s.victim d = some n → s.tsSlot n = some x → ∃ t, exec .tokenAccept s = .next t ∧ t.ts.recalls = inc s.ts.recalls ∧ Table.get 0 t.ts.dues d = due d
          ∧ t.tsSlot n = some { desc := d, order := s.ts.order } ∧ (∀ m, m ≠ n → t.tsSlot m = s.tsSlot m)
          ∧ ∀ p, t.ready p = if p = prio x.desc then x.desc :: s.ready p else s.ready p))) ∧
    (∀ (n d : Nat) (pre post : List Nat), n < 12 → served n → s.tsSlot n = none → admits n d → s.ready (prio d) = pre ++ d :: post →
      (∀ x ∈ pre, ¬ admits n x) → (∀ p, prio d < p → p < 16 → ∀ x ∈ s.ready p, ¬ admits n x) →
      (∀ m, m < n → served m → s.tsSlot m = none → ∀ p, p < 16 → ∀ x ∈ s.ready p, ¬ admits m x) →
      ∃ t, exec .prefetch s = .next t ∧ t = { s with ts := { s.ts with ready := t.ts.ready, slots := t.ts.slots, order := s.ts.order + 1 }, mem := t.mem, memc := t.memc }
        ∧ t.tsSlot n = some { desc := d, order := s.ts.order } ∧ (∀ m, m ≠ n → t.tsSlot m = s.tsSlot m)
        ∧ (∀ p, t.ready p = if p = prio d then pre ++ post else s.ready p)
        ∧ (∀ i, i < (s.desc d).count.toNat → ∀ j, j < 16 → Table.get 0 t.mem (vcBase + n * 0x100000 + 0x40000 + 16 * (base n + i) + j)
            = (s.entry ((s.desc d).firstEntry.toNat + i)).operand.extractLsb' (8 * j) 8)
        ∧ ∀ a, a < vcBase + n * 0x100000 + 0x40000 + 16 * base n ∨ vcBase + n * 0x100000 + 0x40000 + 16 * (base n + (s.desc d).count.toNat) ≤ a →
            Table.get 0 t.mem a = Table.get 0 s.mem a) ∧
    (∀ (n : BitVec 4) (x : Slot), n.toNat < 12 → s.tsSlot n.toNat = some x → (s.core n.toNat).item = none → served n.toNat →
      ∃ t, exec (.itemStart n) s = .next t ∧ t = { s with vc := { s.vc with cores := t.vc.cores }, ts := { s.ts with entries := t.ts.entries, slots := t.ts.slots, dues := t.ts.dues } }
        ∧ t.tsSlot n.toNat = none ∧ (∀ m, m ≠ n.toNat → t.tsSlot m = s.tsSlot m ∧ t.core m = s.core m)
        ∧ (∀ e, t.entry e = if e ∈ (s.desc x.desc).entries then {} else s.entry e)
        ∧ (let c := s.core n.toNat
           let d := t.core n.toNat
           d = { c with
             pc := (s.desc x.desc).code, a := d.a, item := some x.desc, itemSteps := 0, overBudget := false, buffer := !c.buffer
             loops := [], returns := [], breakHit := d.breakHit, sigAt := d.sigAt
             due := if Table.get 0 s.ts.dues x.desc = 0 then none else some (Table.get 0 s.ts.dues x.desc) }
           ∧ ∀ k, d.areg k = if k = 0 then BitVec.ofNat 32 (base n.toNat) else c.areg k)) ∧
    (∀ t : BitVec 6,
      let r := Table.get {} s.cfg.rows t.toNat
      let u := s.disarm (.template t)
      let period := r.period.toNat + 1
      let fires := s.dev.cell ≠ .uncatalogued ∧ s.came (.template t) = true ∧ r.enabled = true ∧ r.trigger = 0
      (s.rowInPhase r = true ↔ (s.span.toNat : Int) % period = (r.phase.toNat : Int) % period) ∧
      (¬ fires → exec (.templateSpanTrigger t) s = .next u) ∧
      (fires → r.release = false → s.ts.queue.length < 64 → ∃ k : Token,
        exec (.templateSpanTrigger t) s = .next { u with ts := { u.ts with queue := u.ts.queue ++ [k] } }
        ∧ k.entry = r.target ∧ k.operand.extractLsb' 0 32 = s.span32 ∧ k.operand.extractLsb' 32 32 = s.tb.tb0.ns.setWidth 32 ∧ k.operand.extractLsb' 64 64 = 0) ∧
      (fires → r.release = true →
        let d := r.target.toNat
        let waits := d ∈ s.ready (prio d) ∨ ∃ n, n < 12 ∧ ∃ x, s.tsSlot n = some x ∧ x.desc = d
        (waits → exec (.templateSpanTrigger t) s = .next { u with ts := { u.ts with skipped := inc s.ts.skipped } }) ∧
        (¬ waits → s.victim d = none → ∃ v, exec (.templateSpanTrigger t) s = .next v
          ∧ v = { u with ts := { u.ts with ready := v.ts.ready, dues := v.ts.dues }, tb := v.tb }
          ∧ ((s.desc d).ownDeadline = false → v.tb = u.tb) ∧ Table.get 0 v.ts.dues d = due d
          ∧ ∀ p, v.ready p = if p = prio d then s.ready p ++ [d] else s.ready p))) ∧
    (s.came .deadlineVc = true → ∃ t, exec .deadlineVcExpiry s = .next t
      ∧ t.dev.vc.overruns.toNat = min 65535 (s.dev.vc.overruns.toNat + s.vcLate.length)
      ∧ (∀ d ∈ s.vcLate, (s.desc d).arm.toNat < 8 → t.dev.vcMissed.getLsbD (s.desc d).arm.toNat = true)
      ∧ t.ts = { s.ts with vcMissed := s.ts.vcMissed ++ s.vcLate } ∧ t.mem = s.mem ∧ t.vc = s.vc
      ∧ (s.vcLate = [] → t = s.disarm .deadlineVc)) ∧
    (s.came .deadlineVc = false → exec .deadlineVcExpiry s = .next s)

/-- CAT_WRITE and FW_WRITE fill the copy not in force, verify and read report it, commit validates it and writes seq, crc and complete. -/
def Obligations.CatalogueAndFirmwareCopiesAreWritten : Prop :=
  ∀ (s : State) (p : Packet) (io : StoreIo), s.takes p = true → io.failed = none →
    let q := p.queue.toNat
    (∀ fw : Bool,
      let run := fun (p : Packet) => exec (if fw then .fwWrite p io else .catWrite p io) s
      let op : W16 := if fw then 0x0105 else 0x0101
      let first := param p.params 0 2
      let n := param p.params 2 2
      let off := param p.params 4 4
      let flag := param p.params 8 1
      let t := s.target fw
      unusedZero p.params [(0, 2), (2, 2), (4, 4), (8, 1)] = true → 1 ≤ n → n ≤ 2048 → off % 4096 = 0 → flag < 2 → first + n ≤ 65536 →
      off + 4096 * n ≤ imageArea (if fw then 2 else 0) → (∀ l, first ≤ l → l < first + n → s.lot l = 2) →
      (flag = 0 → s.targetOpen fw = false → run p = .next (s.replied p op (lotRun first n) fun t => (t, { status := 0x0004 }))) ∧
      (flag = 1 ∨ s.targetOpen fw = true → s.sound (lotAddr first) (4096 * n) = true →
        ∃ u : State, run p = .next (u.reply q (s.ctxFor p op (lotRun first n)) { r0 := BitVec.ofNat 32 (4096 * n) })
          ∧ u = { s.taken p op (lotRun first n) with cat := u.cat }
          ∧ u.targetOpen fw = true ∧ u.targetOpen (!fw) = s.targetOpen (!fw) ∧ u.cat.copy = s.cat.copy ∧ u.cat.curSeq = s.cat.curSeq
          ∧ ∀ x, Table.get 0 u.cat.store x =
              if imageBase t + off ≤ x ∧ x < imageBase t + off + 4096 * n ∧ ¬ (imageBase t + 12 ≤ x ∧ x < imageBase t + 24)
              then Table.get 0 s.mem (lotAddr first + (x - (imageBase t + off)))
              else if flag = 1 ∧ imageBase t + 20 ≤ x ∧ x < imageBase t + 24 then 0 else Table.get 0 s.cat.store x)) ∧
    (unusedZero p.params [] = true →
      (s.cat.targetOpen = false → exec (.catVerify p io) s = .next (s.replied p 0x0102 [] fun t => (t, { status := 0x0004 }))) ∧
      (s.cat.targetOpen = true → s.imageLength (s.target false) ≤ 0x800000 → exec (.catVerify p io) s = .next (s.replied p 0x0102 [] fun t =>
        (t, { r0 := crc32c (crcCover (s.image (s.target false))), r1 := BitVec.ofNat 32 (s.imageLength (s.target false)) })))) ∧
    (unusedZero p.params [(0, 4)] = true → ∀ fw : Bool,
      let run := exec (if fw then .fwCommit p io else .catCommit p io) s
      let op : W16 := if fw then 0x0106 else 0x0103
      let t := s.target fw
      let o := s.image t
      let reason := s.imageReason t true
      let may := fw = true ∨ s.dev.cell = .uncatalogued ∨ s.dev.cell = .loaded
      let owned := fw = true ∨ s.noKeyActive = false
      let seq : W32 := match s.inUse fw with | some i => u32 (s.storeRead (imageBase i) 512) 12 + 1 | none => 1
      let crc := BitVec.ofNat 32 (param p.params 0 4)
      (s.targetOpen fw = false ∨ ¬ may → run = .next (s.replied p op [] fun t => (t, { status := 0x0004 }))) ∧
      (s.targetOpen fw = true → may → owned →
        (reason = 0 → crc = crc32c (crcCover o) →
          ∃ u : State, run = .next (u.reply q (s.ctxFor p op []) { r0 := seq })
            ∧ u.targetOpen fw = false ∧ u.cat.commits = inc s.cat.commits
            ∧ (∀ x, x < imageBase t + 12 ∨ imageBase t + 24 ≤ x → Table.get 0 u.cat.store x = Table.get 0 s.cat.store x)
            ∧ (∀ j, j < 4 → Table.get 0 u.cat.store (imageBase t + 12 + j) = seq.extractLsb' (8 * j) 8
                ∧ Table.get 0 u.cat.store (imageBase t + 16 + j) = crc.extractLsb' (8 * j) 8
                ∧ Table.get 0 u.cat.store (imageBase t + 20 + j) = (0xA5C35A3C : W32).extractLsb' (8 * j) 8)
            ∧ (fw = true → u = { s.taken p op [] with cat := u.cat })
            ∧ (fw = false → u.cat.loaded = true ∧ u.cat.copy = (t == 1) ∧ u.cat.curSeq = seq ∧ u.cat.curCrc = crc
                ∧ u.dev.cell = (if u.cfg.autoIntegrate then .integrating else .loaded))) ∧
        (∀ st : W16, (reason = 7 ∧ st = 0x000F) ∨ (reason ≠ 7 ∧ reason ≠ 0 ∧ st = 0x000E) ∨ (reason = 0 ∧ crc ≠ crc32c (crcCover o) ∧ st = 0x0008) →
          ∃ u : State, run = .next (u.reply q (s.ctxFor p op []) { status := st })
            ∧ u = { s.taken p op [] with cat := { s.cat with copies := u.cat.copies, rejected := inc s.cat.rejected } }))) ∧
    (let c := param p.params 0 1
     let first := param p.params 2 2
     let n := param p.params 4 2
     let off := param p.params 8 4
     unusedZero p.params [(0, 1), (2, 2), (4, 2), (8, 4)] = true → c < 2 → 1 ≤ n → first + n ≤ 65536 → off + 4096 * n ≤ 0x800000 →
     (∀ l, first ≤ l → l < first + n → s.lot l = 2) →
      ∃ u : State, exec (.catRead p io) s = .next (u.reply q (s.ctxFor p 0x0104 (lotRun first n)) { r0 := BitVec.ofNat 32 (4096 * n) })
        ∧ u = { s.taken p 0x0104 (lotRun first n) with mem := u.mem, memc := u.memc }
        ∧ ∀ x, Table.get 0 u.mem x = if lotAddr first ≤ x ∧ x < lotAddr first + 4096 * n
            then Table.get 0 s.cat.store (imageBase c + off + (x - lotAddr first)) else Table.get 0 s.mem x)

/-- The loader validates both copies and brings the newer valid one into force, or leaves the cell UNCATALOGUED. -/
def Obligations.CatalogueLoadTakesTheNewerValidCopy : Prop :=
  ∀ (s : State) (io : StoreIo),
    let valid := fun (i : Nat) => s.imageReason i false = 0
    let header := fun (i : Nat) (off : Nat) => u32 (s.storeRead (imageBase i) 512) off
    let idle := s.dev.cell = .uncatalogued ∧ s.pwr.inReset = false ∧ s.pwr.dormant = false ∧ s.vc.regRunning = true
    (¬ idle → exec (.catalogueLoad io) s = .next s) ∧
    (idle → io.failed = none →
      ∃ t, exec (.catalogueLoad io) s = .next t
        ∧ (∀ i, i < 2 → (t.copyStat i).valid = decide (valid i) ∧ (t.copyStat i).reason = s.imageReason i false
            ∧ (t.copyStat i).seq = header i 12 ∧ (t.copyStat i).length = header i 8 ∧ (t.copyStat i).crc = header i 16)
        ∧ (¬ valid 0 → ¬ valid 1 → t.dev.cell = .uncatalogued ∧ t.pwr.loadedMs = 0xFFFF ∧ t.cat.loaded = s.cat.loaded ∧ t.cfg = s.cfg)
        ∧ (∀ c : Bool, valid (if c then 1 else 0) →
            (valid (if c then 0 else 1) → let d := (header (if c then 1 else 0) 12 - header (if c then 0 else 1) 12).toNat
              (1 ≤ d ∧ d ≤ 2 ^ 31 - 1) ∨ ((d = 0 ∨ d = 2 ^ 31) ∧ c = false)) →
            t.cat.loaded = true ∧ t.cat.copy = c ∧ t.cat.curSeq = header (if c then 1 else 0) 12 ∧ t.cat.curCrc = header (if c then 1 else 0) 16
            ∧ t.dev.cell = (if t.cfg.autoIntegrate then .integrating else .loaded)))

/-- Check-value contexts run the checks of their parameters, blocks feed them from memory, and scrubbers count, retire and write back what they find. -/
def Obligations.CheckUnitsScrubbersAndSparesAct : Prop :=
  ∀ s : State,
    (crcOf .crc32c [0x31, 0x32, 0x33, 0x34, 0x35, 0x36, 0x37, 0x38, 0x39] = 0xE3069283 ∧
      crcOf .crc32 [0x31, 0x32, 0x33, 0x34, 0x35, 0x36, 0x37, 0x38, 0x39] = 0xCBF43926 ∧
      crcOf .crc16 [0x31, 0x32, 0x33, 0x34, 0x35, 0x36, 0x37, 0x38, 0x39] = 0x29B1) ∧
    (∀ (c : BitVec 6) (by_ : Requester) (v : W32),
      let k := s.ctx c.toNat
      let may := by_ ≠ .host ∧ (8 ≤ c.toNat ∨ by_ = .registrar)
      let all4 := fun (t : State) => exec (.crcStart by_ c) s = .next t ∧ exec (.crcDataWrite by_ c v) s = .next t
        ∧ exec (.crcValueWrite by_ c v) s = .next t ∧ exec (.crcFinish by_ c) s = .next t
      (by_ = .host → all4 s.hostRefused ∧ exec (.crcBlockGo by_ c) s = .next s.hostRefused) ∧
      (by_ ≠ .host → ¬ may → let t := { s with crc := { s.crc with refused := inc s.crc.refused } }; all4 t ∧ exec (.crcBlockGo by_ c) s = .next t) ∧
      (may → k.queued = true → all4 { s with crc := { s.crc with busyRefused := inc s.crc.busyRefused } } ∧ exec (.crcBlockGo by_ c) s = .next s) ∧
      (may → k.queued = false → ∀ p : Poly, (k.poly.toNat = 0 ∧ p = .crc32c) ∨ (k.poly.toNat = 1 ∧ p = .crc32) ∨ (k.poly.toNat = 2 ∧ p = .crc16) →
        let fold := leBytes 4 k.foldLo.toNat ++ leBytes 4 k.foldHi.toNat
        let folded := if k.fold.toNat = 1 then fold.take 4 else if k.fold.toNat = 2 then fold else []
        exec (.crcStart by_ c) s = .next (s.setCtx c.toNat { k with value := crcRun p (crcInit p) folded }) ∧
        exec (.crcDataWrite by_ c v) s = .next (s.setCtx c.toNat { k with
          tail := 0, value := crcRun p k.value ((leBytes 4 v.toNat).take (if k.tail = 0 then 4 else k.tail.toNat)) }) ∧
        exec (.crcValueWrite by_ c v) s = .next (s.setCtx c.toNat { k with value := v }) ∧
        (let out := crcFinal p k.value
         let bad := k.compare && decide (if k.poly.toNat = 2 then out.setWidth 16 ≠ k.expect.setWidth 16 else out ≠ k.expect)
         let u := s.setCtx c.toNat { k with
           result := out, mismatch := bad, finishes := inc k.finishes, mismatches := if bad then inc k.mismatches else k.mismatches }
         let w := if bad then u.raise { code := 0x0E01, source := srcCrc, data := BitVec.ofNat 32 c.toNat } else u
         (k.tokenEn = false → exec (.crcFinish by_ c) s = .next w) ∧
         (k.tokenEn = true → s.ts.queue.length < 64 → ∃ x : Token, exec (.crcFinish by_ c) s = .next { w with ts := { w.ts with queue := w.ts.queue ++ [x] } }
           ∧ x.entry = k.entry ∧ x.operand.extractLsb' 0 32 = out ∧ x.operand.extractLsb' 32 6 = c ∧ x.operand.getLsbD 40 = bad
           ∧ x.operand.extractLsb' 38 2 = 0 ∧ x.operand.extractLsb' 41 87 = 0)) ∧
        (let u := c.toNat / 16
         ∃ t, exec (.crcBlockGo by_ c) s = .next t ∧ t = { s with crc := { s.crc with ctxs := t.crc.ctxs, units := t.crc.units } }
           ∧ t.ctx c.toNat = { k with queued := true } ∧ (∀ j, j ≠ c.toNat → t.ctx j = s.ctx j)
           ∧ ∀ j, Table.get [] t.crc.units j = if j = u then Table.get [] s.crc.units j ++ [c.toNat] else Table.get [] s.crc.units j))) ∧
    (∀ (u : BitVec 2) (c : Nat) (rest : List Nat), Table.get [] s.crc.units u.toNat = c :: rest →
      let k := s.ctx c
      let ended := fun (t : State) => (t.ctx c).queued = false ∧ Table.get [] t.crc.units u.toNat = rest ∧ t.mem = s.mem
      1 ≤ k.len.toNat → k.len.toNat ≤ 2 ^ 24 →
      (∀ v o, s.busRead .engine k.src.toNat k.len.toNat = .ok v o → ∀ p : Poly, k.check = some p →
        ∃ t, exec (.crcBlockComplete u) s = .next t ∧ ended t ∧ t = { v with crc := t.crc } ∧ t.ctx c = { k with poisoned := false, queued := false, value := crcRun p k.value o }) ∧
      (∀ v o, s.busRead .engine k.src.toNat k.len.toNat = .poisoned v o → ∃ t, exec (.crcBlockComplete u) s = .next t ∧ ended t
        ∧ t.ctx c = { k with poisoned := true, queued := false, value := (t.ctx c).value }) ∧
      (∀ v, s.busRead .engine k.src.toNat k.len.toNat = .error v → ∃ t, exec (.crcBlockComplete u) s = .next t ∧ ended t
        ∧ t.ctx c = { k with poisoned := false, queued := false, value := (t.ctx c).value })) ∧
    (s.pwr.inReset = false → s.pwr.dormant = false → exec .lpddrInitComplete s = .next { s with memc := { s.memc with lpddrReady := true, granules := [] } }) ∧
    (∀ (domain : BitVec 10) (found : Found), domain.toNat < 672 → s.memc.sramReady = true →
      let d := domain.toNat
      let m := s.dom d
      let w := m.pos
      let r := regionOf d
      let marked := Table.get false s.memc.poison (poisonKey d w.toNat)
      let times := match m.trackers.find? (fun t => t.word == w) with | some t => t.count + 1 | none => 1
      s.scrubbed d w.toNat = true →
      let others := m.writeBacks.filter (fun x => x != w)
      let errs := found = .correctable ∨ (found = .clean ∧ w ∈ m.writeBacks)
      (marked = false → found = .clean → w ∉ m.writeBacks → w.toNat + 1 = domainWords d → ∃ t, exec (.scrubRead domain found) s = .next t ∧ t = { s with memc := t.memc }
        ∧ t.dom d = { m with pos := 0, lapUs := BitVec.ofNat 32 ((s.tb.tb2.ns - m.lapStart).toNat / 1000), lapStart := s.tb.tb2.ns, slow := false, trackers := [] }
        ∧ (t.region r).laps = inc (s.region r).laps ∧ (t.dom d).lapUs.toNat ≤ (t.region r).lapUs.toNat) ∧
      (w.toNat + 1 < domainWords d →
        (marked = true → exec (.scrubRead domain found) s
          = .next ({ s with memc := { s.memc with poisoned := inc s.memc.poisoned } }.setDom d { m with pos := w + 1 })) ∧
        (marked = false → found = .clean → w ∉ m.writeBacks → exec (.scrubRead domain found) s = .next (s.setDom d { m with pos := w + 1 })) ∧
        (marked = false → errs → ∃ t, exec (.scrubRead domain found) s = .next t ∧ t.mem = s.mem
          ∧ t.memc.corrected = inc s.memc.corrected ∧ (t.region r).scrubCe = inc (s.region r).scrubCe ∧ t.memc.poison = s.memc.poison
          ∧ t.memc.lastWord = w ∧ t.memc.lastKind = 1 ∧ t.memc.lastScrub = true ∧ t.memc.lastDomain = domain
          ∧ (t.dom d).pos = w + 1 ∧ (t.dom d).trackers.head? = some { word := w, count := times } ∧ (t.dom d).trackers.length ≤ 4
          ∧ (times < 3 → (t.dom d).remaps = m.remaps ∧ (t.dom d).writeBacks = others ++ [w])
          ∧ (3 ≤ times →
              (w ∈ m.remaps → (t.dom d).remaps = m.remaps ∧ (t.dom d).writeBacks = others ++ [w]) ∧
              (w ∉ m.remaps → 8 ≤ m.remaps.length → (t.dom d).remaps = m.remaps ∧ (t.dom d).writeBacks = others ++ [w] ∧ t.memc.remapExhausted = true) ∧
              (w ∉ m.remaps → m.remaps.length < 8 → (t.dom d).remaps = m.remaps ++ [w] ∧ (t.dom d).writeBacks = others
                ∧ (t.dom d).exhausted = (m.exhausted || decide (m.remaps.length = 7)) ∧ t.memc.unrecorded = s.memc.unrecorded ++ [(domain, w)]))) ∧
        (marked = false → found = .uncorrectable → ∃ t, exec (.scrubRead domain found) s = .next t ∧ t.mem = s.mem
          ∧ t.memc.uncorrectable = inc s.memc.uncorrectable ∧ (t.region r).scrubUe = inc (s.region r).scrubUe ∧ (t.dom d).pos = w + 1
          ∧ Table.get false t.memc.poison (poisonKey d w.toNat) = true ∧ t.memc.lastKind = 2 ∧ (t.dom d).writeBacks = others
          ∧ (w ∉ m.remaps → m.remaps.length < 8 → (t.dom d).remaps = m.remaps ++ [w])
          ∧ (w ∉ m.remaps → 8 ≤ m.remaps.length → (t.dom d).remaps = m.remaps ∧ t.memc.remapExhausted = true)))) ∧
    (∀ domain : BitVec 10, domain.toNat < 672 → s.memc.sramReady = true →
      let m := s.dom domain.toNat
      let slow := (s.cfg.lapLimits.getD (regionOf domain.toNat) (if domain.toNat < 640 then 10000 else 600000)).toNat * 1000000 < (s.tb.tb2.ns - m.lapStart).toNat
      (m.slow = true ∨ ¬ slow → exec (.scrubSlow domain) s = .next s) ∧
      (m.slow = false → slow → exec (.scrubSlow domain) s = .next ((s.setDom domain.toNat { m with slow := true }).raise
        { code := 0x0D04, source := srcMem, data := BitVec.ofNat 32 domain.toNat })) ∧
      (∀ w : W32, exec (.correctedWriteBack domain w) s = .next (if w ∈ m.writeBacks
        then s.setDom domain.toNat { m with writeBacks := m.writeBacks.filter (fun x => x != w) } else s))) ∧
    (∀ (e : BitVec 10 × W32) (rest : List (BitVec 10 × W32)), s.memc.unrecorded = e :: rest →
      exec (.remapRecordWrite { failed := none }) s = .next { s with memc := { s.memc with unrecorded := rest, records := s.memc.records ++ [e] } } ∧
      (∀ a, exec (.remapRecordWrite { failed := some a }) s = .next (s.storeError a)))

/-- Records take the next sequence and enter the log, EVT_READ copies them in order, CNT_CLEAR clears counters only, registers take their writers only. -/
def Obligations.EventsAreSequencedLoggedReadAndCleared : Prop :=
  ∀ s : State,
    (s.pwr.inReset = false → s.pwr.dormant = false →
      let e := s.evt
      let news := fun (t : State) (r : Record) => t = { s with evt := t.evt, hq := t.hq } ∧ t.evt.nextSeq = e.nextSeq + 1 ∧ t.evt.buffer = e.buffer ++ [r]
        ∧ t.evt.last = r ∧ r.seq = e.nextSeq ∧ t.evt.log = e.log ∧ t.evt.reference = e.reference
        ∧ (let reach := decide ((s.cfg.threshold.getD 1).toNat ≤ (e.nextSeq + 1 - e.reference).toNat) && !e.raised
           t.evt.raised = (e.raised || reach)
           ∧ t.hq = if reach || decide (2 ≤ (r.flags.extractLsb' 0 3).toNat) then (s.vector 18).hq else s.hq)
      (∀ r rest, e.buffer.length < 1024 → e.lostDue = 0 → e.queue = r :: rest → ∃ t, exec .eventSequenced s = .next t ∧ t.evt.queue = rest
        ∧ news t { r with seq := e.nextSeq, tb2 := if r.flags.getLsbD 4 && r.code != 0x0201 then s.tb.tb2.ns else r.tb2 }) ∧
      (e.buffer.length < 1024 → e.lostDue ≠ 0 → ∃ t r, exec .eventSequenced s = .next t ∧ t.evt.queue = e.queue ∧ t.evt.lostDue = 0 ∧ news t r
        ∧ r.code = 0x1201 ∧ r.data = BitVec.ofNat 32 e.lostDue) ∧
      (∀ r rest, 1024 ≤ e.buffer.length → e.queue = r :: rest → exec .eventSequenced s
        = .next { s with evt := { e with queue := rest, lost := inc e.lost, lostDue := e.lostDue + 1 } }) ∧
      (e.queue = [] → e.lostDue = 0 ∨ 1024 ≤ e.buffer.length → exec .eventSequenced s = .next s) ∧
      (e.buffer = [] → ∀ io, exec (.eventLogWrite io) s = .next s) ∧
      (∀ r rest, e.buffer = r :: rest →
        (∃ t, exec (.eventLogWrite { failed := none }) s = .next t ∧ t = { s with evt := { e with buffer := rest, log := t.evt.log, oldestSeq := t.evt.oldestSeq } }
          ∧ Table.get {} t.evt.log r.seq.toNat = r
          ∧ (e.log.length < 65536 → (∀ k, k ≠ r.seq.toNat → Table.get {} t.evt.log k = Table.get {} e.log k)
              ∧ t.evt.oldestSeq = if e.log = [] then r.seq else e.oldestSeq)
          ∧ (65536 ≤ e.log.length → t.evt.oldestSeq = e.oldestSeq + 1
              ∧ ∀ k, k ≠ r.seq.toNat → Table.get {} t.evt.log k = if k = e.oldestSeq.toNat then {} else Table.get {} e.log k)) ∧
        (∀ a, exec (.eventLogWrite { failed := some a }) s = .next (s.storeError a)))) ∧
    (∀ p : Packet, s.takes p = true → unusedZero p.params [(0, 4), (4, 2), (6, 2)] = true →
      let from_ := BitVec.ofNat 32 (param p.params 0 4)
      let first := param p.params 4 2
      let n := param p.params 6 2
      let lots := lotRun first n
      1 ≤ n → first + n ≤ 65536 → (∀ l, first ≤ l → l < first + n → s.lot l = 2) →
      (s.evt.log = [] → s.evt.buffer = [] → exec (.evtRead p) s = .next (s.replied p 0x0702 lots fun t => (t, { status := stNoData }))) ∧
      (∀ o, s.evt.oldest = some o →
        let start := if (from_ - o).toInt < 0 then o else from_
        let k := min (128 * n) (s.evt.nextSeq - start).toNat
        (0 ≤ (start - s.evt.nextSeq).toInt → exec (.evtRead p) s = .next (s.replied p 0x0702 lots fun t => (t, { status := stNoData }))) ∧
        ((start - s.evt.nextSeq).toInt < 0 →
          ∃ u : State, exec (.evtRead p) s = .next (u.reply p.queue.toNat (s.ctxFor p 0x0702 lots) { r0 := BitVec.ofNat 32 k, r1 := start + BitVec.ofNat 32 k })
            ∧ u = { s.taken p 0x0702 lots with evt := { s.evt with reference := start + BitVec.ofNat 32 k, raised := false }, mem := u.mem, memc := u.memc }
            ∧ ∀ x, Table.get 0 u.mem x = if lotAddr first ≤ x ∧ x < lotAddr first + 32 * k
                then (s.evt.find (start + BitVec.ofNat 32 ((x - lotAddr first) / 32))).octets.getD ((x - lotAddr first) % 32) 0 else Table.get 0 s.mem x))) ∧
    (∀ p : Packet, s.takes p = true → unusedZero p.params [(0, 4)] = true → param p.params 0 4 < 2 ^ 19 →
      let hit := fun (b : Nat) => (param p.params 0 4).testBit b
      ∃ u : State, exec (.cntClear p) s = .next (u.reply p.queue.toNat (s.ctxFor p 0x0701 []) {})
        ∧ u.mem = s.mem ∧ u.cfg = s.cfg ∧ u.dev.cell = s.dev.cell ∧ u.dev.transitions = s.dev.transitions
        ∧ u.dev.vc.overruns = (if hit 0 then 0 else s.dev.vc.overruns) ∧ u.dev.vc.slackMin = (if hit 0 then 0x7FFFFFFF else s.dev.vc.slackMin)
        ∧ u.tb.tb0.ns = s.tb.tb0.ns ∧ u.tb.tb0.steps = (if hit 1 then 0 else s.tb.tb0.steps) ∧ u.tb.tb0.clamped = (if hit 1 then false else s.tb.tb0.clamped)
        ∧ u.pwr.brownOuts = (if hit 2 then 0 else s.pwr.brownOuts) ∧ u.pwr.warms = (if hit 2 then 0 else s.pwr.warms)
        ∧ u.hq.regRefused = (if hit 3 then 0 else s.hq.regRefused) ∧ u.hq.badFlag = (if hit 3 then 0 else s.hq.badFlag) ∧ u.hq.lots = s.hq.lots
        ∧ (∀ q, (u.queue q).badSeq = (if hit 3 then 0 else (s.taken p 0x0701 []).queue q |>.badSeq) ∧ (u.queue q).next = ((s.taken p 0x0701 []).queue q).next)
        ∧ (∀ i, (u.slot i).truncated = (if hit 7 then 0 else (s.slot i).truncated) ∧ (u.slot i).activity = (s.slot i).activity)
        ∧ u.dio.refused = (if hit 10 then 0 else s.dio.refused) ∧ u.dio.frameErr = s.dio.frameErr ∧ u.dio.fault = s.dio.fault
        ∧ u.memc.corrected = (if hit 12 then 0 else s.memc.corrected) ∧ u.memc.remapExhausted = s.memc.remapExhausted ∧ u.memc.domains = s.memc.domains
        ∧ (∀ c, u.ctx c = if hit 13 then { s.ctx c with finishes := 0, mismatches := 0, mismatch := false, poisoned := false } else s.ctx c)
        ∧ u.ts = (if hit 14 then { s.ts with tokens := 0, collisions := 0, unrouted := 0, recalls := 0, budgetOverruns := 0, stale := 0, skipped := 0 } else s.ts)
        ∧ u.cat = (if hit 15 then { s.cat with commits := 0, rejected := 0, storeErrors := 0 } else s.cat)
        ∧ u.evt = (if hit 17 then { s.evt with lost := 0, reactions := 0 } else s.evt)
        ∧ (∀ n, u.core n = if hit 18 then { s.core n with faults := 0, items := 0, holdMax := 0, accSat := false, sat := false } else s.core n)) ∧
    (∀ (o : BitVec 20) (v : W32) (aligned : Bool),
      (s.hostMay = false → exec (.registerWrite .host o aligned v) s = .next s) ∧
      (s.hostMay = true → aligned = false ∨ o.toNat % 4 ≠ 0 ∨ o.toNat < 0x1000 → exec (.registerWrite .host o aligned v) s = .next s.hostRefused)) ∧
    (∀ (q : BitVec 4) (v : W32), s.hostMay = true →
      let u := s.queue q.toNat
      exec (.registerWrite .host (BitVec.ofNat 20 (0x4104 + 0x20 * q.toNat)) true v) s
        = .next (if u.enable then s.hostRefused else s.setQueue q.toNat { u with sqLo := v &&& 0xFFFFF000 })) ∧
    (∀ (n : BitVec 4) (k : BitVec 2) (v : W32) (by_ : Requester), n.toNat < 12 → by_ ≠ .host →
      let o := BitVec.ofNat 20 (0xD0030 + 0x100 * n.toNat + 4 * k.toNat)
      let c := s.core n.toNat
      exec (.registerWrite by_ o true v) s = .next (if by_ = .debug then s.setCore n.toNat { c with breaks := Table.put 0 c.breaks k.toNat (v &&& 0x80003FFF) }
        else { s with vc := { s.vc with writesRefused := inc s.vc.writesRefused } })) ∧
    (∀ (a : BitVec 4) (v : W32) (n : BitVec 4), a.toNat < 9 →
      exec (.registerWrite (.core n) (BitVec.ofNat 20 (0x20108 + 0x20 * a.toNat)) true v) s
        = .next (s.setArmSet a.toNat { s.armSet a.toNat with source := v.getLsbD 16 }))

/-- Cross-link records act once and by role, heartbeats report, a silent partner is declared failed, and takeover and transfer change the roles. -/
def Obligations.PairsExchangeRecordsAndChangeRoles : Prop :=
  ∀ s : State,
    let r := s.red
    let live := s.cfg.pair.pair = true ∧ s.pwr.inReset = false ∧ s.pwr.dormant = false
    (¬ live → (∀ lane good x, exec (.crossLinkRecord lane good x) s = .next s)) ∧
    (¬ live ∨ s.came .heartbeat = false → exec .crossLinkHeartbeat s = .next s) ∧
    (live → ∀ lane x, exec (.crossLinkRecord lane false x) s = .next { s with red := { r with recordErrors := inc r.recordErrors } }) ∧
    (live → ∀ (lane : Bool) (x : XRecord),
      let other := if lane then r.ahead18 else r.ahead19
      let brought := ∃ e ∈ other, e.2 = x ∧ (s.span32 - e.1).toNat ≤ 1
      let marks := fun (t : State) => t.red.partnerAlive = true ∧ t.red.silent = false ∧ t.red.lane18 = (r.lane18 || !lane) ∧ t.red.lane19 = (r.lane19 || lane)
      let base := fun (t : State) => { r with
        partnerAlive := true, silent := false, lane18 := r.lane18 || !lane, lane19 := r.lane19 || lane, ahead18 := t.red.ahead18, ahead19 := t.red.ahead19 }
      ∃ t, exec (.crossLinkRecord lane true x) s = .next t ∧ marks t
        ∧ (brought → t = { s with red := base t })
        ∧ (¬ brought →
          (x = .idle → t = { s with red := base t }) ∧
          (∀ e c, x = .command e c → r.role = .standby →
            (2000 ≤ s.untilSpan e → t = { s with red := { base t with repl := r.repl ++ [{ effect := e, cmd := c }] } }) ∧
            (s.untilSpan e < 2000 → t = { s with red := { base t with healthy := false } })) ∧
          (∀ e c, x = .command e c → r.role ≠ .standby → t = { s with red := base t }) ∧
          (∀ i, x = .fieldImage i → t = { s with red := if r.role = .standby then { base t with fieldImage := some i } else base t }) ∧
          (∀ g k good answers, x = .verdict g k good answers → r.role = .standby → s.shadows g.toNat = false →
            t = { s with red := { base t with verdicts := Table.put {} r.verdicts g.toNat { span := k, good := good, answers := answers, given := true } } }) ∧
          (∀ role claim healthy w cmp h, x = .heartbeat role claim healthy w cmp h → r.evalSpan = none → r.role = .active →
            t = { s with red := { base t with partnerRole := role, partnerHealthy := healthy } }) ∧
          (∀ role claim healthy w h, x = .heartbeat role claim healthy w .notCompared h → r.evalSpan = none → r.role = .standby →
            t = { s with red := { base t with partnerRole := role, partnerHealthy := healthy, transferAt := if h.isSome then h else r.transferAt } }) ∧
          (∀ a z last, x = .stateImage (.pathTime a z) last → r.role = .passive → a.toNat < 9 →
            ∃ u : State, u = s.setArmSet a.toNat { s.armSet a.toNat with ptime := z }
              ∧ t = { u with red := if last then { base t with role := .standby, stateAligned := true } else base t }))) ∧
    (live → s.came .heartbeat = true → r.role ≠ .active →
      exec .crossLinkHeartbeat s = .next { s with tb := (s.disarm .heartbeat).tb, red := { r with
        spanCmp := .notCompared, imaged := false, withdrawn := false
        outbox := r.outbox ++ [.heartbeat (BitVec.ofNat 2 (match r.role with | .single => 0 | .active => 1 | .standby => 2 | .passive => 3))
          s.cfg.pair.claim r.healthy r.withdrawn .notCompared none] } }) ∧
    (live → s.came .heartbeat = true → r.role = .active → s.dev.cell ≠ .parked → r.transferAt = none →
      (r.spanCmp = .matched → r.transferDue = false → s.cfg.pair.partnerClaim.toNat ≤ s.cfg.pair.claim.toNat →
        exec .crossLinkHeartbeat s = .next { s with tb := (s.disarm .heartbeat).tb, red := { r with
          spanCmp := .notCompared, imaged := false, withdrawn := false
          matchRun := BitVec.ofNat 9 (min 256 (r.matchRun.toNat + 1)), run := 0, diverged := false, healthy := true, evalSpan := none, judged := false
          outbox := r.outbox ++ [.heartbeat 1 s.cfg.pair.claim true r.withdrawn .matched none] } }) ∧
      (r.spanCmp = .mismatched → r.transferDue = false → s.cfg.pair.partnerClaim.toNat ≤ s.cfg.pair.claim.toNat → inc r.run ≠ 8 →
        exec .crossLinkHeartbeat s = .next { s with tb := (s.disarm .heartbeat).tb, red := { r with
          spanCmp := .notCompared, imaged := false, withdrawn := false, matchRun := 0, mismatched := inc r.mismatched, run := inc r.run, diverged := true
          evalSpan := if inc r.run = 2 then some s.span32 else r.evalSpan
          outbox := r.outbox ++ [.heartbeat 1 s.cfg.pair.claim r.healthy r.withdrawn .mismatched none] } }) ∧
      (r.spanCmp = .notCompared → r.transferDue = true →
        exec .crossLinkHeartbeat s = .next { s with tb := (s.disarm .heartbeat).tb, red := { r with
          spanCmp := .notCompared, imaged := false, withdrawn := false, transferDue := false, transferAt := some (s.span32 + 1)
          outbox := r.outbox ++ [.heartbeat 1 s.cfg.pair.claim r.healthy r.withdrawn .notCompared (some (s.span32 + 1))] } })) ∧
    exec .commandRecordMissed s = .next (if r.role = .standby then { s with red := { r with healthy := false } } else s) ∧
    (s.cfg.pair.pair = true → exec .crossLinkSilent s = .next { s with red := { r with
      lane18 := false, lane19 := false, partnerAlive := false, silent := decide (r.role = .standby), ahead18 := [], ahead19 := [] } }) ∧
    (r.role = .standby → r.silent = true → r.declared = false →
      exec .expectedDeckTimeout s = .next ({ s with red := { r with declared := true, declaredAt := s.tb.tb0.ns } }.raise { code := 0x1103, source := srcRed })) ∧
    (¬ (r.role = .standby ∧ r.silent = true ∧ r.declared = false) → exec .expectedDeckTimeout s = .next s) ∧
    (¬ (r.role = .standby ∧ r.declared = true ∧ 1000 ≤ (s.tb.tb0.ns - r.declaredAt).toNat) → exec .takeover s = .next s) ∧
    (r.role = .standby → r.declared = true → 1000 ≤ (s.tb.tb0.ns - r.declaredAt).toNat → (∀ g ∈ s.sharedRings, (s.port (eastPort g)).linkUp = true ∧ (s.port (westPort g)).linkUp = true) →
      ∃ t, exec .takeover s = .next t
        ∧ t = { s with lr := t.lr, red := { r with role := .active, declared := false, silent := false, takeovers := inc r.takeovers, transferAt := none } }
        ∧ ∀ g, t.ring g = if s.cfg.pair.pair && s.cfg.pair.sharedRings.getLsbD g && decide (g < 14) then
            (if (s.ring g).phase.runs then { s.ring g with consecutive := 0, start := .keystone, keystoneClaim := (s.ringCfg g).claim, deliverDone := true }
             else { s.ring g with consecutive := 0 }) else s.ring g) ∧
    (∀ h, r.transferAt = some h → 0 ≤ (s.span32 - h).toInt → r.role = .active ∨ r.role = .standby →
      let leads := decide (r.role = .standby)
      ∃ u : State, exec .transfer s = .next (u.raise { code := 0x1103, source := srcRed })
        ∧ u = { s with lr := u.lr, red := { r with
            transferAt := none, transfers := inc r.transfers, role := if leads then .active else .standby, partnerRole := if leads then 2 else 1 } }
        ∧ ∀ g, u.ring g = if s.cfg.pair.pair && s.cfg.pair.sharedRings.getLsbD g && decide (g < 14) then
            (if leads then (if (s.ring g).phase.runs then { s.ring g with start := .keystone, keystoneClaim := (s.ringCfg g).claim, deliverDone := true } else s.ring g)
             else if (s.ring g).start = .keystone then { s.ring g with start := .node, keystoneClaim := s.cfg.pair.partnerClaim } else s.ring g) else s.ring g) ∧
    (∀ h, r.transferAt = some h → (s.span32 - h).toInt < 0 → exec .transfer s = .next s) ∧ (r.transferAt = none → exec .transfer s = .next s)

/-- Each reset source stops the core die and counts, the release decides what survives, warm reset and DORMANT are prepared, and rail monitors act. -/
def Obligations.ResetsKeepWhatSurvives : Prop :=
  ∀ s : State,
    let tbKept := fun (m : TbMode) (t : State) => t.tb.tb2 = s.tb.tb2
      ∧ ∀ n, n = 0 ∨ n = 1 ∨ n = 3 → (t.timeBase n).ns = (s.timeBase n).ns ∧ (t.timeBase n).frac = (s.timeBase n).frac
        ∧ (t.timeBase n).rate = (s.timeBase n).rate ∧ (t.timeBase n).mode = m ∧ (t.timeBase n).steps = 0
    let cleared := fun (t : State) => t.dev.cell = .uncatalogued ∧ t.hq.service = false ∧ t.hq.queues = [] ∧ t.cat.targetOpen = false ∧ t.cat.loaded = false
      ∧ t.cfg = {} ∧ t.vc = {} ∧ t.ts = {} ∧ t.evt.buffer = [] ∧ t.evt.queue = []
      ∧ (∀ a, 0x0100000000 ≤ a → Table.get 0 t.mem a = 0)
      ∧ t.cat.store = s.cat.store ∧ t.cat.keys = s.cat.keys ∧ t.par = s.par
    let down := fun (src : ResetSource) (t : State) => t.pwr.inReset = true ∧ src ∈ t.pwr.causes ∧ (∀ x ∈ s.pwr.causes, x ∈ t.pwr.causes)
      ∧ cleared t ∧ tbKept .free t ∧ t.snap = s.snap ∧ t.dio.die = s.dio.die ∧ t.memc.records = s.memc.records
      ∧ t.evt.log = s.evt.log ∧ t.evt.nextSeq = s.evt.nextSeq - BitVec.ofNat 32 s.evt.buffer.length
      ∧ (∀ a, a < 0x0100000000 → Table.get 0 t.mem a = Table.get 0 s.mem a)
      ∧ t.pwr.warmPrepared = false ∧ t.pwr.snapValid = s.pwr.snapValid ∧ t.pwr.dormants = s.pwr.dormants
    let reset := fun (c : Instr) (src : ResetSource) =>
      (s.pwr.dormant = false → ∃ t, exec c s = .next t ∧ down src t ∧ t.pwr.rstNs = (if src = .rstN then inc s.pwr.rstNs else s.pwr.rstNs)
        ∧ t.pwr.watchdogs = (if src = .watchdog then inc s.pwr.watchdogs else s.pwr.watchdogs)
        ∧ t.pwr.warms = (if src = .warm then inc s.pwr.warms else s.pwr.warms)
        ∧ t.pwr.brownOuts = (if src = .brownOut then inc s.pwr.brownOuts else s.pwr.brownOuts))
    reset .rstNAssert .rstN ∧
    (s.pwr.dormant = true → ∃ t, exec .rstNAssert s = .next t ∧ t = { s with pwr := { s.pwr with rstNs := inc s.pwr.rstNs, causes := t.pwr.causes } } ∧ .rstN ∈ t.pwr.causes) ∧
    (s.pwr.wdArmed = true → s.pwr.inReset = false → reset .tb2WatchdogExpiry .watchdog) ∧
    (¬ (s.pwr.wdArmed = true ∧ s.pwr.dormant = false ∧ s.pwr.inReset = false) → exec .tb2WatchdogExpiry s = .next s) ∧
    (s.pwr.warmPrepared = true → s.pwr.inReset = false → reset .warmReset .warm) ∧
    (¬ (s.pwr.warmPrepared = true ∧ s.pwr.inReset = false) → exec .warmReset s = .next s) ∧
    (∃ t, exec .powerOnReset s = .next t ∧ cleared t ∧ t.mem = []
      ∧ t.tb = { refFault := s.tb.refFault, refCount := s.tb.refCount, refBad := s.tb.refBad, refPending := s.tb.refPending }
      ∧ t.pwr.inReset = true ∧ t.pwr.causes = [.powerOn] ∧ t.pwr.rstNs = 0 ∧ t.pwr.aboveReset.getLsbD 2 = true
      ∧ t.dio = {} ∧ t.evt.log = s.evt.log ∧ t.snap = s.snap ∧ t.memc.records = s.memc.records ∧ ∀ l, t.lot l = 0) ∧
    (ResetSource.rstN ∈ s.pwr.causes → s.par.up = true →
      exec .resetHeld s = .next { s with par := { s.par with log := s.par.log ++ [.resetHeld] }, pwr := { s.pwr with resetHeld := true } }) ∧
    (∀ p : Packet, s.takes p = true → unusedZero p.params [(0, 4)] = true → param p.params 0 4 = 0xA5A5 →
      let u := (s.taken p 0x0003 []).reply p.queue.toNat (s.ctxFor p 0x0003 []) {}
      (s.dev.cell = .hold ∨ s.dev.cell = .run ∨ s.dev.cell = .stopping → exec (.devWarmReset p) s = .next (s.replied p 0x0003 [] fun t => (t, { status := 0x0004 }))) ∧
      (s.dev.cell ≠ .hold → s.dev.cell ≠ .run → s.dev.cell ≠ .stopping → ∃ t, exec (.devWarmReset p) s = .next t
        ∧ t = { u with hq := { u.hq with stopped := true }, evt := { s.evt with buffer := [], log := t.evt.log, oldestSeq := t.evt.oldestSeq }
                       snap := t.snap, pwr := { s.pwr with snapValid := true, warmPrepared := true } }
        ∧ t.snap.isSome = true ∧ (∀ o, t.snap = some o → o.memc = s.memc ∧ o.ts = s.ts ∧ o.vc = s.vc)
        ∧ (∀ r, s.evt.buffer = [r] → Table.get {} t.evt.log r.seq.toNat = r))) ∧
    (∀ p : Packet, s.takes p = true → unusedZero p.params [] = true →
      (s.dev.cell ≠ .loaded → s.dev.cell ≠ .parked → exec (.devDormant p) s = .next (s.replied p 0x0005 [] fun t => (t, { status := 0x0004 }))) ∧
      (s.dev.cell = .loaded ∨ s.dev.cell = .parked → ∃ t, exec (.devDormant p) s = .next t ∧ cleared t ∧ tbKept (if s.tb.refFault then .free else .holdover) t ∧ t.mem = []
        ∧ t.pwr.dormant = true ∧ t.pwr.coreEn = false ∧ t.pwr.wdArmed = false ∧ t.pwr.dormants = inc s.pwr.dormants ∧ t.pwr.snapValid = true
        ∧ t.hq.linkUp = false ∧ t.dio.die = s.dio.die ∧ (∀ l, t.lot l = 0)
        ∧ ∃ o, t.snap = some o ∧ o.memc = s.memc ∧ o.ts = s.ts)) ∧
    (s.pwr.dormant = false → exec .wake s = .next s) ∧
    (s.pwr.dormant = true → ∃ t, exec .wake s = .next t ∧ t = { s with tb := t.tb, pwr := { s.pwr with
        dormant := false, coreEn := true, inReset := true, causes := s.pwr.causes ++ [.wake] } } ∧ tbKept .free t) ∧
    (let recovered := ∀ r, r < 4 → s.pwr.aboveReset.getLsbD r = true
     (s.pwr.inReset = false ∨ ¬ recovered → ∀ io, exec (.resetRelease io) s = .next s) ∧
     (s.pwr.inReset = true → recovered → s.tb.refPending = none →
      let has := fun (x : ResetSource) => decide (x ∈ s.pwr.causes)
      let hard := has .powerOn || has .brownOut || has .rstN
      let keeps := !hard && (has .watchdog || has .warm)
      let restores := !hard && !has .watchdog && (has .warm || has .wake) && s.pwr.snapValid
      ∃ t, exec (.resetRelease { failed := none }) s = .next t
        ∧ t.pwr.inReset = false ∧ t.pwr.causes = [] ∧ t.pwr.coreEn = true ∧ t.pwr.wdArmed = true ∧ t.pwr.wdTimeoutMs = 1000
        ∧ t.pwr.causePowerOn = has .powerOn ∧ t.pwr.causeBrownOut = has .brownOut ∧ t.pwr.causeRstN = has .rstN ∧ t.pwr.causeWatchdog = has .watchdog
        ∧ t.pwr.causeWarm = has .warm ∧ t.pwr.causeWake = has .wake ∧ t.pwr.causeRails = s.pwr.pendingRails ∧ t.pwr.causeResetHeld = s.pwr.resetHeld
        ∧ t.memc.sramReady = true ∧ t.hq.hostReady = true ∧ t.dev.cell = s.dev.cell ∧ t.par = s.par ∧ t.evt.reference = s.evt.nextSeq
        ∧ (has .powerOn = true ∨ has .brownOut = true ∨ has .rstN = true ∨ has .watchdog = true ∨ has .warm = true ∨ has .wake = true →
            (∀ a, Table.get 0 t.mem a = if keeps then Table.get 0 s.mem a else 0) ∧ t.memc.lpddrReady = keeps
            ∧ (∀ l, l < 65536 → t.lot l = if keeps then 1 else 0))
        ∧ (∀ o, s.snap = some o → restores = true → t.memc.corrected = o.memc.corrected ∧ t.ts.tokens = o.ts.tokens ∧ t.evt.reactions = o.evt.reactions
            ∧ t.pwr.snapValid = false ∧ t.pwr.snapRestored = true)
        ∧ (restores = false → t.memc.corrected = s.memc.corrected ∧ t.ts = s.ts ∧ t.pwr.snapRestored = false))) ∧
    (∀ (rail : BitVec 4) (mv : W16), rail.toNat < 12 →
      let r := rail.toNat
      let o := s.rail r
      let seen : Rail := { o with nowMv := mv, minMv := if mv.toNat < o.minMv.toNat then mv else o.minMv }
      let off := s.pwr.dormant = true ∧ r < 2
      let level := railLevels r
      let bit := fun (x : BitVec 12) (i : Nat) => x.getLsbD i
      (off → exec (.dipStart rail mv) s = .next s ∧ exec (.dipEnd rail mv) s = .next s ∧ exec (.warningDwellExpiry rail) s = .next s
        ∧ exec (.railBelowResetLevel rail mv) s = .next s ∧ exec (.railAboveResetLevel rail mv) s = .next s) ∧
      (¬ off →
        (bit s.pwr.dips r = false → mv.toNat < level.warning → ∃ u : State, exec (.dipStart rail mv) s = .next (u.raiseRail 0x0301 r)
          ∧ u = { s with pwr := { s.pwr with rails := u.pwr.rails, dips := u.pwr.dips, dwelled := u.pwr.dwelled } }
          ∧ u.rail r = { seen with warnings := inc o.warnings } ∧ (∀ k, k ≠ r → u.rail k = s.rail k)
          ∧ ∀ k, k < 12 → bit u.pwr.dips k = (bit s.pwr.dips k || decide (k = r)) ∧ bit u.pwr.dwelled k = (bit s.pwr.dwelled k && decide (k ≠ r))) ∧
        (bit s.pwr.dips r = true ∨ level.warning ≤ mv.toNat → exec (.dipStart rail mv) s = .next s) ∧
        (bit s.pwr.dips r = true → bit s.pwr.dwelled r = false → ∃ u : State, exec (.warningDwellExpiry rail) s = .next (u.raiseRail 0x0302 r)
          ∧ u = { s with pwr := { s.pwr with rails := u.pwr.rails, dwelled := u.pwr.dwelled } }
          ∧ u.rail r = { o with dwells := inc o.dwells } ∧ bit u.pwr.dwelled r = true) ∧
        (bit s.pwr.dips r = false ∨ bit s.pwr.dwelled r = true → exec (.warningDwellExpiry rail) s = .next s) ∧
        (mv.toNat < level.warning + level.hysteresis → exec (.dipEnd rail mv) s = .next s) ∧
        (level.warning + level.hysteresis ≤ mv.toNat → ∃ t, exec (.dipEnd rail mv) s = .next t ∧ t = { s with pwr := { s.pwr with rails := t.pwr.rails, dips := t.pwr.dips, dwelled := t.pwr.dwelled } }
          ∧ t.rail r = seen ∧ ∀ k, k < 12 → bit t.pwr.dips k = (bit s.pwr.dips k && decide (k ≠ r))) ∧
        (bit s.pwr.aboveReset r = true → mv.toNat < level.reset → s.pwr.dormant = false → r < 2 → ∃ t, exec (.railBelowResetLevel rail mv) s = .next t ∧ down .brownOut t
          ∧ t.pwr.brownOuts = inc s.pwr.brownOuts ∧ bit t.pwr.pendingRails r = true ∧ bit t.pwr.aboveReset r = false ∧ (t.rail r).nowMv = mv) ∧
        (bit s.pwr.aboveReset r = true → mv.toNat < level.reset → r = 2 → ∃ t, exec (.railBelowResetLevel rail mv) s = .next t ∧ cleared t ∧ t.mem = [] ∧ t.pwr.inReset = true
          ∧ t.pwr.causes = [.powerOn] ∧ bit t.pwr.pendingRails r = true) ∧
        (bit s.pwr.aboveReset r = true → mv.toNat < level.reset → s.pwr.dormant = false → r = 3 → ∃ t, exec (.railBelowResetLevel rail mv) s = .next t ∧ cleared t
          ∧ t.pwr.inReset = true ∧ .brownOut ∈ t.pwr.causes ∧ t.dio.die = {} ∧ t.pwr.brownOuts = inc s.pwr.brownOuts ∧ bit t.pwr.pendingRails r = true) ∧
        (bit s.pwr.aboveReset r = true → mv.toNat < level.reset → 6 ≤ r → ∃ t, exec (.railBelowResetLevel rail mv) s = .next t
          ∧ t = { s with pwr := { s.pwr with rails := t.pwr.rails, aboveReset := t.pwr.aboveReset, pendingRails := t.pwr.pendingRails }, dio := t.dio }
          ∧ t.rail r = { seen with resets := inc o.resets } ∧ bit t.pwr.pendingRails r = true ∧ bit t.pwr.aboveReset r = false
          ∧ ∀ p, p < 48 → p / 8 + 6 = r → t.dio.die.outputs.getLsbD p = false) ∧
        (bit s.pwr.aboveReset r = false ∨ level.reset ≤ mv.toNat → exec (.railBelowResetLevel rail mv) s = .next s) ∧
        (mv.toNat < level.reset + level.hysteresis → exec (.railAboveResetLevel rail mv) s = .next s) ∧
        (level.reset + level.hysteresis ≤ mv.toNat → ∃ t, exec (.railAboveResetLevel rail mv) s = .next t
          ∧ t = { s with pwr := { s.pwr with rails := t.pwr.rails, aboveReset := t.pwr.aboveReset }, dio := t.dio, saf := t.saf, par := t.par }
          ∧ t.rail r = seen ∧ (∀ k, k < 12 → bit t.pwr.aboveReset k = (bit s.pwr.aboveReset k || decide (k = r)))
          ∧ (r < 5 → t.dio = s.dio ∧ t.saf = s.saf ∧ t.par = s.par))))
end

