-- ==== Sys2Proof/Laws/Table.lean ====
section
/-! SUPPORT. The laws of sparse tables: what a read finds after a write, that a second write to a key stands alone, and that every operation keeps the canonical form. -/
namespace Sys2Proof.Machine

variable {α : Type}

theorem Table.get_drop_same (d : α) (t : Table α) (k : Nat) : Table.get d (t.drop k) k = d := by
  induction t with
  | nil => rfl
  | cons e t ih =>
    by_cases h : e.1 = k
    · simp [Table.drop, h, ih]
    · simp [Table.drop, Table.get, h, ih]

theorem Table.get_drop_ne (d : α) (t : Table α) {k j : Nat} (hj : j ≠ k) : Table.get d (t.drop k) j = Table.get d t j := by
  induction t with
  | nil => rfl
  | cons e t ih =>
    by_cases h : e.1 = k
    · have : e.1 ≠ j := fun x => hj (x.symm.trans h)
      simp [Table.drop, h, ih, Table.get, Ne.symm hj]
    · simp [Table.drop, Table.get, h, ih]

theorem Table.get_place_same (d : α) (t : Table α) (k : Nat) (v : α) (h : ∀ e ∈ t, e.1 ≠ k) :
    Table.get d (Table.place k v t) k = v := by
  induction t with
  | nil => simp [Table.place, Table.get]
  | cons e t ih =>
    have he : e.1 ≠ k := h e (by simp)
    have ht : ∀ e ∈ t, e.1 ≠ k := fun x hx => h x (by simp [hx])
    by_cases hl : k < e.1
    · simp [Table.place, hl, Table.get]
    · simp [Table.place, hl, Table.get, he, ih ht]

theorem Table.get_place_ne (d : α) (t : Table α) {k j : Nat} (v : α) (hj : j ≠ k) :
    Table.get d (Table.place k v t) j = Table.get d t j := by
  induction t with
  | nil => simp [Table.place, Table.get, Ne.symm hj]
  | cons e t ih =>
    by_cases hl : k < e.1
    · simp [Table.place, hl, Table.get, Ne.symm hj]
    · simp [Table.place, hl, Table.get, ih]

theorem Table.drop_no_key (t : Table α) (k : Nat) : ∀ e ∈ t.drop k, e.1 ≠ k := by
  induction t with
  | nil => simp [Table.drop]
  | cons e t ih =>
    intro x hx
    by_cases h : e.1 = k
    · exact ih x (by simpa [Table.drop, h] using hx)
    · simp only [Table.drop, h, if_false, List.mem_cons] at hx
      rcases hx with rfl | hx
      · exact h
      · exact ih x hx

theorem Table.drop_of_no_key (t : Table α) (k : Nat) (h : ∀ e ∈ t, e.1 ≠ k) : t.drop k = t := by
  induction t with
  | nil => rfl
  | cons e t ih =>
    have he : e.1 ≠ k := h e (by simp)
    simp [Table.drop, he, ih (fun x hx => h x (by simp [hx]))]

theorem Table.drop_place (t : Table α) (k : Nat) (v : α) (h : ∀ e ∈ t, e.1 ≠ k) : (Table.place k v t).drop k = t := by
  induction t with
  | nil => simp [Table.place, Table.drop]
  | cons e t ih =>
    have he : e.1 ≠ k := h e (by simp)
    have ht : ∀ e ∈ t, e.1 ≠ k := fun x hx => h x (by simp [hx])
    by_cases hl : k < e.1
    · simp [Table.place, hl, Table.drop, he, Table.drop_of_no_key t k ht]
    · simp [Table.place, hl, Table.drop, he, ih ht]

@[simp] theorem Table.get_nil (d : α) (k : Nat) : Table.get d ([] : Table α) k = d := rfl

theorem Table.above_drop (t : Table α) (j k : Nat) (h : Table.above j t = true) : Table.above j (t.drop k) = true := by
  induction t with
  | nil => rfl
  | cons e t ih =>
    simp only [Table.above, List.all_cons, Bool.and_eq_true] at h
    by_cases he : e.1 = k
    · simpa [Table.drop, he] using ih h.2
    · simp only [Table.drop, he, if_false, Table.above, List.all_cons, Bool.and_eq_true]
      exact ⟨h.1, ih h.2⟩

theorem Table.above_place (t : Table α) (j k : Nat) (v : α) (hk : j < k) (h : Table.above j t = true) :
    Table.above j (Table.place k v t) = true := by
  induction t with
  | nil => simp [Table.place, Table.above, hk]
  | cons e t ih =>
    simp only [Table.above, List.all_cons, Bool.and_eq_true] at h
    by_cases hl : k < e.1
    · simp only [Table.place, hl, if_true, Table.above, List.all_cons, Bool.and_eq_true]
      exact ⟨by simp [hk], h⟩
    · simp only [Table.place, hl, if_false, Table.above, List.all_cons, Bool.and_eq_true]
      exact ⟨h.1, ih h.2⟩

theorem Table.above_mono (t : Table α) {j k : Nat} (hjk : j ≤ k) (h : Table.above k t = true) : Table.above j t = true := by
  simp only [Table.above, List.all_eq_true, decide_eq_true_eq] at h ⊢
  exact fun x hx => Nat.lt_of_le_of_lt hjk (h x hx)

theorem Table.get_above (d : α) (t : Table α) (k j : Nat) (h : Table.above k t = true) (hj : j ≤ k) : Table.get d t j = d := by
  induction t with
  | nil => rfl
  | cons e t ih =>
    simp only [Table.above, List.all_cons, Bool.and_eq_true, decide_eq_true_eq] at h
    have : e.1 ≠ j := by omega
    simp only [Table.get, this, if_false]
    exact ih (by simpa [Table.above] using h.2)

variable [DecidableEq α]

/-- A read finds what was last written. -/
@[simp] theorem Table.get_put_same (d : α) (t : Table α) (k : Nat) (v : α) : Table.get d (t.put d k v) k = v := by
  unfold Table.put
  split
  · next h => rw [h]; exact Table.get_drop_same d t k
  · exact Table.get_place_same d _ k v (Table.drop_no_key t k)

/-- A write leaves every other key. -/
theorem Table.get_put_ne (d : α) (t : Table α) {k j : Nat} (v : α) (hj : j ≠ k) :
    Table.get d (t.put d k v) j = Table.get d t j := by
  unfold Table.put
  split
  · exact Table.get_drop_ne d t hj
  · rw [Table.get_place_ne d _ v hj, Table.get_drop_ne d t hj]

/-- A read after a write, for any key. -/
theorem Table.get_put (d : α) (t : Table α) (k j : Nat) (v : α) :
    Table.get d (t.put d k v) j = if j = k then v else Table.get d t j := by
  split
  · next h => subst h; exact Table.get_put_same d t j v
  · next h => exact Table.get_put_ne d t v h

theorem Table.drop_put (d : α) (t : Table α) (k : Nat) (v : α) : (t.put d k v).drop k = t.drop k := by
  unfold Table.put
  split
  · exact Table.drop_of_no_key _ k (Table.drop_no_key t k)
  · exact Table.drop_place _ k v (Table.drop_no_key t k)

/-- The second of two writes to a key stands alone. -/
@[simp] theorem Table.put_put (d : α) (t : Table α) (k : Nat) (v w : α) : (t.put d k v).put d k w = t.put d k w := by
  unfold Table.put
  have h := Table.drop_put d t k v
  unfold Table.put at h
  rw [h]

@[simp] theorem Table.upd_eq (d : α) (t : Table α) (k : Nat) (f : α → α) : t.upd d k f = t.put d k (f (t.get d k)) := rfl

theorem Table.wf_drop (d : α) (t : Table α) (k : Nat) (h : Table.wf d t = true) : Table.wf d (t.drop k) = true := by
  induction t with
  | nil => rfl
  | cons e t ih =>
    simp only [Table.wf, Bool.and_eq_true] at h
    by_cases he : e.1 = k
    · simpa [Table.drop, he] using ih h.2
    · simp only [Table.drop, he, if_false, Table.wf, Bool.and_eq_true]
      exact ⟨⟨h.1.1, Table.above_drop t _ k h.1.2⟩, ih h.2⟩

theorem Table.wf_place (d : α) (t : Table α) (k : Nat) (v : α) (hv : v ≠ d) (hk : ∀ e ∈ t, e.1 ≠ k)
    (h : Table.wf d t = true) : Table.wf d (Table.place k v t) = true := by
  induction t with
  | nil => simp [Table.place, Table.wf, Table.above, hv]
  | cons e t ih =>
    have hw := h
    simp only [Table.wf, Bool.and_eq_true] at h
    by_cases hl : k < e.1
    · simp only [Table.place, hl, if_true, Table.wf, Bool.and_eq_true, Table.above, List.all_cons]
      exact ⟨⟨by simpa using hv, by simpa using hl, Table.above_mono t (Nat.le_of_lt hl) h.1.2⟩, h⟩
    · have hne : e.1 ≠ k := hk e (by simp)
      have hlt : e.1 < k := by omega
      simp only [Table.place, hl, if_false, Table.wf, Bool.and_eq_true]
      exact ⟨⟨h.1.1, Table.above_place t _ k v hlt h.1.2⟩, ih (fun x hx => hk x (by simp [hx])) h.2⟩

/-- A write keeps the canonical form. -/
theorem Table.wf_put (d : α) (t : Table α) (k : Nat) (v : α) (h : Table.wf d t = true) : Table.wf d (t.put d k v) = true := by
  unfold Table.put
  split
  · exact Table.wf_drop d t k h
  · next hv => exact Table.wf_place d _ k v hv (Table.drop_no_key t k) (Table.wf_drop d t k h)

/-- Canonical tables that read the same are the same data. -/
theorem Table.wf_ext (d : α) (s t : Table α) (hs : Table.wf d s = true) (ht : Table.wf d t = true)
    (h : ∀ k, Table.get d s k = Table.get d t k) : s = t := by
  induction s generalizing t with
  | nil =>
    cases t with
    | nil => rfl
    | cons e t =>
      have := h e.1
      simp only [Table.wf, Bool.and_eq_true, decide_eq_true_eq] at ht
      simp only [Table.get, if_true] at this
      exact absurd this.symm ht.1.1
  | cons a s ih =>
    cases t with
    | nil =>
      have := h a.1
      simp only [Table.wf, Bool.and_eq_true, decide_eq_true_eq] at hs
      simp only [Table.get, if_true] at this
      exact absurd this hs.1.1
    | cons b t =>
      simp only [Table.wf, Bool.and_eq_true, decide_eq_true_eq] at hs ht
      have key : a.1 = b.1 := by
        rcases Nat.lt_trichotomy a.1 b.1 with hlt | heq | hgt
        · have h1 := h a.1
          have : b.1 ≠ a.1 := by omega
          simp only [Table.get, if_true, this, if_false] at h1
          rw [Table.get_above d t b.1 a.1 ht.1.2 (Nat.le_of_lt hlt)] at h1
          exact absurd h1 hs.1.1
        · exact heq
        · have h1 := h b.1
          have : a.1 ≠ b.1 := by omega
          simp only [Table.get, if_true, this, if_false] at h1
          rw [Table.get_above d s a.1 b.1 hs.1.2 (Nat.le_of_lt hgt)] at h1
          exact absurd h1.symm ht.1.1
      have val : a.2 = b.2 := by simpa [Table.get, key] using h a.1
      have rest : s = t := by
        refine ih t hs.2 ht.2 (fun k => ?_)
        by_cases hk : k ≤ a.1
        · rw [Table.get_above d s a.1 k hs.1.2 hk, Table.get_above d t b.1 k ht.1.2 (key ▸ hk)]
        · have h1 := h k
          have e1 : a.1 ≠ k := by omega
          have e2 : b.1 ≠ k := by omega
          simpa only [Table.get, e1, e2, if_false] using h1
      rw [rest, Prod.ext key val]

end Sys2Proof.Machine
end

