-- ==== Sys2Proof/Laws/State.lean ====
section
/-! SUPPORT. What each update of State leaves, field by field, and what a read finds after it, so that no proof unfolds a record update. -/
namespace Sys2Proof.Machine

variable (s : State) (k j : Nat)


section setRing
variable (v : Ring)

@[simp] theorem State.setRing_dev : (s.setRing k v).dev = s.dev := rfl
@[simp] theorem State.setRing_tb : (s.setRing k v).tb = s.tb := rfl
@[simp] theorem State.setRing_pwr : (s.setRing k v).pwr = s.pwr := rfl
@[simp] theorem State.setRing_hq : (s.setRing k v).hq = s.hq := rfl
@[simp] theorem State.setRing_le : (s.setRing k v).le = s.le := rfl
@[simp] theorem State.setRing_za : (s.setRing k v).za = s.za := rfl
@[simp] theorem State.setRing_pg : (s.setRing k v).pg = s.pg := rfl
@[simp] theorem State.setRing_ax : (s.setRing k v).ax = s.ax := rfl
@[simp] theorem State.setRing_dio : (s.setRing k v).dio = s.dio := rfl
@[simp] theorem State.setRing_saf : (s.setRing k v).saf = s.saf := rfl
@[simp] theorem State.setRing_par : (s.setRing k v).par = s.par := rfl
@[simp] theorem State.setRing_memc : (s.setRing k v).memc = s.memc := rfl
@[simp] theorem State.setRing_mem : (s.setRing k v).mem = s.mem := rfl
@[simp] theorem State.setRing_crc : (s.setRing k v).crc = s.crc := rfl
@[simp] theorem State.setRing_ts : (s.setRing k v).ts = s.ts := rfl
@[simp] theorem State.setRing_vc : (s.setRing k v).vc = s.vc := rfl
@[simp] theorem State.setRing_cat : (s.setRing k v).cat = s.cat := rfl
@[simp] theorem State.setRing_cfg : (s.setRing k v).cfg = s.cfg := rfl
@[simp] theorem State.setRing_red : (s.setRing k v).red = s.red := rfl
@[simp] theorem State.setRing_evt : (s.setRing k v).evt = s.evt := rfl
@[simp] theorem State.setRing_snap : (s.setRing k v).snap = s.snap := rfl
@[simp] theorem State.setRing_fresh : (s.setRing k v).fresh = s.fresh := rfl
@[simp] theorem State.setRing_pending : (s.setRing k v).pending = s.pending := rfl
@[simp] theorem State.setRing_ring : (s.setRing k v).ring k = v := Table.get_put_same _ _ _ _
theorem State.setRing_ring_ne (h : j ≠ k) : (s.setRing k v).ring j = s.ring j := Table.get_put_ne _ _ _ h
@[simp] theorem State.setRing_port : (s.setRing k v).port j = s.port j := rfl
@[simp] theorem State.setRing_node (r p : Nat) : (s.setRing k v).node r p = s.node r p := rfl
@[simp] theorem State.setRing_setRing (w : Ring) : (s.setRing k v).setRing k w = s.setRing k w := by simp [State.setRing]
end setRing

section setPort
variable (v : Port)

@[simp] theorem State.setPort_dev : (s.setPort k v).dev = s.dev := rfl
@[simp] theorem State.setPort_tb : (s.setPort k v).tb = s.tb := rfl
@[simp] theorem State.setPort_pwr : (s.setPort k v).pwr = s.pwr := rfl
@[simp] theorem State.setPort_hq : (s.setPort k v).hq = s.hq := rfl
@[simp] theorem State.setPort_le : (s.setPort k v).le = s.le := rfl
@[simp] theorem State.setPort_za : (s.setPort k v).za = s.za := rfl
@[simp] theorem State.setPort_pg : (s.setPort k v).pg = s.pg := rfl
@[simp] theorem State.setPort_ax : (s.setPort k v).ax = s.ax := rfl
@[simp] theorem State.setPort_dio : (s.setPort k v).dio = s.dio := rfl
@[simp] theorem State.setPort_saf : (s.setPort k v).saf = s.saf := rfl
@[simp] theorem State.setPort_par : (s.setPort k v).par = s.par := rfl
@[simp] theorem State.setPort_memc : (s.setPort k v).memc = s.memc := rfl
@[simp] theorem State.setPort_mem : (s.setPort k v).mem = s.mem := rfl
@[simp] theorem State.setPort_crc : (s.setPort k v).crc = s.crc := rfl
@[simp] theorem State.setPort_ts : (s.setPort k v).ts = s.ts := rfl
@[simp] theorem State.setPort_vc : (s.setPort k v).vc = s.vc := rfl
@[simp] theorem State.setPort_cat : (s.setPort k v).cat = s.cat := rfl
@[simp] theorem State.setPort_cfg : (s.setPort k v).cfg = s.cfg := rfl
@[simp] theorem State.setPort_red : (s.setPort k v).red = s.red := rfl
@[simp] theorem State.setPort_evt : (s.setPort k v).evt = s.evt := rfl
@[simp] theorem State.setPort_snap : (s.setPort k v).snap = s.snap := rfl
@[simp] theorem State.setPort_fresh : (s.setPort k v).fresh = s.fresh := rfl
@[simp] theorem State.setPort_pending : (s.setPort k v).pending = s.pending := rfl
@[simp] theorem State.setPort_port : (s.setPort k v).port k = v := Table.get_put_same _ _ _ _
theorem State.setPort_port_ne (h : j ≠ k) : (s.setPort k v).port j = s.port j := Table.get_put_ne _ _ _ h
@[simp] theorem State.setPort_ring : (s.setPort k v).ring j = s.ring j := rfl
@[simp] theorem State.setPort_node (r p : Nat) : (s.setPort k v).node r p = s.node r p := rfl
@[simp] theorem State.setPort_setPort (w : Port) : (s.setPort k v).setPort k w = s.setPort k w := by simp [State.setPort]
end setPort

section setChan
variable (v : LeChan)

@[simp] theorem State.setChan_dev : (s.setChan k v).dev = s.dev := rfl
@[simp] theorem State.setChan_tb : (s.setChan k v).tb = s.tb := rfl
@[simp] theorem State.setChan_pwr : (s.setChan k v).pwr = s.pwr := rfl
@[simp] theorem State.setChan_hq : (s.setChan k v).hq = s.hq := rfl
@[simp] theorem State.setChan_lr : (s.setChan k v).lr = s.lr := rfl
@[simp] theorem State.setChan_za : (s.setChan k v).za = s.za := rfl
@[simp] theorem State.setChan_pg : (s.setChan k v).pg = s.pg := rfl
@[simp] theorem State.setChan_ax : (s.setChan k v).ax = s.ax := rfl
@[simp] theorem State.setChan_dio : (s.setChan k v).dio = s.dio := rfl
@[simp] theorem State.setChan_saf : (s.setChan k v).saf = s.saf := rfl
@[simp] theorem State.setChan_par : (s.setChan k v).par = s.par := rfl
@[simp] theorem State.setChan_memc : (s.setChan k v).memc = s.memc := rfl
@[simp] theorem State.setChan_mem : (s.setChan k v).mem = s.mem := rfl
@[simp] theorem State.setChan_crc : (s.setChan k v).crc = s.crc := rfl
@[simp] theorem State.setChan_ts : (s.setChan k v).ts = s.ts := rfl
@[simp] theorem State.setChan_vc : (s.setChan k v).vc = s.vc := rfl
@[simp] theorem State.setChan_cat : (s.setChan k v).cat = s.cat := rfl
@[simp] theorem State.setChan_cfg : (s.setChan k v).cfg = s.cfg := rfl
@[simp] theorem State.setChan_red : (s.setChan k v).red = s.red := rfl
@[simp] theorem State.setChan_evt : (s.setChan k v).evt = s.evt := rfl
@[simp] theorem State.setChan_snap : (s.setChan k v).snap = s.snap := rfl
@[simp] theorem State.setChan_fresh : (s.setChan k v).fresh = s.fresh := rfl
@[simp] theorem State.setChan_pending : (s.setChan k v).pending = s.pending := rfl
@[simp] theorem State.setChan_chan : (s.setChan k v).chan k = v := Table.get_put_same _ _ _ _
theorem State.setChan_chan_ne (h : j ≠ k) : (s.setChan k v).chan j = s.chan j := Table.get_put_ne _ _ _ h
@[simp] theorem State.setChan_armSet : (s.setChan k v).armSet j = s.armSet j := rfl
@[simp] theorem State.setChan_setChan (w : LeChan) : (s.setChan k v).setChan k w = s.setChan k w := by simp [State.setChan]
end setChan

section setArmSet
variable (v : LeSet)

@[simp] theorem State.setArmSet_dev : (s.setArmSet k v).dev = s.dev := rfl
@[simp] theorem State.setArmSet_tb : (s.setArmSet k v).tb = s.tb := rfl
@[simp] theorem State.setArmSet_pwr : (s.setArmSet k v).pwr = s.pwr := rfl
@[simp] theorem State.setArmSet_hq : (s.setArmSet k v).hq = s.hq := rfl
@[simp] theorem State.setArmSet_lr : (s.setArmSet k v).lr = s.lr := rfl
@[simp] theorem State.setArmSet_za : (s.setArmSet k v).za = s.za := rfl
@[simp] theorem State.setArmSet_pg : (s.setArmSet k v).pg = s.pg := rfl
@[simp] theorem State.setArmSet_ax : (s.setArmSet k v).ax = s.ax := rfl
@[simp] theorem State.setArmSet_dio : (s.setArmSet k v).dio = s.dio := rfl
@[simp] theorem State.setArmSet_saf : (s.setArmSet k v).saf = s.saf := rfl
@[simp] theorem State.setArmSet_par : (s.setArmSet k v).par = s.par := rfl
@[simp] theorem State.setArmSet_memc : (s.setArmSet k v).memc = s.memc := rfl
@[simp] theorem State.setArmSet_mem : (s.setArmSet k v).mem = s.mem := rfl
@[simp] theorem State.setArmSet_crc : (s.setArmSet k v).crc = s.crc := rfl
@[simp] theorem State.setArmSet_ts : (s.setArmSet k v).ts = s.ts := rfl
@[simp] theorem State.setArmSet_vc : (s.setArmSet k v).vc = s.vc := rfl
@[simp] theorem State.setArmSet_cat : (s.setArmSet k v).cat = s.cat := rfl
@[simp] theorem State.setArmSet_cfg : (s.setArmSet k v).cfg = s.cfg := rfl
@[simp] theorem State.setArmSet_red : (s.setArmSet k v).red = s.red := rfl
@[simp] theorem State.setArmSet_evt : (s.setArmSet k v).evt = s.evt := rfl
@[simp] theorem State.setArmSet_snap : (s.setArmSet k v).snap = s.snap := rfl
@[simp] theorem State.setArmSet_fresh : (s.setArmSet k v).fresh = s.fresh := rfl
@[simp] theorem State.setArmSet_pending : (s.setArmSet k v).pending = s.pending := rfl
@[simp] theorem State.setArmSet_armSet : (s.setArmSet k v).armSet k = v := Table.get_put_same _ _ _ _
theorem State.setArmSet_armSet_ne (h : j ≠ k) : (s.setArmSet k v).armSet j = s.armSet j := Table.get_put_ne _ _ _ h
@[simp] theorem State.setArmSet_chan : (s.setArmSet k v).chan j = s.chan j := rfl
@[simp] theorem State.setArmSet_setArmSet (w : LeSet) : (s.setArmSet k v).setArmSet k w = s.setArmSet k w := by simp [State.setArmSet]
end setArmSet

section setSlot
variable (v : ZaSlot)

@[simp] theorem State.setSlot_dev : (s.setSlot k v).dev = s.dev := rfl
@[simp] theorem State.setSlot_tb : (s.setSlot k v).tb = s.tb := rfl
@[simp] theorem State.setSlot_pwr : (s.setSlot k v).pwr = s.pwr := rfl
@[simp] theorem State.setSlot_hq : (s.setSlot k v).hq = s.hq := rfl
@[simp] theorem State.setSlot_lr : (s.setSlot k v).lr = s.lr := rfl
@[simp] theorem State.setSlot_le : (s.setSlot k v).le = s.le := rfl
@[simp] theorem State.setSlot_pg : (s.setSlot k v).pg = s.pg := rfl
@[simp] theorem State.setSlot_ax : (s.setSlot k v).ax = s.ax := rfl
@[simp] theorem State.setSlot_dio : (s.setSlot k v).dio = s.dio := rfl
@[simp] theorem State.setSlot_saf : (s.setSlot k v).saf = s.saf := rfl
@[simp] theorem State.setSlot_par : (s.setSlot k v).par = s.par := rfl
@[simp] theorem State.setSlot_memc : (s.setSlot k v).memc = s.memc := rfl
@[simp] theorem State.setSlot_mem : (s.setSlot k v).mem = s.mem := rfl
@[simp] theorem State.setSlot_crc : (s.setSlot k v).crc = s.crc := rfl
@[simp] theorem State.setSlot_ts : (s.setSlot k v).ts = s.ts := rfl
@[simp] theorem State.setSlot_vc : (s.setSlot k v).vc = s.vc := rfl
@[simp] theorem State.setSlot_cat : (s.setSlot k v).cat = s.cat := rfl
@[simp] theorem State.setSlot_cfg : (s.setSlot k v).cfg = s.cfg := rfl
@[simp] theorem State.setSlot_red : (s.setSlot k v).red = s.red := rfl
@[simp] theorem State.setSlot_evt : (s.setSlot k v).evt = s.evt := rfl
@[simp] theorem State.setSlot_snap : (s.setSlot k v).snap = s.snap := rfl
@[simp] theorem State.setSlot_fresh : (s.setSlot k v).fresh = s.fresh := rfl
@[simp] theorem State.setSlot_pending : (s.setSlot k v).pending = s.pending := rfl
@[simp] theorem State.setSlot_slot : (s.setSlot k v).slot k = v := Table.get_put_same _ _ _ _
theorem State.setSlot_slot_ne (h : j ≠ k) : (s.setSlot k v).slot j = s.slot j := Table.get_put_ne _ _ _ h
@[simp] theorem State.setSlot_lane : (s.setSlot k v).lane j = s.lane j := rfl
@[simp] theorem State.setSlot_setSlot (w : ZaSlot) : (s.setSlot k v).setSlot k w = s.setSlot k w := by simp [State.setSlot]
end setSlot

section setLane
variable (v : Lane)

@[simp] theorem State.setLane_dev : (s.setLane k v).dev = s.dev := rfl
@[simp] theorem State.setLane_tb : (s.setLane k v).tb = s.tb := rfl
@[simp] theorem State.setLane_pwr : (s.setLane k v).pwr = s.pwr := rfl
@[simp] theorem State.setLane_hq : (s.setLane k v).hq = s.hq := rfl
@[simp] theorem State.setLane_lr : (s.setLane k v).lr = s.lr := rfl
@[simp] theorem State.setLane_le : (s.setLane k v).le = s.le := rfl
@[simp] theorem State.setLane_pg : (s.setLane k v).pg = s.pg := rfl
@[simp] theorem State.setLane_ax : (s.setLane k v).ax = s.ax := rfl
@[simp] theorem State.setLane_dio : (s.setLane k v).dio = s.dio := rfl
@[simp] theorem State.setLane_saf : (s.setLane k v).saf = s.saf := rfl
@[simp] theorem State.setLane_par : (s.setLane k v).par = s.par := rfl
@[simp] theorem State.setLane_memc : (s.setLane k v).memc = s.memc := rfl
@[simp] theorem State.setLane_mem : (s.setLane k v).mem = s.mem := rfl
@[simp] theorem State.setLane_crc : (s.setLane k v).crc = s.crc := rfl
@[simp] theorem State.setLane_ts : (s.setLane k v).ts = s.ts := rfl
@[simp] theorem State.setLane_vc : (s.setLane k v).vc = s.vc := rfl
@[simp] theorem State.setLane_cat : (s.setLane k v).cat = s.cat := rfl
@[simp] theorem State.setLane_cfg : (s.setLane k v).cfg = s.cfg := rfl
@[simp] theorem State.setLane_red : (s.setLane k v).red = s.red := rfl
@[simp] theorem State.setLane_evt : (s.setLane k v).evt = s.evt := rfl
@[simp] theorem State.setLane_snap : (s.setLane k v).snap = s.snap := rfl
@[simp] theorem State.setLane_fresh : (s.setLane k v).fresh = s.fresh := rfl
@[simp] theorem State.setLane_pending : (s.setLane k v).pending = s.pending := rfl
@[simp] theorem State.setLane_lane : (s.setLane k v).lane k = v := Table.get_put_same _ _ _ _
theorem State.setLane_lane_ne (h : j ≠ k) : (s.setLane k v).lane j = s.lane j := Table.get_put_ne _ _ _ h
@[simp] theorem State.setLane_slot : (s.setLane k v).slot j = s.slot j := rfl
@[simp] theorem State.setLane_setLane (w : Lane) : (s.setLane k v).setLane k w = s.setLane k w := by simp [State.setLane]
end setLane

section setProf
variable (v : PgChan)

@[simp] theorem State.setProf_dev : (s.setProf k v).dev = s.dev := rfl
@[simp] theorem State.setProf_tb : (s.setProf k v).tb = s.tb := rfl
@[simp] theorem State.setProf_pwr : (s.setProf k v).pwr = s.pwr := rfl
@[simp] theorem State.setProf_hq : (s.setProf k v).hq = s.hq := rfl
@[simp] theorem State.setProf_lr : (s.setProf k v).lr = s.lr := rfl
@[simp] theorem State.setProf_le : (s.setProf k v).le = s.le := rfl
@[simp] theorem State.setProf_za : (s.setProf k v).za = s.za := rfl
@[simp] theorem State.setProf_ax : (s.setProf k v).ax = s.ax := rfl
@[simp] theorem State.setProf_dio : (s.setProf k v).dio = s.dio := rfl
@[simp] theorem State.setProf_saf : (s.setProf k v).saf = s.saf := rfl
@[simp] theorem State.setProf_par : (s.setProf k v).par = s.par := rfl
@[simp] theorem State.setProf_memc : (s.setProf k v).memc = s.memc := rfl
@[simp] theorem State.setProf_mem : (s.setProf k v).mem = s.mem := rfl
@[simp] theorem State.setProf_crc : (s.setProf k v).crc = s.crc := rfl
@[simp] theorem State.setProf_ts : (s.setProf k v).ts = s.ts := rfl
@[simp] theorem State.setProf_vc : (s.setProf k v).vc = s.vc := rfl
@[simp] theorem State.setProf_cat : (s.setProf k v).cat = s.cat := rfl
@[simp] theorem State.setProf_cfg : (s.setProf k v).cfg = s.cfg := rfl
@[simp] theorem State.setProf_red : (s.setProf k v).red = s.red := rfl
@[simp] theorem State.setProf_evt : (s.setProf k v).evt = s.evt := rfl
@[simp] theorem State.setProf_snap : (s.setProf k v).snap = s.snap := rfl
@[simp] theorem State.setProf_fresh : (s.setProf k v).fresh = s.fresh := rfl
@[simp] theorem State.setProf_pending : (s.setProf k v).pending = s.pending := rfl
@[simp] theorem State.setProf_prof : (s.setProf k v).prof k = v := Table.get_put_same _ _ _ _
theorem State.setProf_prof_ne (h : j ≠ k) : (s.setProf k v).prof j = s.prof j := Table.get_put_ne _ _ _ h
@[simp] theorem State.setProf_pgSet : (s.setProf k v).pgSet j = s.pgSet j := rfl
@[simp] theorem State.setProf_setProf (w : PgChan) : (s.setProf k v).setProf k w = s.setProf k w := by simp [State.setProf]
end setProf

section setPgSet
variable (v : PgSet)

@[simp] theorem State.setPgSet_dev : (s.setPgSet k v).dev = s.dev := rfl
@[simp] theorem State.setPgSet_tb : (s.setPgSet k v).tb = s.tb := rfl
@[simp] theorem State.setPgSet_pwr : (s.setPgSet k v).pwr = s.pwr := rfl
@[simp] theorem State.setPgSet_hq : (s.setPgSet k v).hq = s.hq := rfl
@[simp] theorem State.setPgSet_lr : (s.setPgSet k v).lr = s.lr := rfl
@[simp] theorem State.setPgSet_le : (s.setPgSet k v).le = s.le := rfl
@[simp] theorem State.setPgSet_za : (s.setPgSet k v).za = s.za := rfl
@[simp] theorem State.setPgSet_ax : (s.setPgSet k v).ax = s.ax := rfl
@[simp] theorem State.setPgSet_dio : (s.setPgSet k v).dio = s.dio := rfl
@[simp] theorem State.setPgSet_saf : (s.setPgSet k v).saf = s.saf := rfl
@[simp] theorem State.setPgSet_par : (s.setPgSet k v).par = s.par := rfl
@[simp] theorem State.setPgSet_memc : (s.setPgSet k v).memc = s.memc := rfl
@[simp] theorem State.setPgSet_mem : (s.setPgSet k v).mem = s.mem := rfl
@[simp] theorem State.setPgSet_crc : (s.setPgSet k v).crc = s.crc := rfl
@[simp] theorem State.setPgSet_ts : (s.setPgSet k v).ts = s.ts := rfl
@[simp] theorem State.setPgSet_vc : (s.setPgSet k v).vc = s.vc := rfl
@[simp] theorem State.setPgSet_cat : (s.setPgSet k v).cat = s.cat := rfl
@[simp] theorem State.setPgSet_cfg : (s.setPgSet k v).cfg = s.cfg := rfl
@[simp] theorem State.setPgSet_red : (s.setPgSet k v).red = s.red := rfl
@[simp] theorem State.setPgSet_evt : (s.setPgSet k v).evt = s.evt := rfl
@[simp] theorem State.setPgSet_snap : (s.setPgSet k v).snap = s.snap := rfl
@[simp] theorem State.setPgSet_fresh : (s.setPgSet k v).fresh = s.fresh := rfl
@[simp] theorem State.setPgSet_pending : (s.setPgSet k v).pending = s.pending := rfl
@[simp] theorem State.setPgSet_pgSet : (s.setPgSet k v).pgSet k = v := Table.get_put_same _ _ _ _
theorem State.setPgSet_pgSet_ne (h : j ≠ k) : (s.setPgSet k v).pgSet j = s.pgSet j := Table.get_put_ne _ _ _ h
@[simp] theorem State.setPgSet_prof : (s.setPgSet k v).prof j = s.prof j := rfl
@[simp] theorem State.setPgSet_setPgSet (w : PgSet) : (s.setPgSet k v).setPgSet k w = s.setPgSet k w := by simp [State.setPgSet]
end setPgSet

section setAxm
variable (v : AxModule)

@[simp] theorem State.setAxm_dev : (s.setAxm k v).dev = s.dev := rfl
@[simp] theorem State.setAxm_tb : (s.setAxm k v).tb = s.tb := rfl
@[simp] theorem State.setAxm_pwr : (s.setAxm k v).pwr = s.pwr := rfl
@[simp] theorem State.setAxm_hq : (s.setAxm k v).hq = s.hq := rfl
@[simp] theorem State.setAxm_lr : (s.setAxm k v).lr = s.lr := rfl
@[simp] theorem State.setAxm_le : (s.setAxm k v).le = s.le := rfl
@[simp] theorem State.setAxm_za : (s.setAxm k v).za = s.za := rfl
@[simp] theorem State.setAxm_pg : (s.setAxm k v).pg = s.pg := rfl
@[simp] theorem State.setAxm_dio : (s.setAxm k v).dio = s.dio := rfl
@[simp] theorem State.setAxm_saf : (s.setAxm k v).saf = s.saf := rfl
@[simp] theorem State.setAxm_par : (s.setAxm k v).par = s.par := rfl
@[simp] theorem State.setAxm_memc : (s.setAxm k v).memc = s.memc := rfl
@[simp] theorem State.setAxm_mem : (s.setAxm k v).mem = s.mem := rfl
@[simp] theorem State.setAxm_crc : (s.setAxm k v).crc = s.crc := rfl
@[simp] theorem State.setAxm_ts : (s.setAxm k v).ts = s.ts := rfl
@[simp] theorem State.setAxm_vc : (s.setAxm k v).vc = s.vc := rfl
@[simp] theorem State.setAxm_cat : (s.setAxm k v).cat = s.cat := rfl
@[simp] theorem State.setAxm_cfg : (s.setAxm k v).cfg = s.cfg := rfl
@[simp] theorem State.setAxm_red : (s.setAxm k v).red = s.red := rfl
@[simp] theorem State.setAxm_evt : (s.setAxm k v).evt = s.evt := rfl
@[simp] theorem State.setAxm_snap : (s.setAxm k v).snap = s.snap := rfl
@[simp] theorem State.setAxm_fresh : (s.setAxm k v).fresh = s.fresh := rfl
@[simp] theorem State.setAxm_pending : (s.setAxm k v).pending = s.pending := rfl
@[simp] theorem State.setAxm_axm : (s.setAxm k v).axm k = v := Table.get_put_same _ _ _ _
theorem State.setAxm_axm_ne (h : j ≠ k) : (s.setAxm k v).axm j = s.axm j := Table.get_put_ne _ _ _ h
@[simp] theorem State.setAxm_setAxm (w : AxModule) : (s.setAxm k v).setAxm k w = s.setAxm k w := by simp [State.setAxm]
end setAxm

section setCore
variable (v : Core)

@[simp] theorem State.setCore_dev : (s.setCore k v).dev = s.dev := rfl
@[simp] theorem State.setCore_tb : (s.setCore k v).tb = s.tb := rfl
@[simp] theorem State.setCore_pwr : (s.setCore k v).pwr = s.pwr := rfl
@[simp] theorem State.setCore_hq : (s.setCore k v).hq = s.hq := rfl
@[simp] theorem State.setCore_lr : (s.setCore k v).lr = s.lr := rfl
@[simp] theorem State.setCore_le : (s.setCore k v).le = s.le := rfl
@[simp] theorem State.setCore_za : (s.setCore k v).za = s.za := rfl
@[simp] theorem State.setCore_pg : (s.setCore k v).pg = s.pg := rfl
@[simp] theorem State.setCore_ax : (s.setCore k v).ax = s.ax := rfl
@[simp] theorem State.setCore_dio : (s.setCore k v).dio = s.dio := rfl
@[simp] theorem State.setCore_saf : (s.setCore k v).saf = s.saf := rfl
@[simp] theorem State.setCore_par : (s.setCore k v).par = s.par := rfl
@[simp] theorem State.setCore_memc : (s.setCore k v).memc = s.memc := rfl
@[simp] theorem State.setCore_mem : (s.setCore k v).mem = s.mem := rfl
@[simp] theorem State.setCore_crc : (s.setCore k v).crc = s.crc := rfl
@[simp] theorem State.setCore_ts : (s.setCore k v).ts = s.ts := rfl
@[simp] theorem State.setCore_cat : (s.setCore k v).cat = s.cat := rfl
@[simp] theorem State.setCore_cfg : (s.setCore k v).cfg = s.cfg := rfl
@[simp] theorem State.setCore_red : (s.setCore k v).red = s.red := rfl
@[simp] theorem State.setCore_evt : (s.setCore k v).evt = s.evt := rfl
@[simp] theorem State.setCore_snap : (s.setCore k v).snap = s.snap := rfl
@[simp] theorem State.setCore_fresh : (s.setCore k v).fresh = s.fresh := rfl
@[simp] theorem State.setCore_pending : (s.setCore k v).pending = s.pending := rfl
@[simp] theorem State.setCore_core : (s.setCore k v).core k = v := Table.get_put_same _ _ _ _
theorem State.setCore_core_ne (h : j ≠ k) : (s.setCore k v).core j = s.core j := Table.get_put_ne _ _ _ h
@[simp] theorem State.setCore_setCore (w : Core) : (s.setCore k v).setCore k w = s.setCore k w := by simp [State.setCore]
end setCore

section setCtx
variable (v : CrcCtx)

@[simp] theorem State.setCtx_dev : (s.setCtx k v).dev = s.dev := rfl
@[simp] theorem State.setCtx_tb : (s.setCtx k v).tb = s.tb := rfl
@[simp] theorem State.setCtx_pwr : (s.setCtx k v).pwr = s.pwr := rfl
@[simp] theorem State.setCtx_hq : (s.setCtx k v).hq = s.hq := rfl
@[simp] theorem State.setCtx_lr : (s.setCtx k v).lr = s.lr := rfl
@[simp] theorem State.setCtx_le : (s.setCtx k v).le = s.le := rfl
@[simp] theorem State.setCtx_za : (s.setCtx k v).za = s.za := rfl
@[simp] theorem State.setCtx_pg : (s.setCtx k v).pg = s.pg := rfl
@[simp] theorem State.setCtx_ax : (s.setCtx k v).ax = s.ax := rfl
@[simp] theorem State.setCtx_dio : (s.setCtx k v).dio = s.dio := rfl
@[simp] theorem State.setCtx_saf : (s.setCtx k v).saf = s.saf := rfl
@[simp] theorem State.setCtx_par : (s.setCtx k v).par = s.par := rfl
@[simp] theorem State.setCtx_memc : (s.setCtx k v).memc = s.memc := rfl
@[simp] theorem State.setCtx_mem : (s.setCtx k v).mem = s.mem := rfl
@[simp] theorem State.setCtx_ts : (s.setCtx k v).ts = s.ts := rfl
@[simp] theorem State.setCtx_vc : (s.setCtx k v).vc = s.vc := rfl
@[simp] theorem State.setCtx_cat : (s.setCtx k v).cat = s.cat := rfl
@[simp] theorem State.setCtx_cfg : (s.setCtx k v).cfg = s.cfg := rfl
@[simp] theorem State.setCtx_red : (s.setCtx k v).red = s.red := rfl
@[simp] theorem State.setCtx_evt : (s.setCtx k v).evt = s.evt := rfl
@[simp] theorem State.setCtx_snap : (s.setCtx k v).snap = s.snap := rfl
@[simp] theorem State.setCtx_fresh : (s.setCtx k v).fresh = s.fresh := rfl
@[simp] theorem State.setCtx_pending : (s.setCtx k v).pending = s.pending := rfl
@[simp] theorem State.setCtx_ctx : (s.setCtx k v).ctx k = v := Table.get_put_same _ _ _ _
theorem State.setCtx_ctx_ne (h : j ≠ k) : (s.setCtx k v).ctx j = s.ctx j := Table.get_put_ne _ _ _ h
@[simp] theorem State.setCtx_setCtx (w : CrcCtx) : (s.setCtx k v).setCtx k w = s.setCtx k w := by simp [State.setCtx]
end setCtx

section setQueue
variable (v : Queue)

@[simp] theorem State.setQueue_dev : (s.setQueue k v).dev = s.dev := rfl
@[simp] theorem State.setQueue_tb : (s.setQueue k v).tb = s.tb := rfl
@[simp] theorem State.setQueue_pwr : (s.setQueue k v).pwr = s.pwr := rfl
@[simp] theorem State.setQueue_lr : (s.setQueue k v).lr = s.lr := rfl
@[simp] theorem State.setQueue_le : (s.setQueue k v).le = s.le := rfl
@[simp] theorem State.setQueue_za : (s.setQueue k v).za = s.za := rfl
@[simp] theorem State.setQueue_pg : (s.setQueue k v).pg = s.pg := rfl
@[simp] theorem State.setQueue_ax : (s.setQueue k v).ax = s.ax := rfl
@[simp] theorem State.setQueue_dio : (s.setQueue k v).dio = s.dio := rfl
@[simp] theorem State.setQueue_saf : (s.setQueue k v).saf = s.saf := rfl
@[simp] theorem State.setQueue_par : (s.setQueue k v).par = s.par := rfl
@[simp] theorem State.setQueue_memc : (s.setQueue k v).memc = s.memc := rfl
@[simp] theorem State.setQueue_mem : (s.setQueue k v).mem = s.mem := rfl
@[simp] theorem State.setQueue_crc : (s.setQueue k v).crc = s.crc := rfl
@[simp] theorem State.setQueue_ts : (s.setQueue k v).ts = s.ts := rfl
@[simp] theorem State.setQueue_vc : (s.setQueue k v).vc = s.vc := rfl
@[simp] theorem State.setQueue_cat : (s.setQueue k v).cat = s.cat := rfl
@[simp] theorem State.setQueue_cfg : (s.setQueue k v).cfg = s.cfg := rfl
@[simp] theorem State.setQueue_red : (s.setQueue k v).red = s.red := rfl
@[simp] theorem State.setQueue_evt : (s.setQueue k v).evt = s.evt := rfl
@[simp] theorem State.setQueue_snap : (s.setQueue k v).snap = s.snap := rfl
@[simp] theorem State.setQueue_fresh : (s.setQueue k v).fresh = s.fresh := rfl
@[simp] theorem State.setQueue_pending : (s.setQueue k v).pending = s.pending := rfl
@[simp] theorem State.setQueue_queue : (s.setQueue k v).queue k = v := Table.get_put_same _ _ _ _
theorem State.setQueue_queue_ne (h : j ≠ k) : (s.setQueue k v).queue j = s.queue j := Table.get_put_ne _ _ _ h
@[simp] theorem State.setQueue_lot : (s.setQueue k v).lot j = s.lot j := rfl
@[simp] theorem State.setQueue_setQueue (w : Queue) : (s.setQueue k v).setQueue k w = s.setQueue k w := by simp [State.setQueue]
end setQueue

section setWarm
variable (v : WArm)

@[simp] theorem State.setWarm_dev : (s.setWarm k v).dev = s.dev := rfl
@[simp] theorem State.setWarm_tb : (s.setWarm k v).tb = s.tb := rfl
@[simp] theorem State.setWarm_pwr : (s.setWarm k v).pwr = s.pwr := rfl
@[simp] theorem State.setWarm_hq : (s.setWarm k v).hq = s.hq := rfl
@[simp] theorem State.setWarm_lr : (s.setWarm k v).lr = s.lr := rfl
@[simp] theorem State.setWarm_le : (s.setWarm k v).le = s.le := rfl
@[simp] theorem State.setWarm_za : (s.setWarm k v).za = s.za := rfl
@[simp] theorem State.setWarm_pg : (s.setWarm k v).pg = s.pg := rfl
@[simp] theorem State.setWarm_ax : (s.setWarm k v).ax = s.ax := rfl
@[simp] theorem State.setWarm_dio : (s.setWarm k v).dio = s.dio := rfl
@[simp] theorem State.setWarm_par : (s.setWarm k v).par = s.par := rfl
@[simp] theorem State.setWarm_memc : (s.setWarm k v).memc = s.memc := rfl
@[simp] theorem State.setWarm_mem : (s.setWarm k v).mem = s.mem := rfl
@[simp] theorem State.setWarm_crc : (s.setWarm k v).crc = s.crc := rfl
@[simp] theorem State.setWarm_ts : (s.setWarm k v).ts = s.ts := rfl
@[simp] theorem State.setWarm_vc : (s.setWarm k v).vc = s.vc := rfl
@[simp] theorem State.setWarm_cat : (s.setWarm k v).cat = s.cat := rfl
@[simp] theorem State.setWarm_cfg : (s.setWarm k v).cfg = s.cfg := rfl
@[simp] theorem State.setWarm_red : (s.setWarm k v).red = s.red := rfl
@[simp] theorem State.setWarm_evt : (s.setWarm k v).evt = s.evt := rfl
@[simp] theorem State.setWarm_snap : (s.setWarm k v).snap = s.snap := rfl
@[simp] theorem State.setWarm_fresh : (s.setWarm k v).fresh = s.fresh := rfl
@[simp] theorem State.setWarm_pending : (s.setWarm k v).pending = s.pending := rfl
@[simp] theorem State.setWarm_warm : (s.setWarm k v).warm k = v := Table.get_put_same _ _ _ _
theorem State.setWarm_warm_ne (h : j ≠ k) : (s.setWarm k v).warm j = s.warm j := Table.get_put_ne _ _ _ h
@[simp] theorem State.setWarm_setWarm (w : WArm) : (s.setWarm k v).setWarm k w = s.setWarm k w := by simp [State.setWarm]
end setWarm

section setParm
variable (v : PArm)

@[simp] theorem State.setParm_dev : (s.setParm k v).dev = s.dev := rfl
@[simp] theorem State.setParm_tb : (s.setParm k v).tb = s.tb := rfl
@[simp] theorem State.setParm_pwr : (s.setParm k v).pwr = s.pwr := rfl
@[simp] theorem State.setParm_hq : (s.setParm k v).hq = s.hq := rfl
@[simp] theorem State.setParm_lr : (s.setParm k v).lr = s.lr := rfl
@[simp] theorem State.setParm_le : (s.setParm k v).le = s.le := rfl
@[simp] theorem State.setParm_za : (s.setParm k v).za = s.za := rfl
@[simp] theorem State.setParm_pg : (s.setParm k v).pg = s.pg := rfl
@[simp] theorem State.setParm_ax : (s.setParm k v).ax = s.ax := rfl
@[simp] theorem State.setParm_dio : (s.setParm k v).dio = s.dio := rfl
@[simp] theorem State.setParm_saf : (s.setParm k v).saf = s.saf := rfl
@[simp] theorem State.setParm_memc : (s.setParm k v).memc = s.memc := rfl
@[simp] theorem State.setParm_mem : (s.setParm k v).mem = s.mem := rfl
@[simp] theorem State.setParm_crc : (s.setParm k v).crc = s.crc := rfl
@[simp] theorem State.setParm_ts : (s.setParm k v).ts = s.ts := rfl
@[simp] theorem State.setParm_vc : (s.setParm k v).vc = s.vc := rfl
@[simp] theorem State.setParm_cat : (s.setParm k v).cat = s.cat := rfl
@[simp] theorem State.setParm_cfg : (s.setParm k v).cfg = s.cfg := rfl
@[simp] theorem State.setParm_red : (s.setParm k v).red = s.red := rfl
@[simp] theorem State.setParm_evt : (s.setParm k v).evt = s.evt := rfl
@[simp] theorem State.setParm_snap : (s.setParm k v).snap = s.snap := rfl
@[simp] theorem State.setParm_fresh : (s.setParm k v).fresh = s.fresh := rfl
@[simp] theorem State.setParm_pending : (s.setParm k v).pending = s.pending := rfl
@[simp] theorem State.setParm_parm : (s.setParm k v).parm k = v := Table.get_put_same _ _ _ _
theorem State.setParm_parm_ne (h : j ≠ k) : (s.setParm k v).parm j = s.parm j := Table.get_put_ne _ _ _ h
@[simp] theorem State.setParm_setParm (w : PArm) : (s.setParm k v).setParm k w = s.setParm k w := by simp [State.setParm]
end setParm

section setPlant
variable (v : PlantPort)

@[simp] theorem State.setPlant_dev : (s.setPlant k v).dev = s.dev := rfl
@[simp] theorem State.setPlant_pwr : (s.setPlant k v).pwr = s.pwr := rfl
@[simp] theorem State.setPlant_hq : (s.setPlant k v).hq = s.hq := rfl
@[simp] theorem State.setPlant_lr : (s.setPlant k v).lr = s.lr := rfl
@[simp] theorem State.setPlant_le : (s.setPlant k v).le = s.le := rfl
@[simp] theorem State.setPlant_za : (s.setPlant k v).za = s.za := rfl
@[simp] theorem State.setPlant_pg : (s.setPlant k v).pg = s.pg := rfl
@[simp] theorem State.setPlant_ax : (s.setPlant k v).ax = s.ax := rfl
@[simp] theorem State.setPlant_dio : (s.setPlant k v).dio = s.dio := rfl
@[simp] theorem State.setPlant_saf : (s.setPlant k v).saf = s.saf := rfl
@[simp] theorem State.setPlant_par : (s.setPlant k v).par = s.par := rfl
@[simp] theorem State.setPlant_memc : (s.setPlant k v).memc = s.memc := rfl
@[simp] theorem State.setPlant_mem : (s.setPlant k v).mem = s.mem := rfl
@[simp] theorem State.setPlant_crc : (s.setPlant k v).crc = s.crc := rfl
@[simp] theorem State.setPlant_ts : (s.setPlant k v).ts = s.ts := rfl
@[simp] theorem State.setPlant_vc : (s.setPlant k v).vc = s.vc := rfl
@[simp] theorem State.setPlant_cat : (s.setPlant k v).cat = s.cat := rfl
@[simp] theorem State.setPlant_cfg : (s.setPlant k v).cfg = s.cfg := rfl
@[simp] theorem State.setPlant_red : (s.setPlant k v).red = s.red := rfl
@[simp] theorem State.setPlant_evt : (s.setPlant k v).evt = s.evt := rfl
@[simp] theorem State.setPlant_snap : (s.setPlant k v).snap = s.snap := rfl
@[simp] theorem State.setPlant_fresh : (s.setPlant k v).fresh = s.fresh := rfl
@[simp] theorem State.setPlant_pending : (s.setPlant k v).pending = s.pending := rfl
@[simp] theorem State.setPlant_plant : (s.setPlant k v).plant k = v := Table.get_put_same _ _ _ _
theorem State.setPlant_plant_ne (h : j ≠ k) : (s.setPlant k v).plant j = s.plant j := Table.get_put_ne _ _ _ h
@[simp] theorem State.setPlant_setPlant (w : PlantPort) : (s.setPlant k v).setPlant k w = s.setPlant k w := by simp [State.setPlant]
end setPlant

section setRail
variable (v : Rail)

@[simp] theorem State.setRail_dev : (s.setRail k v).dev = s.dev := rfl
@[simp] theorem State.setRail_tb : (s.setRail k v).tb = s.tb := rfl
@[simp] theorem State.setRail_hq : (s.setRail k v).hq = s.hq := rfl
@[simp] theorem State.setRail_lr : (s.setRail k v).lr = s.lr := rfl
@[simp] theorem State.setRail_le : (s.setRail k v).le = s.le := rfl
@[simp] theorem State.setRail_za : (s.setRail k v).za = s.za := rfl
@[simp] theorem State.setRail_pg : (s.setRail k v).pg = s.pg := rfl
@[simp] theorem State.setRail_ax : (s.setRail k v).ax = s.ax := rfl
@[simp] theorem State.setRail_dio : (s.setRail k v).dio = s.dio := rfl
@[simp] theorem State.setRail_saf : (s.setRail k v).saf = s.saf := rfl
@[simp] theorem State.setRail_par : (s.setRail k v).par = s.par := rfl
@[simp] theorem State.setRail_memc : (s.setRail k v).memc = s.memc := rfl
@[simp] theorem State.setRail_mem : (s.setRail k v).mem = s.mem := rfl
@[simp] theorem State.setRail_crc : (s.setRail k v).crc = s.crc := rfl
@[simp] theorem State.setRail_ts : (s.setRail k v).ts = s.ts := rfl
@[simp] theorem State.setRail_vc : (s.setRail k v).vc = s.vc := rfl
@[simp] theorem State.setRail_cat : (s.setRail k v).cat = s.cat := rfl
@[simp] theorem State.setRail_cfg : (s.setRail k v).cfg = s.cfg := rfl
@[simp] theorem State.setRail_red : (s.setRail k v).red = s.red := rfl
@[simp] theorem State.setRail_evt : (s.setRail k v).evt = s.evt := rfl
@[simp] theorem State.setRail_snap : (s.setRail k v).snap = s.snap := rfl
@[simp] theorem State.setRail_fresh : (s.setRail k v).fresh = s.fresh := rfl
@[simp] theorem State.setRail_pending : (s.setRail k v).pending = s.pending := rfl
@[simp] theorem State.setRail_rail : (s.setRail k v).rail k = v := Table.get_put_same _ _ _ _
theorem State.setRail_rail_ne (h : j ≠ k) : (s.setRail k v).rail j = s.rail j := Table.get_put_ne _ _ _ h
@[simp] theorem State.setRail_setRail (w : Rail) : (s.setRail k v).setRail k w = s.setRail k w := by simp [State.setRail]
end setRail

section setDom
variable (v : Domain)

@[simp] theorem State.setDom_dev : (s.setDom k v).dev = s.dev := rfl
@[simp] theorem State.setDom_tb : (s.setDom k v).tb = s.tb := rfl
@[simp] theorem State.setDom_pwr : (s.setDom k v).pwr = s.pwr := rfl
@[simp] theorem State.setDom_hq : (s.setDom k v).hq = s.hq := rfl
@[simp] theorem State.setDom_lr : (s.setDom k v).lr = s.lr := rfl
@[simp] theorem State.setDom_le : (s.setDom k v).le = s.le := rfl
@[simp] theorem State.setDom_za : (s.setDom k v).za = s.za := rfl
@[simp] theorem State.setDom_pg : (s.setDom k v).pg = s.pg := rfl
@[simp] theorem State.setDom_ax : (s.setDom k v).ax = s.ax := rfl
@[simp] theorem State.setDom_dio : (s.setDom k v).dio = s.dio := rfl
@[simp] theorem State.setDom_saf : (s.setDom k v).saf = s.saf := rfl
@[simp] theorem State.setDom_par : (s.setDom k v).par = s.par := rfl
@[simp] theorem State.setDom_mem : (s.setDom k v).mem = s.mem := rfl
@[simp] theorem State.setDom_crc : (s.setDom k v).crc = s.crc := rfl
@[simp] theorem State.setDom_ts : (s.setDom k v).ts = s.ts := rfl
@[simp] theorem State.setDom_vc : (s.setDom k v).vc = s.vc := rfl
@[simp] theorem State.setDom_cat : (s.setDom k v).cat = s.cat := rfl
@[simp] theorem State.setDom_cfg : (s.setDom k v).cfg = s.cfg := rfl
@[simp] theorem State.setDom_red : (s.setDom k v).red = s.red := rfl
@[simp] theorem State.setDom_evt : (s.setDom k v).evt = s.evt := rfl
@[simp] theorem State.setDom_snap : (s.setDom k v).snap = s.snap := rfl
@[simp] theorem State.setDom_fresh : (s.setDom k v).fresh = s.fresh := rfl
@[simp] theorem State.setDom_pending : (s.setDom k v).pending = s.pending := rfl
@[simp] theorem State.setDom_dom : (s.setDom k v).dom k = v := Table.get_put_same _ _ _ _
theorem State.setDom_dom_ne (h : j ≠ k) : (s.setDom k v).dom j = s.dom j := Table.get_put_ne _ _ _ h
@[simp] theorem State.setDom_setDom (w : Domain) : (s.setDom k v).setDom k w = s.setDom k w := by simp [State.setDom]
end setDom

section setArm
variable (v : ArmState)

@[simp] theorem State.setArm_tb : (s.setArm k v).tb = s.tb := rfl
@[simp] theorem State.setArm_pwr : (s.setArm k v).pwr = s.pwr := rfl
@[simp] theorem State.setArm_hq : (s.setArm k v).hq = s.hq := rfl
@[simp] theorem State.setArm_lr : (s.setArm k v).lr = s.lr := rfl
@[simp] theorem State.setArm_le : (s.setArm k v).le = s.le := rfl
@[simp] theorem State.setArm_za : (s.setArm k v).za = s.za := rfl
@[simp] theorem State.setArm_pg : (s.setArm k v).pg = s.pg := rfl
@[simp] theorem State.setArm_ax : (s.setArm k v).ax = s.ax := rfl
@[simp] theorem State.setArm_dio : (s.setArm k v).dio = s.dio := rfl
@[simp] theorem State.setArm_saf : (s.setArm k v).saf = s.saf := rfl
@[simp] theorem State.setArm_par : (s.setArm k v).par = s.par := rfl
@[simp] theorem State.setArm_memc : (s.setArm k v).memc = s.memc := rfl
@[simp] theorem State.setArm_mem : (s.setArm k v).mem = s.mem := rfl
@[simp] theorem State.setArm_crc : (s.setArm k v).crc = s.crc := rfl
@[simp] theorem State.setArm_ts : (s.setArm k v).ts = s.ts := rfl
@[simp] theorem State.setArm_vc : (s.setArm k v).vc = s.vc := rfl
@[simp] theorem State.setArm_cat : (s.setArm k v).cat = s.cat := rfl
@[simp] theorem State.setArm_cfg : (s.setArm k v).cfg = s.cfg := rfl
@[simp] theorem State.setArm_red : (s.setArm k v).red = s.red := rfl
@[simp] theorem State.setArm_evt : (s.setArm k v).evt = s.evt := rfl
@[simp] theorem State.setArm_snap : (s.setArm k v).snap = s.snap := rfl
@[simp] theorem State.setArm_fresh : (s.setArm k v).fresh = s.fresh := rfl
@[simp] theorem State.setArm_pending : (s.setArm k v).pending = s.pending := rfl
@[simp] theorem State.setArm_arm : (s.setArm k v).arm k = v := Table.get_put_same _ _ _ _
theorem State.setArm_arm_ne (h : j ≠ k) : (s.setArm k v).arm j = s.arm j := Table.get_put_ne _ _ _ h
@[simp] theorem State.setArm_setArm (w : ArmState) : (s.setArm k v).setArm k w = s.setArm k w := by simp [State.setArm]
end setArm

section setLot
variable (v : BitVec 2)

@[simp] theorem State.setLot_dev : (s.setLot k v).dev = s.dev := rfl
@[simp] theorem State.setLot_tb : (s.setLot k v).tb = s.tb := rfl
@[simp] theorem State.setLot_pwr : (s.setLot k v).pwr = s.pwr := rfl
@[simp] theorem State.setLot_lr : (s.setLot k v).lr = s.lr := rfl
@[simp] theorem State.setLot_le : (s.setLot k v).le = s.le := rfl
@[simp] theorem State.setLot_za : (s.setLot k v).za = s.za := rfl
@[simp] theorem State.setLot_pg : (s.setLot k v).pg = s.pg := rfl
@[simp] theorem State.setLot_ax : (s.setLot k v).ax = s.ax := rfl
@[simp] theorem State.setLot_dio : (s.setLot k v).dio = s.dio := rfl
@[simp] theorem State.setLot_saf : (s.setLot k v).saf = s.saf := rfl
@[simp] theorem State.setLot_par : (s.setLot k v).par = s.par := rfl
@[simp] theorem State.setLot_memc : (s.setLot k v).memc = s.memc := rfl
@[simp] theorem State.setLot_mem : (s.setLot k v).mem = s.mem := rfl
@[simp] theorem State.setLot_crc : (s.setLot k v).crc = s.crc := rfl
@[simp] theorem State.setLot_ts : (s.setLot k v).ts = s.ts := rfl
@[simp] theorem State.setLot_vc : (s.setLot k v).vc = s.vc := rfl
@[simp] theorem State.setLot_cat : (s.setLot k v).cat = s.cat := rfl
@[simp] theorem State.setLot_cfg : (s.setLot k v).cfg = s.cfg := rfl
@[simp] theorem State.setLot_red : (s.setLot k v).red = s.red := rfl
@[simp] theorem State.setLot_evt : (s.setLot k v).evt = s.evt := rfl
@[simp] theorem State.setLot_snap : (s.setLot k v).snap = s.snap := rfl
@[simp] theorem State.setLot_fresh : (s.setLot k v).fresh = s.fresh := rfl
@[simp] theorem State.setLot_pending : (s.setLot k v).pending = s.pending := rfl
@[simp] theorem State.setLot_lot : (s.setLot k v).lot k = v := Table.get_put_same _ _ _ _
theorem State.setLot_lot_ne (h : j ≠ k) : (s.setLot k v).lot j = s.lot j := Table.get_put_ne _ _ _ h
@[simp] theorem State.setLot_queue : (s.setLot k v).queue j = s.queue j := rfl
@[simp] theorem State.setLot_setLot (w : BitVec 2) : (s.setLot k v).setLot k w = s.setLot k w := by simp [State.setLot]
end setLot

section setNode
variable (p : Nat) (v : Node)

@[simp] theorem State.setNode_dev : (s.setNode k p v).dev = s.dev := rfl
@[simp] theorem State.setNode_tb : (s.setNode k p v).tb = s.tb := rfl
@[simp] theorem State.setNode_pwr : (s.setNode k p v).pwr = s.pwr := rfl
@[simp] theorem State.setNode_hq : (s.setNode k p v).hq = s.hq := rfl
@[simp] theorem State.setNode_le : (s.setNode k p v).le = s.le := rfl
@[simp] theorem State.setNode_za : (s.setNode k p v).za = s.za := rfl
@[simp] theorem State.setNode_pg : (s.setNode k p v).pg = s.pg := rfl
@[simp] theorem State.setNode_ax : (s.setNode k p v).ax = s.ax := rfl
@[simp] theorem State.setNode_dio : (s.setNode k p v).dio = s.dio := rfl
@[simp] theorem State.setNode_saf : (s.setNode k p v).saf = s.saf := rfl
@[simp] theorem State.setNode_par : (s.setNode k p v).par = s.par := rfl
@[simp] theorem State.setNode_memc : (s.setNode k p v).memc = s.memc := rfl
@[simp] theorem State.setNode_mem : (s.setNode k p v).mem = s.mem := rfl
@[simp] theorem State.setNode_crc : (s.setNode k p v).crc = s.crc := rfl
@[simp] theorem State.setNode_ts : (s.setNode k p v).ts = s.ts := rfl
@[simp] theorem State.setNode_vc : (s.setNode k p v).vc = s.vc := rfl
@[simp] theorem State.setNode_cat : (s.setNode k p v).cat = s.cat := rfl
@[simp] theorem State.setNode_cfg : (s.setNode k p v).cfg = s.cfg := rfl
@[simp] theorem State.setNode_red : (s.setNode k p v).red = s.red := rfl
@[simp] theorem State.setNode_evt : (s.setNode k p v).evt = s.evt := rfl
@[simp] theorem State.setNode_snap : (s.setNode k p v).snap = s.snap := rfl
@[simp] theorem State.setNode_fresh : (s.setNode k p v).fresh = s.fresh := rfl
@[simp] theorem State.setNode_pending : (s.setNode k p v).pending = s.pending := rfl
@[simp] theorem State.setNode_node : (s.setNode k p v).node k p = v := Table.get_put_same _ _ _ _
@[simp] theorem State.setNode_ring : (s.setNode k p v).ring j = s.ring j := rfl
@[simp] theorem State.setNode_port : (s.setNode k p v).port j = s.port j := rfl
end setNode

section draw
variable (w : Nat)

@[simp] theorem State.draw_dev : (s.draw w).2.dev = s.dev := rfl
@[simp] theorem State.draw_tb : (s.draw w).2.tb = s.tb := rfl
@[simp] theorem State.draw_pwr : (s.draw w).2.pwr = s.pwr := rfl
@[simp] theorem State.draw_hq : (s.draw w).2.hq = s.hq := rfl
@[simp] theorem State.draw_lr : (s.draw w).2.lr = s.lr := rfl
@[simp] theorem State.draw_le : (s.draw w).2.le = s.le := rfl
@[simp] theorem State.draw_za : (s.draw w).2.za = s.za := rfl
@[simp] theorem State.draw_pg : (s.draw w).2.pg = s.pg := rfl
@[simp] theorem State.draw_ax : (s.draw w).2.ax = s.ax := rfl
@[simp] theorem State.draw_dio : (s.draw w).2.dio = s.dio := rfl
@[simp] theorem State.draw_saf : (s.draw w).2.saf = s.saf := rfl
@[simp] theorem State.draw_par : (s.draw w).2.par = s.par := rfl
@[simp] theorem State.draw_memc : (s.draw w).2.memc = s.memc := rfl
@[simp] theorem State.draw_mem : (s.draw w).2.mem = s.mem := rfl
@[simp] theorem State.draw_crc : (s.draw w).2.crc = s.crc := rfl
@[simp] theorem State.draw_ts : (s.draw w).2.ts = s.ts := rfl
@[simp] theorem State.draw_vc : (s.draw w).2.vc = s.vc := rfl
@[simp] theorem State.draw_cat : (s.draw w).2.cat = s.cat := rfl
@[simp] theorem State.draw_cfg : (s.draw w).2.cfg = s.cfg := rfl
@[simp] theorem State.draw_red : (s.draw w).2.red = s.red := rfl
@[simp] theorem State.draw_evt : (s.draw w).2.evt = s.evt := rfl
@[simp] theorem State.draw_snap : (s.draw w).2.snap = s.snap := rfl
@[simp] theorem State.draw_pending : (s.draw w).2.pending = s.pending := rfl
@[simp] theorem State.draw_fresh : (s.draw w).2.fresh = s.fresh + 1 := rfl
end draw

section latch
variable (b : Requester) (v : W32)

@[simp] theorem State.latch_dev : (s.latch b k v).dev = s.dev := rfl
@[simp] theorem State.latch_pwr : (s.latch b k v).pwr = s.pwr := rfl
@[simp] theorem State.latch_hq : (s.latch b k v).hq = s.hq := rfl
@[simp] theorem State.latch_lr : (s.latch b k v).lr = s.lr := rfl
@[simp] theorem State.latch_le : (s.latch b k v).le = s.le := rfl
@[simp] theorem State.latch_za : (s.latch b k v).za = s.za := rfl
@[simp] theorem State.latch_pg : (s.latch b k v).pg = s.pg := rfl
@[simp] theorem State.latch_ax : (s.latch b k v).ax = s.ax := rfl
@[simp] theorem State.latch_dio : (s.latch b k v).dio = s.dio := rfl
@[simp] theorem State.latch_saf : (s.latch b k v).saf = s.saf := rfl
@[simp] theorem State.latch_par : (s.latch b k v).par = s.par := rfl
@[simp] theorem State.latch_memc : (s.latch b k v).memc = s.memc := rfl
@[simp] theorem State.latch_mem : (s.latch b k v).mem = s.mem := rfl
@[simp] theorem State.latch_crc : (s.latch b k v).crc = s.crc := rfl
@[simp] theorem State.latch_ts : (s.latch b k v).ts = s.ts := rfl
@[simp] theorem State.latch_vc : (s.latch b k v).vc = s.vc := rfl
@[simp] theorem State.latch_cat : (s.latch b k v).cat = s.cat := rfl
@[simp] theorem State.latch_cfg : (s.latch b k v).cfg = s.cfg := rfl
@[simp] theorem State.latch_red : (s.latch b k v).red = s.red := rfl
@[simp] theorem State.latch_evt : (s.latch b k v).evt = s.evt := rfl
@[simp] theorem State.latch_snap : (s.latch b k v).snap = s.snap := rfl
@[simp] theorem State.latch_fresh : (s.latch b k v).fresh = s.fresh := rfl
@[simp] theorem State.latch_pending : (s.latch b k v).pending = s.pending := rfl
@[simp] theorem State.latch_latched : (s.latch b k v).latched b k = v := Table.get_put_same _ _ _ _
@[simp] theorem State.returned_dev : (s.returned v).dev = s.dev := rfl
@[simp] theorem State.returned_tb : (s.returned v).tb = s.tb := rfl
@[simp] theorem State.returned_pwr : (s.returned v).pwr = s.pwr := rfl
@[simp] theorem State.returned_lr : (s.returned v).lr = s.lr := rfl
@[simp] theorem State.returned_le : (s.returned v).le = s.le := rfl
@[simp] theorem State.returned_za : (s.returned v).za = s.za := rfl
@[simp] theorem State.returned_pg : (s.returned v).pg = s.pg := rfl
@[simp] theorem State.returned_ax : (s.returned v).ax = s.ax := rfl
@[simp] theorem State.returned_dio : (s.returned v).dio = s.dio := rfl
@[simp] theorem State.returned_saf : (s.returned v).saf = s.saf := rfl
@[simp] theorem State.returned_par : (s.returned v).par = s.par := rfl
@[simp] theorem State.returned_memc : (s.returned v).memc = s.memc := rfl
@[simp] theorem State.returned_mem : (s.returned v).mem = s.mem := rfl
@[simp] theorem State.returned_crc : (s.returned v).crc = s.crc := rfl
@[simp] theorem State.returned_ts : (s.returned v).ts = s.ts := rfl
@[simp] theorem State.returned_vc : (s.returned v).vc = s.vc := rfl
@[simp] theorem State.returned_cat : (s.returned v).cat = s.cat := rfl
@[simp] theorem State.returned_cfg : (s.returned v).cfg = s.cfg := rfl
@[simp] theorem State.returned_red : (s.returned v).red = s.red := rfl
@[simp] theorem State.returned_evt : (s.returned v).evt = s.evt := rfl
@[simp] theorem State.returned_snap : (s.returned v).snap = s.snap := rfl
@[simp] theorem State.returned_fresh : (s.returned v).fresh = s.fresh := rfl
@[simp] theorem State.returned_pending : (s.returned v).pending = s.pending := rfl
@[simp] theorem State.returned_readValue : (s.returned v).hq.readValue = leBytes 4 v.toNat := rfl
@[simp] theorem State.hostRefused_dev : s.hostRefused.dev = s.dev := rfl
@[simp] theorem State.hostRefused_tb : s.hostRefused.tb = s.tb := rfl
@[simp] theorem State.hostRefused_pwr : s.hostRefused.pwr = s.pwr := rfl
@[simp] theorem State.hostRefused_lr : s.hostRefused.lr = s.lr := rfl
@[simp] theorem State.hostRefused_le : s.hostRefused.le = s.le := rfl
@[simp] theorem State.hostRefused_za : s.hostRefused.za = s.za := rfl
@[simp] theorem State.hostRefused_pg : s.hostRefused.pg = s.pg := rfl
@[simp] theorem State.hostRefused_ax : s.hostRefused.ax = s.ax := rfl
@[simp] theorem State.hostRefused_dio : s.hostRefused.dio = s.dio := rfl
@[simp] theorem State.hostRefused_saf : s.hostRefused.saf = s.saf := rfl
@[simp] theorem State.hostRefused_par : s.hostRefused.par = s.par := rfl
@[simp] theorem State.hostRefused_memc : s.hostRefused.memc = s.memc := rfl
@[simp] theorem State.hostRefused_mem : s.hostRefused.mem = s.mem := rfl
@[simp] theorem State.hostRefused_crc : s.hostRefused.crc = s.crc := rfl
@[simp] theorem State.hostRefused_ts : s.hostRefused.ts = s.ts := rfl
@[simp] theorem State.hostRefused_vc : s.hostRefused.vc = s.vc := rfl
@[simp] theorem State.hostRefused_cat : s.hostRefused.cat = s.cat := rfl
@[simp] theorem State.hostRefused_cfg : s.hostRefused.cfg = s.cfg := rfl
@[simp] theorem State.hostRefused_red : s.hostRefused.red = s.red := rfl
@[simp] theorem State.hostRefused_evt : s.hostRefused.evt = s.evt := rfl
@[simp] theorem State.hostRefused_snap : s.hostRefused.snap = s.snap := rfl
@[simp] theorem State.hostRefused_fresh : s.hostRefused.fresh = s.fresh := rfl
@[simp] theorem State.hostRefused_pending : s.hostRefused.pending = s.pending := rfl
@[simp] theorem State.hostRefused_regRefused : s.hostRefused.hq.regRefused = inc s.hq.regRefused := rfl
end latch


section vector
variable (v : Nat)

@[simp] theorem State.vector_dev : (s.vector v).dev = s.dev := by unfold State.vector; dsimp only; split <;> rfl
@[simp] theorem State.vector_tb : (s.vector v).tb = s.tb := by unfold State.vector; dsimp only; split <;> rfl
@[simp] theorem State.vector_pwr : (s.vector v).pwr = s.pwr := by unfold State.vector; dsimp only; split <;> rfl
@[simp] theorem State.vector_lr : (s.vector v).lr = s.lr := by unfold State.vector; dsimp only; split <;> rfl
@[simp] theorem State.vector_le : (s.vector v).le = s.le := by unfold State.vector; dsimp only; split <;> rfl
@[simp] theorem State.vector_za : (s.vector v).za = s.za := by unfold State.vector; dsimp only; split <;> rfl
@[simp] theorem State.vector_pg : (s.vector v).pg = s.pg := by unfold State.vector; dsimp only; split <;> rfl
@[simp] theorem State.vector_ax : (s.vector v).ax = s.ax := by unfold State.vector; dsimp only; split <;> rfl
@[simp] theorem State.vector_dio : (s.vector v).dio = s.dio := by unfold State.vector; dsimp only; split <;> rfl
@[simp] theorem State.vector_saf : (s.vector v).saf = s.saf := by unfold State.vector; dsimp only; split <;> rfl
@[simp] theorem State.vector_par : (s.vector v).par = s.par := by unfold State.vector; dsimp only; split <;> rfl
@[simp] theorem State.vector_memc : (s.vector v).memc = s.memc := by unfold State.vector; dsimp only; split <;> rfl
@[simp] theorem State.vector_mem : (s.vector v).mem = s.mem := by unfold State.vector; dsimp only; split <;> rfl
@[simp] theorem State.vector_crc : (s.vector v).crc = s.crc := by unfold State.vector; dsimp only; split <;> rfl
@[simp] theorem State.vector_ts : (s.vector v).ts = s.ts := by unfold State.vector; dsimp only; split <;> rfl
@[simp] theorem State.vector_vc : (s.vector v).vc = s.vc := by unfold State.vector; dsimp only; split <;> rfl
@[simp] theorem State.vector_cat : (s.vector v).cat = s.cat := by unfold State.vector; dsimp only; split <;> rfl
@[simp] theorem State.vector_cfg : (s.vector v).cfg = s.cfg := by unfold State.vector; dsimp only; split <;> rfl
@[simp] theorem State.vector_red : (s.vector v).red = s.red := by unfold State.vector; dsimp only; split <;> rfl
@[simp] theorem State.vector_evt : (s.vector v).evt = s.evt := by unfold State.vector; dsimp only; split <;> rfl
@[simp] theorem State.vector_snap : (s.vector v).snap = s.snap := by unfold State.vector; dsimp only; split <;> rfl
@[simp] theorem State.vector_fresh : (s.vector v).fresh = s.fresh := by unfold State.vector; dsimp only; split <;> rfl
@[simp] theorem State.vector_pending : (s.vector v).pending = s.pending := by unfold State.vector; dsimp only; split <;> rfl
@[simp] theorem State.vector_queue : (s.vector v).queue k = s.queue k := by unfold State.vector; dsimp only; split <;> rfl
@[simp] theorem State.vector_lot : (s.vector v).lot k = s.lot k := by unfold State.vector; dsimp only; split <;> rfl
end vector

section setTimeBase
variable (t : TimeBase)

@[simp] theorem State.setTimeBase_dev : (s.setTimeBase k t).dev = s.dev := by unfold State.setTimeBase; split <;> rfl
@[simp] theorem State.setTimeBase_pwr : (s.setTimeBase k t).pwr = s.pwr := by unfold State.setTimeBase; split <;> rfl
@[simp] theorem State.setTimeBase_hq : (s.setTimeBase k t).hq = s.hq := by unfold State.setTimeBase; split <;> rfl
@[simp] theorem State.setTimeBase_lr : (s.setTimeBase k t).lr = s.lr := by unfold State.setTimeBase; split <;> rfl
@[simp] theorem State.setTimeBase_le : (s.setTimeBase k t).le = s.le := by unfold State.setTimeBase; split <;> rfl
@[simp] theorem State.setTimeBase_za : (s.setTimeBase k t).za = s.za := by unfold State.setTimeBase; split <;> rfl
@[simp] theorem State.setTimeBase_pg : (s.setTimeBase k t).pg = s.pg := by unfold State.setTimeBase; split <;> rfl
@[simp] theorem State.setTimeBase_ax : (s.setTimeBase k t).ax = s.ax := by unfold State.setTimeBase; split <;> rfl
@[simp] theorem State.setTimeBase_dio : (s.setTimeBase k t).dio = s.dio := by unfold State.setTimeBase; split <;> rfl
@[simp] theorem State.setTimeBase_saf : (s.setTimeBase k t).saf = s.saf := by unfold State.setTimeBase; split <;> rfl
@[simp] theorem State.setTimeBase_par : (s.setTimeBase k t).par = s.par := by unfold State.setTimeBase; split <;> rfl
@[simp] theorem State.setTimeBase_memc : (s.setTimeBase k t).memc = s.memc := by unfold State.setTimeBase; split <;> rfl
@[simp] theorem State.setTimeBase_mem : (s.setTimeBase k t).mem = s.mem := by unfold State.setTimeBase; split <;> rfl
@[simp] theorem State.setTimeBase_crc : (s.setTimeBase k t).crc = s.crc := by unfold State.setTimeBase; split <;> rfl
@[simp] theorem State.setTimeBase_ts : (s.setTimeBase k t).ts = s.ts := by unfold State.setTimeBase; split <;> rfl
@[simp] theorem State.setTimeBase_vc : (s.setTimeBase k t).vc = s.vc := by unfold State.setTimeBase; split <;> rfl
@[simp] theorem State.setTimeBase_cat : (s.setTimeBase k t).cat = s.cat := by unfold State.setTimeBase; split <;> rfl
@[simp] theorem State.setTimeBase_cfg : (s.setTimeBase k t).cfg = s.cfg := by unfold State.setTimeBase; split <;> rfl
@[simp] theorem State.setTimeBase_red : (s.setTimeBase k t).red = s.red := by unfold State.setTimeBase; split <;> rfl
@[simp] theorem State.setTimeBase_evt : (s.setTimeBase k t).evt = s.evt := by unfold State.setTimeBase; split <;> rfl
@[simp] theorem State.setTimeBase_snap : (s.setTimeBase k t).snap = s.snap := by unfold State.setTimeBase; split <;> rfl
@[simp] theorem State.setTimeBase_fresh : (s.setTimeBase k t).fresh = s.fresh := by unfold State.setTimeBase; split <;> rfl
@[simp] theorem State.setTimeBase_pending : (s.setTimeBase k t).pending = s.pending := by unfold State.setTimeBase; split <;> rfl
end setTimeBase

end Sys2Proof.Machine
end

