-- ==== Sys2Proof/Laws/Reactions.lean ====
section
/-! SUPPORT. What raising an event and its reaction leave alone, said once: memory and its domains, the catalogue, power, TB2, the cores, field input and output, and the queue of commands. -/
namespace Sys2Proof.Machine

/-- The parts of the state that no event and no reaction changes. -/
structure Aside where
  mem : Table Byte
  memc : MemState
  snap : Option Snapshot
  pending : List Instr
  cfg : Catalogue
  pwr : PwrState
  cat : CatState
  ax : AxState
  dio : DioState
  crc : CrcState
  vc : VcState
  par : ParState
  tb2 : TimeBase

def State.aside (s : State) : Aside :=
  { mem := s.mem, memc := s.memc, snap := s.snap, pending := s.pending, cfg := s.cfg, pwr := s.pwr, cat := s.cat, ax := s.ax
    dio := s.dio, crc := s.crc, vc := s.vc, par := s.par, tb2 := s.tb.tb2 }

variable (s : State)

/-- What each step of a loop leaves alone, the loop leaves alone. -/
theorem State.each_frame {β : Type} (g : State → β) (l : List Nat) (f : State → Nat → State) (h : ∀ s a, g (f s a) = g s) :
    g (s.each l f) = g s := by
  unfold State.each
  induction l generalizing s with
  | nil => rfl
  | cons a l ih => rw [List.foldl_cons, ih, h]

theorem State.each_aside (l : List Nat) (f : State → Nat → State) (h : ∀ s a, (f s a).aside = s.aside) : (s.each l f).aside = s.aside :=
  State.each_frame s State.aside l f h

theorem State.vector_aside (v : Nat) : (s.vector v).aside = s.aside := by simp [State.aside]

theorem State.setMode_aside (n : Nat) (m : TbMode) : (s.setMode n m).aside = s.aside := by
  have h : ∀ k : TbMode, (s.tb.withMode n k).tb2 = s.tb.tb2 := by
    intro k; unfold TbState.withMode; dsimp only; split <;> split <;> rfl
  unfold State.setMode
  generalize (if s.tb.refFault then TbMode.free else m) = k
  dsimp only
  split
  · rw [State.vector_aside]; simp [State.aside, h]
  · simp [State.aside, h]

theorem State.stopHandover_aside (a : Nat) : (s.stopHandover a).aside = s.aside := by
  unfold State.stopHandover
  dsimp only
  split
  · rfl
  · split <;> rfl

theorem State.stopSet_aside (a : Nat) : (s.stopSet a).aside = s.aside := by
  unfold State.stopSet
  dsimp only
  split
  · rfl
  · exact (State.stopHandover_aside _ _).trans (State.each_aside _ _ _ fun _ _ => rfl)

theorem State.ringsOff_aside : s.ringsOff.aside = s.aside := State.each_aside _ _ _ fun _ _ => rfl

theorem State.ringsCease_aside : s.ringsCease.aside = s.aside :=
  State.each_aside _ _ _ fun s r => by split <;> rfl

theorem State.allArms_aside (v : ArmState) : (s.allArms v).aside = s.aside :=
  State.each_aside _ _ _ fun s a => by split <;> rfl

/-- Clearing the solver's results changes memory alone (R161). -/
theorem State.zaClear_eq : s.zaClear = { s with mem := s.zaClear.mem } := by
  have hi : ∀ (o : Octets) (l : List Nat) (t : State),
      (t.each l (fun s a => { s with mem := (o.zipIdx a).foldl (fun m x => Table.put 0 m x.2 x.1) s.mem })) = { t with mem := (t.each l (fun s a =>
        { s with mem := (o.zipIdx a).foldl (fun m x => Table.put 0 m x.2 x.1) s.mem })).mem } := by
    intro o l
    unfold State.each
    induction l with
    | nil => exact fun t => rfl
    | cons a l ih => intro t; rw [List.foldl_cons, ih]
  have ho : ∀ (l : List (Nat × SlotCfg)) (t u : State), u = { t with mem := u.mem } →
      l.foldl (fun s e => s.each [s.zaAddr e.1 e.2.result0At, s.zaAddr e.1 e.2.result1At] (fun s a =>
        { s with mem := (e.2.idleOctets.zipIdx a).foldl (fun m x => Table.put 0 m x.2 x.1) s.mem })) u
      = { t with mem := (l.foldl (fun s e => s.each [s.zaAddr e.1 e.2.result0At, s.zaAddr e.1 e.2.result1At] (fun s a =>
        { s with mem := (e.2.idleOctets.zipIdx a).foldl (fun m x => Table.put 0 m x.2 x.1) s.mem })) u).mem } := by
    intro l
    induction l with
    | nil => exact fun t u h => h
    | cons e l ih =>
      intro t u h
      rw [List.foldl_cons]
      apply ih
      rw [hi, h]
  exact ho s.cfg.slots s s rfl

theorem State.zaLoad_aside : s.zaLoad.aside = { s.aside with mem := s.zaClear.mem } := by
  unfold State.zaLoad
  rw [State.zaClear_eq]
  rfl

theorem State.listen_aside (r : Nat) : (s.listen r).aside = s.aside := rfl

/-- The way to LOADED leaves these parts alone but for memory, in which the solver's results are cleared (R161). -/
theorem State.setCell_loaded (kind : Byte) (event opcode : W16) :
    ∃ t : State, t.mem = s.mem ∧ (s.setCell .loaded kind event opcode).aside = { s.aside with mem := t.zaClear.mem } := by
  refine ⟨_, ?_, (State.vector_aside _ _).trans ((State.allArms_aside _ _).trans ((State.setMode_aside _ _ _).trans
    ((State.ringsOff_aside _).trans (State.zaLoad_aside _))))⟩
  rfl

/-- Any other transition leaves these parts alone. -/
theorem State.setCell_aside (goal : CellState) (kind : Byte) (event opcode : W16) (h : goal ≠ .loaded) :
    (s.setCell goal kind event opcode).aside = s.aside := by
  unfold State.setCell
  dsimp only
  rw [State.vector_aside]
  split
  · exact (State.allArms_aside _ _).trans rfl
  · split
    · exact (State.ringsCease_aside _).trans ((State.allArms_aside _ _).trans rfl)
    · exact (State.allArms_aside _ _).trans rfl
  · exact absurd rfl h
  · exact (State.each_aside _ _ _ fun s r => by split <;> rfl).trans ((State.setMode_aside _ _ _).trans rfl)
  · rfl

theorem State.reacted_aside : s.reacted.aside = s.aside := (State.vector_aside _ _).trans rfl

theorem State.beginStop_aside (goal : StopGoal) (kind : Byte) (event opcode : W16) : (s.beginStop goal kind event opcode).aside = s.aside :=
  (State.each_aside _ _ _ fun s a => State.stopSet_aside s a).trans (Eq.trans rfl (State.setCell_aside s .stopping kind event opcode CellState.noConfusion))

theorem State.armStop_aside (a : Nat) : (s.armStop a).aside = s.aside := by
  unfold State.armStop
  split
  · exact (State.reacted_aside _).trans ((State.stopSet_aside _ _).trans rfl)
  · rfl

theorem State.cellStopReaction_aside (event : W16) : (s.cellStopReaction event).aside = s.aside := by
  unfold State.cellStopReaction
  split
  · exact (State.reacted_aside _).trans (State.beginStop_aside _ _ _ _ _)
  · exact (State.reacted_aside _).trans (State.beginStop_aside _ _ _ _ _)
  · split
    · rfl
    · exact (State.reacted_aside _).trans rfl
  · split
    · rfl
    · exact (State.reacted_aside _).trans rfl
  · split
    · rfl
    · exact (State.reacted_aside _).trans rfl
  · rfl

theorem State.stoReaction_aside (event : W16) : (s.stoReaction event).aside = s.aside := by
  unfold State.stoReaction
  split <;> first | rfl | exact (State.reacted_aside _).trans (State.setCell_aside _ _ _ _ _ CellState.noConfusion)

/-- A reaction leaves these parts alone. -/
theorem State.react_aside (cls : BitVec 3) (event : W16) (arm : Option Nat) : (s.react cls event arm).aside = s.aside := by
  unfold State.react
  split
  · rfl
  · split
    · exact State.armStop_aside _ _
    · split
      · exact State.cellStopReaction_aside _ _
      · split
        · exact State.stoReaction_aside _ _
        · rfl

theorem State.prescribedStop_aside (a : Nat) (event : W16) : (s.prescribedStop a event).aside = s.aside := by
  unfold State.prescribedStop
  split
  · rfl
  · split
    · exact State.armStop_aside _ _
    · exact State.cellStopReaction_aside _ _

/-- Raising an event leaves these parts alone. -/
theorem State.raise_aside (e : Ev) : (s.raise e).aside = s.aside := by
  unfold State.raise
  dsimp only
  split
  · split <;> rfl
  · rw [State.react_aside]; split <;> rfl

@[simp] theorem State.raise_mem (e : Ev) : (s.raise e).mem = s.mem := congrArg Aside.mem (State.raise_aside s e)
@[simp] theorem State.raise_memc (e : Ev) : (s.raise e).memc = s.memc := congrArg Aside.memc (State.raise_aside s e)
@[simp] theorem State.raise_snap (e : Ev) : (s.raise e).snap = s.snap := congrArg Aside.snap (State.raise_aside s e)
@[simp] theorem State.raise_pending (e : Ev) : (s.raise e).pending = s.pending := congrArg Aside.pending (State.raise_aside s e)
@[simp] theorem State.raise_cfg (e : Ev) : (s.raise e).cfg = s.cfg := congrArg Aside.cfg (State.raise_aside s e)
@[simp] theorem State.raise_pwr (e : Ev) : (s.raise e).pwr = s.pwr := congrArg Aside.pwr (State.raise_aside s e)
@[simp] theorem State.raise_cat (e : Ev) : (s.raise e).cat = s.cat := congrArg Aside.cat (State.raise_aside s e)
@[simp] theorem State.raise_ax (e : Ev) : (s.raise e).ax = s.ax := congrArg Aside.ax (State.raise_aside s e)
@[simp] theorem State.raise_dio (e : Ev) : (s.raise e).dio = s.dio := congrArg Aside.dio (State.raise_aside s e)
@[simp] theorem State.raise_crc (e : Ev) : (s.raise e).crc = s.crc := congrArg Aside.crc (State.raise_aside s e)
@[simp] theorem State.raise_vc (e : Ev) : (s.raise e).vc = s.vc := congrArg Aside.vc (State.raise_aside s e)
@[simp] theorem State.raise_par (e : Ev) : (s.raise e).par = s.par := congrArg Aside.par (State.raise_aside s e)
@[simp] theorem State.raise_tb2 (e : Ev) : (s.raise e).tb.tb2 = s.tb.tb2 := congrArg Aside.tb2 (State.raise_aside s e)
theorem State.setCell_mem (goal : CellState) (kind : Byte) (event opcode : W16) (h : goal ≠ .loaded) : (s.setCell goal kind event opcode).mem = s.mem :=
  congrArg Aside.mem (State.setCell_aside s goal kind event opcode h)

/-- What every transition leaves. -/
theorem State.setCell_rest (goal : CellState) (kind : Byte) (event opcode : W16) :
    (s.setCell goal kind event opcode).aside = { s.aside with mem := (s.setCell goal kind event opcode).mem } := by
  by_cases h : goal = .loaded
  · subst h
    obtain ⟨t, -, ht⟩ := State.setCell_loaded s kind event opcode
    have hm : (s.setCell .loaded kind event opcode).mem = t.zaClear.mem := congrArg Aside.mem ht
    rw [hm, ht]
  · rw [State.setCell_mem s _ _ _ _ h, State.setCell_aside s _ _ _ _ h]; rfl

@[simp] theorem State.setCell_snap (goal : CellState) (kind : Byte) (event opcode : W16) : (s.setCell goal kind event opcode).snap = s.snap :=
  (congrArg Aside.snap (State.setCell_rest s goal kind event opcode)).trans rfl
@[simp] theorem State.setCell_cfg (goal : CellState) (kind : Byte) (event opcode : W16) : (s.setCell goal kind event opcode).cfg = s.cfg :=
  (congrArg Aside.cfg (State.setCell_rest s goal kind event opcode)).trans rfl
@[simp] theorem State.setCell_memc (goal : CellState) (kind : Byte) (event opcode : W16) : (s.setCell goal kind event opcode).memc = s.memc :=
  (congrArg Aside.memc (State.setCell_rest s goal kind event opcode)).trans rfl
@[simp] theorem State.setCell_pending (goal : CellState) (kind : Byte) (event opcode : W16) : (s.setCell goal kind event opcode).pending = s.pending :=
  (congrArg Aside.pending (State.setCell_rest s goal kind event opcode)).trans rfl
@[simp] theorem State.setCell_tb2 (goal : CellState) (kind : Byte) (event opcode : W16) : (s.setCell goal kind event opcode).tb.tb2 = s.tb.tb2 :=
  (congrArg Aside.tb2 (State.setCell_rest s goal kind event opcode)).trans rfl

end Sys2Proof.Machine
end

