-- ==== Sys2Proof/Laws/Memory.lean ====
section
/-! SUPPORT. The laws of memory: every operation keeps its canonical form, a read finds what was stored, a store leaves every other octet, and the parts of the state that a write does not touch. -/
namespace Sys2Proof.Machine

theorem Memory.wf_nil : Memory.wf [] = true := rfl

theorem Memory.wf_put (m : Table Byte) (k : Nat) (v : Byte) (h : Memory.wf m = true) : Memory.wf (m.put 0 k v) = true :=
  Table.wf_put 0 m k v h

/-- A run of writes keeps the canonical form. -/
theorem Memory.wf_puts {α : Type} (l : List α) (key : α → Nat) (val : α → Byte) (m : Table Byte) (h : Memory.wf m = true) :
    Memory.wf (l.foldl (fun m x => Table.put 0 m (key x) (val x)) m) = true := by
  induction l generalizing m with
  | nil => exact h
  | cons x l ih => exact ih _ (Memory.wf_put m _ _ h)

theorem Memory.above_filter (m : Table Byte) (p : Nat × Byte → Bool) (k : Nat) (h : Table.above k m = true) :
    Table.above k (m.filter p) = true := by
  simp only [Table.above, List.all_eq_true] at h ⊢
  exact fun x hx => h x (List.mem_filter.mp hx).1

/-- What is left of a canonical memory is canonical. -/
theorem Memory.wf_filter (m : Table Byte) (p : Nat × Byte → Bool) (h : Memory.wf m = true) : Memory.wf (m.filter p) = true := by
  induction m with
  | nil => rfl
  | cons e m ih =>
    simp only [Memory.wf, Table.wf, Bool.and_eq_true] at h ih ⊢
    by_cases hp : p e = true
    · rw [List.filter_cons_of_pos hp]
      simp only [Table.wf, Bool.and_eq_true]
      exact ⟨⟨h.1.1, Memory.above_filter m p _ h.1.2⟩, ih h.2⟩
    · rw [List.filter_cons_of_neg hp]
      exact ih h.2

theorem Memory.wf_lpddrOnly (m : Table Byte) (h : Memory.wf m = true) : Memory.wf (lpddrOnly m) = true :=
  Memory.wf_filter m _ h

theorem Memory.wf_reset : Memory.wf State.reset.mem = true := rfl

/-! Storing octets. -/

theorem State.storeOctets_wf (s : State) (a : Nat) (o : Octets) (h : Memory.wf s.mem = true) : Memory.wf (s.storeOctets a o).mem = true :=
  Memory.wf_puts (o.zipIdx a) (fun x => x.2) (fun x => x.1) s.mem h

/-- The octet at `k` after octets are stored from `a`: the stored one within the run, what stood there outside it. -/
theorem State.storeOctets_get (s : State) (a : Nat) (o : Octets) (k : Nat) :
    Table.get 0 (s.storeOctets a o).mem k = if a ≤ k ∧ k < a + o.length then o.getD (k - a) 0 else Table.get 0 s.mem k := by
  show Table.get 0 ((o.zipIdx a).foldl (fun m x => Table.put 0 m x.2 x.1) s.mem) k = _
  generalize s.mem = m
  induction o generalizing a m with
  | nil => rw [if_neg (by simp only [List.length_nil]; omega)]; rfl
  | cons b o ih =>
    rw [List.zipIdx_cons, List.foldl_cons, ih (a + 1), List.length_cons]
    by_cases h1 : a = k
    · subst h1
      rw [if_neg (by omega), if_pos (by omega), Nat.sub_self, List.getD_cons_zero, Table.get_put_same]
    · have hn : Table.get 0 (Table.put 0 m a b) k = Table.get 0 m k := Table.get_put_ne 0 m b (fun x => h1 x.symm)
      by_cases h2 : a + 1 ≤ k ∧ k < a + 1 + o.length
      · have h3 : a ≤ k ∧ k < a + (o.length + 1) := by omega
        have h4 : k - a = (k - (a + 1)) + 1 := by omega
        rw [if_pos h2, if_pos h3, h4, List.getD_cons_succ]
      · have h3 : ¬ (a ≤ k ∧ k < a + (o.length + 1)) := by omega
        rw [if_neg h2, if_neg h3, hn]

/-- A read of the stored run finds what was stored. -/
theorem State.octets_storeOctets (s : State) (a : Nat) (o : Octets) : (s.storeOctets a o).octets a o.length = o := by
  apply List.ext_getElem
  · simp [State.octets, upto]
  · intro i h1 h2
    have h3 : a ≤ a + i ∧ a + i < a + o.length := by omega
    simp only [State.octets, upto, List.getElem_map, List.getElem_range]
    rw [State.storeOctets_get, if_pos h3, Nat.add_sub_cancel_left]
    simp [List.getD, h2]

/-- A store leaves every other octet. -/
theorem State.storeOctets_outside (s : State) (a : Nat) (o : Octets) (k : Nat) (h : k < a ∨ a + o.length ≤ k) :
    Table.get 0 (s.storeOctets a o).mem k = Table.get 0 s.mem k := by
  rw [State.storeOctets_get, if_neg (by omega)]

/-- Clearing the solver's results keeps the canonical form. -/
theorem State.zaClear_wf (s : State) (h : Memory.wf s.mem = true) : Memory.wf s.zaClear.mem = true := by
  have hi : ∀ (o : Octets) (l : List Nat) (t : State), Memory.wf t.mem = true → Memory.wf (t.each l (fun s a =>
      { s with mem := (o.zipIdx a).foldl (fun m x => Table.put 0 m x.2 x.1) s.mem })).mem = true := by
    intro o l
    unfold State.each
    induction l with
    | nil => exact fun t h => h
    | cons a l ih =>
      intro t h
      rw [List.foldl_cons]
      apply ih
      exact Memory.wf_puts (o.zipIdx a) (fun x => x.2) (fun x => x.1) t.mem h
  have ho : ∀ (l : List (Nat × SlotCfg)) (t : State), Memory.wf t.mem = true → Memory.wf (l.foldl (fun s e =>
      s.each [s.zaAddr e.1 e.2.result0At, s.zaAddr e.1 e.2.result1At] (fun s a =>
        { s with mem := (e.2.idleOctets.zipIdx a).foldl (fun m x => Table.put 0 m x.2 x.1) s.mem })) t).mem = true := by
    intro l
    induction l with
    | nil => exact fun t h => h
    | cons e l ih =>
      intro t h
      rw [List.foldl_cons]
      apply ih
      apply hi
      exact h
  exact ho s.cfg.slots s h

/-- A transition keeps the canonical form. -/
theorem State.setCell_wf (s : State) (goal : CellState) (kind : Byte) (event opcode : W16) (h : Memory.wf s.mem = true) :
    Memory.wf (s.setCell goal kind event opcode).mem = true := by
  by_cases hg : goal = .loaded
  · subst hg
    obtain ⟨t, ht, ha⟩ := State.setCell_loaded s kind event opcode
    have hm : (s.setCell .loaded kind event opcode).mem = t.zaClear.mem := congrArg Aside.mem ha
    rw [hm]
    exact State.zaClear_wf t (ht ▸ h)
  · rw [State.setCell_mem s _ _ _ _ hg]; exact h

/-! Correctable errors (R402, R411, R412). -/

@[simp] theorem State.setDom_octets (s : State) (d : Nat) (m : Domain) (a n : Nat) : (s.setDom d m).octets a n = s.octets a n := rfl

theorem State.remap_mem (s : State) (d : Nat) (w : W32) : (s.remap d w).mem = s.mem := by
  unfold State.remap
  dsimp only
  split
  · rfl
  · split
    · split <;> rfl
    · exact State.raise_mem _ _

/-- A correctable error changes no octet. -/
@[simp] theorem State.correctable_mem (s : State) (d w : Nat) (scrub : Bool) : (s.correctable d w scrub).mem = s.mem := by
  unfold State.correctable
  dsimp only
  split
  · rw [State.remap_mem, State.raise_mem]; rfl
  · rw [State.raise_mem]; rfl

/-- Demand reads change no octet. -/
@[simp] theorem State.demand_mem (s : State) (l : List Nat) : (s.demand l).mem = s.mem := by
  unfold State.demand
  generalize l.filter s.errorAt = k
  induction k generalizing s with
  | nil => rfl
  | cons w k ih => rw [List.foldl_cons, ih]; exact State.correctable_mem _ _ _ _

/-- Demand reads of words that decode without an error do nothing. -/
theorem State.demand_sound (s : State) (l : List Nat) (h : ∀ w ∈ l, s.errorAt w = false) : s.demand l = s := by
  unfold State.demand
  have : l.filter s.errorAt = [] := List.filter_eq_nil_iff.mpr (fun w hw => by simp [h w hw])
  rw [this]; rfl

/-! Words, poison and granules. -/

@[simp] theorem State.setPoison_mem (s : State) (a : Nat) (v : Bool) : (s.setPoison a v).mem = s.mem := rfl
@[simp] theorem State.countAbort_mem (s : State) (a : Nat) : (s.countAbort a).mem = s.mem := rfl
@[simp] theorem State.dropWriteBack_mem (s : State) (a : Nat) : (s.dropWriteBack a).mem = s.mem := rfl
@[simp] theorem State.touchGranules_mem (s : State) (a n : Nat) : (s.touchGranules a n).mem = s.mem := by
  unfold State.touchGranules; split <;> rfl

/-- A word's poison is what was last set. -/
@[simp] theorem State.wordPoisoned_setPoison (s : State) (a : Nat) (v : Bool) : (s.setPoison a v).wordPoisoned a = v :=
  Table.get_put_same _ _ _ _

theorem State.writeWord_wf (s : State) (a : Nat) (o : Octets) (w : Nat) (h : Memory.wf s.mem = true) :
    Memory.wf (s.writeWord a o w).1.mem = true := by
  unfold State.writeWord
  dsimp only
  split
  · split
    · exact State.storeOctets_wf _ _ _ h
    · exact h
  · split
    · exact State.storeOctets_wf _ _ _ (by simpa using h)
    · exact State.storeOctets_wf _ _ _ h

/-- A narrow write to a poisoned word leaves memory as it stands (R405). -/
theorem State.writeWord_aborted (s : State) (a : Nat) (o : Octets) (w : Nat) (h : (s.writeWord a o w).2 = true) :
    (s.writeWord a o w).1.mem = s.mem := by
  unfold State.writeWord at h ⊢
  dsimp only at h ⊢
  split
  · next hp =>
    rw [if_pos hp] at h
    split
    · next hw => rw [if_pos hw] at h; exact absurd h (by simp)
    · rfl
  · next hp => rw [if_neg hp] at h; split at h <;> exact absurd h (by simp)

/-- A write to a word changes no octet outside the run that is written. -/
theorem State.writeWord_outside (s : State) (a : Nat) (o : Octets) (w k : Nat) (h : k < a ∨ a + o.length ≤ k) :
    Table.get 0 (s.writeWord a o w).1.mem k = Table.get 0 s.mem k := by
  have hs : ∀ t : State, t.mem = s.mem →
      Table.get 0 (t.storeOctets (max a w) (sliceO o (max a w - a) (min (a + o.length) (w + 16) - max a w))).mem k = Table.get 0 s.mem k := by
    intro t ht
    rw [State.storeOctets_get, ht]
    have : (sliceO o (max a w - a) (min (a + o.length) (w + 16) - max a w)).length = min (a + o.length) (w + 16) - max a w := by
      simp only [sliceO, List.length_append, List.length_take, List.length_drop, List.length_replicate]; omega
    rw [this, if_neg (by omega)]
  unfold State.writeWord
  dsimp only
  split
  · split
    · exact hs _ rfl
    · rfl
  · split
    · exact hs _ (by simp)
    · exact hs _ rfl

theorem State.writeWords_wf (l : List Nat) (a : Nat) (o : Octets) (r : State × Bool) (h : Memory.wf r.1.mem = true) :
    Memory.wf (l.foldl (fun r w => let t := r.1.writeWord a o w; (t.1, r.2 || t.2)) r).1.mem = true := by
  induction l generalizing r with
  | nil => exact h
  | cons w l ih => exact ih _ (State.writeWord_wf _ _ _ _ h)

theorem State.writeWords_outside (l : List Nat) (a : Nat) (o : Octets) (r : State × Bool) (k : Nat) (h : k < a ∨ a + o.length ≤ k) :
    Table.get 0 (l.foldl (fun r w => let t := r.1.writeWord a o w; (t.1, r.2 || t.2)) r).1.mem k = Table.get 0 r.1.mem k := by
  induction l generalizing r with
  | nil => rfl
  | cons w l ih => rw [List.foldl_cons, ih]; exact State.writeWord_outside _ _ _ _ _ h

theorem State.writeMem_wf (s : State) (a : Nat) (o : Octets) (h : Memory.wf s.mem = true) : Memory.wf (s.writeMem a o).1.mem = true :=
  State.writeWords_wf _ _ _ _ (by simpa using h)

/-- A write changes no octet outside the run that is written. -/
theorem State.writeMem_outside (s : State) (a : Nat) (o : Octets) (k : Nat) (h : k < a ∨ a + o.length ≤ k) :
    Table.get 0 (s.writeMem a o).1.mem k = Table.get 0 s.mem k := by
  unfold State.writeMem
  rw [State.writeWords_outside _ _ _ _ _ h, State.touchGranules_mem]

theorem State.setPoisons_mem (l : List Nat) (v : Bool) (s : State) : (l.foldl (fun s w => s.setPoison w v) s).mem = s.mem := by
  induction l generalizing s with
  | nil => rfl
  | cons w l ih => rw [List.foldl_cons, ih, State.setPoison_mem]

theorem State.copyMem_wf (s : State) (a : Nat) (o : Octets) (bad : Bool) (h : Memory.wf s.mem = true) :
    Memory.wf (s.copyMem a o bad).mem = true := by
  unfold State.copyMem
  dsimp only
  split
  · rw [State.setPoisons_mem]; exact State.writeMem_wf s a o h
  · exact State.writeMem_wf s a o h

/-- A copy changes no octet outside the run that is written. -/
theorem State.copyMem_outside (s : State) (a : Nat) (o : Octets) (bad : Bool) (k : Nat) (h : k < a ∨ a + o.length ≤ k) :
    Table.get 0 (s.copyMem a o bad).mem k = Table.get 0 s.mem k := by
  unfold State.copyMem
  dsimp only
  split
  · rw [State.setPoisons_mem]; exact State.writeMem_outside s a o k h
  · exact State.writeMem_outside s a o k h

/-- A read changes no octet (R402). -/
@[simp] theorem State.readMem_mem (s : State) (a n : Nat) : (s.readMem a n).1.mem = s.mem := by
  unfold State.readMem; dsimp only; split <;> simp

theorem State.loadCode_wf (s : State) (h : Memory.wf s.mem = true) : Memory.wf s.loadCode.mem = true := by
  have hd : ∀ (l : List (Nat × Desc)) (t : State), Memory.wf t.mem = true →
      Memory.wf (l.foldl (fun s e => (s.writeMem (s.descTable + 32 * e.1) e.2.octets).1) t).mem = true := by
    intro l
    induction l with
    | nil => exact fun t ht => ht
    | cons e l ih =>
      intro t ht
      rw [List.foldl_cons]
      apply ih
      exact State.writeMem_wf t _ _ ht
  have hp : ∀ (l : List (Nat × Byte)) (t : State),
      (l.foldl (fun s e => s.setPoison (16 * (e.1 / 16)) false) t).mem = t.mem := by
    intro l
    induction l with
    | nil => exact fun t => rfl
    | cons e l ih => intro t; rw [List.foldl_cons, ih, State.setPoison_mem]
  unfold State.loadCode
  dsimp only
  apply hd
  rw [hp]
  exact Memory.wf_puts s.cfg.code (fun e => e.1) (fun e => e.2) s.mem h

variable (s : State)

/-! Fabric accesses (R43, R296, R360, R402, R405). -/

/-- The state that a fabric access leaves. -/
def Access.state : Access → State
  | .ok s _ => s
  | .error s => s
  | .poisoned s _ => s

@[simp] theorem State.unmapped_mem (a : Nat) : (s.unmapped a).mem = s.mem := State.raise_mem s _

/-- A fabric read changes no octet. -/
theorem State.fabricRead_mem (who : Requester) (a n : Nat) : (s.fabricRead who a n).state.mem = s.mem := by
  unfold State.fabricRead
  split
  · exact State.unmapped_mem s _
  · split
    · rfl
    · dsimp only
      split <;> exact State.readMem_mem s a n

theorem State.fabricWrite_wf (who : Requester) (a : Nat) (o : Octets) (h : Memory.wf s.mem = true) :
    Memory.wf (s.fabricWrite who a o).state.mem = true := by
  unfold State.fabricWrite
  split
  · exact (congrArg Memory.wf (State.unmapped_mem s _)).trans h
  · split
    · exact h
    · split
      · exact h
      · dsimp only
        split <;> exact State.writeMem_wf s a o h

/-- A fabric write changes no octet outside the run that is written. -/
theorem State.fabricWrite_outside (who : Requester) (a : Nat) (o : Octets) (k : Nat) (h : k < a ∨ a + o.length ≤ k) :
    Table.get 0 (s.fabricWrite who a o).state.mem k = Table.get 0 s.mem k := by
  unfold State.fabricWrite
  split
  · exact congrArg (Table.get 0 · k) (State.unmapped_mem s _)
  · split
    · rfl
    · split
      · rfl
      · dsimp only
        split <;> exact State.writeMem_outside s a o k h

end Sys2Proof.Machine
end

