-- ==== Sys2Proof/Laws/Queues.lean ====
section
/-! SUPPORT. What the registrar does with a packet, case by case (R347, R350, R354), and what a reply leaves (R351). -/
namespace Sys2Proof.Machine

variable (s : State) (p : Packet) (op : W16) (good : Bool) (lots : List Nat) (body : State → Served)

/-! What a fetch leaves (R344, R347). -/

@[simp] theorem State.fetched_vc (q : Nat) : (s.fetched q).vc = s.vc := rfl
@[simp] theorem State.fetched_tb (q : Nat) : (s.fetched q).tb = s.tb := rfl
@[simp] theorem State.fetched_cfg (q : Nat) : (s.fetched q).cfg = s.cfg := rfl
@[simp] theorem State.fetched_mem (q : Nat) : (s.fetched q).mem = s.mem := rfl
@[simp] theorem State.fetched_lot (q l : Nat) : (s.fetched q).lot l = s.lot l := rfl
@[simp] theorem State.fetched_queue (q : Nat) : (s.fetched q).queue q
    = { s.queue q with sqHead := BitVec.ofNat 16 (((s.queue q).sqHead.toNat + 1) % Queue.entries (s.queue q).sqLog2) } :=
  Table.get_put_same _ _ _ _

/-- A packet that the registrar takes, well-formed and with its lots DEVICE, has its command's effect and its answer. -/
theorem serve_taken (h : s.takes p = true) (hl : lots.any (fun l => s.lot l != 2) = false) :
    serve s p op true lots body = match body (s.taken p op lots) with
      | .answer t a => t.reply p.queue.toNat (s.ctxFor p op lots) a
      | .later t => t := by
  simp only [State.takes, Bool.and_eq_true, beq_iff_eq, decide_eq_true_eq] at h
  obtain ⟨⟨⟨h1, h2⟩, h3⟩, h4⟩ := h
  have h5 : ¬ (2 ≤ p.flags.toNat) := by omega
  have hl2 : (lots.any fun l => s.lot l != 2#2) = false := hl
  unfold serve
  simp [-List.any_eq_true, h1, h2, h5, h4, hl2, State.taken, State.ctxFor, State.span32, State.span, State.spanNs]
  all_goals rfl

/-- Nothing happens to a packet that cannot be taken. -/
theorem serve_none (h : s.canTake p.queue.toNat = false) : serve s p op good lots body = s := by
  unfold serve; simp [h]

end Sys2Proof.Machine
end

