-- ==== Sys2Proof/Machine/Package.lean ====
section
/-! DEFINITION. The package (R451 to R464): which signal or rail a ball carries, the ratings and currents of the rails, and what the codes of the physical registers mean. No command acts on it, and no state depends on it. -/
namespace Sys2Proof.Machine

/-- A wire of a link port (R453). -/
inductive LinkWire where
  | txp
  | txn
  | rxp
  | rxn
  deriving DecidableEq, Repr

/-- A wire of a PCIe lane (R453). -/
inductive LaneWire where
  | petP
  | petN
  | perP
  | perN
  deriving DecidableEq, Repr

/-- The control pins and REFCLK in the order of R453. -/
inductive ControlPin where
  | rstN
  | prstN
  | wakeN
  | coreEn
  | tck
  | tms
  | tdi
  | tdo
  | trstN
  | refclkP
  | refclkN
  deriving DecidableEq, Repr

/-- A pin of an auxiliary axis in the order of R453. -/
inductive AxisPin where
  | high (leg : Nat)
  | low (leg : Nat)
  | flt
  | fbA
  | fbB
  | fbZ
  | sense (input : Nat)
  deriving DecidableEq, Repr

/-- A rail of R436 at its balls (R453); a reserved ball is left unconnected. -/
inductive RailBall where
  | vpar
  | vio
  | vaux
  | vsram
  | vcore
  | vsafe
  | vfield (group : Nat)
  | fgnd
  | gnd
  | reserved
  deriving DecidableEq, Repr

/-- What a ball carries (R453). -/
inductive BallUse where
  | link (port : Nat) (wire : LinkWire)
  | lane (lane : Nat) (wire : LaneWire)
  | pcieRefclk (negative : Bool)
  | perstN
  | control (pin : ControlPin)
  | axis (module : Nat) (pin : AxisPin)
  | phase (unit phase : Nat)
  | dio (pin : Nat)
  | safeInput (input : Nat) (ch : Channel)
  | testPulse (source : Nat)
  | safKey
  | safeOutput (output : Nat) (low : Bool)
  | rail (rail : RailBall)
  deriving DecidableEq, Repr

/-- A signal by its place in a region that gives an order: row by row from the lowest, and in a row from the lowest column (R453). -/
def placeIn (row col firstRow firstCol columns : Nat) : Nat := (row - firstRow) * columns + (col - firstCol)

/-- A port's wires: rows 2 and 4 for ports 0 to 15, 45 and 43 for ports 16 to 31 (R453). -/
def linkBall (row col : Nat) : Option BallUse :=
  let n := (col - 8) / 2
  let neg := (col - 8) % 2 = 1
  if col < 8 ∨ 39 < col then none
  else if row = 2 then some (.link n (if neg then .txn else .txp))
  else if row = 4 then some (.link n (if neg then .rxn else .rxp))
  else if row = 45 then some (.link (n + 16) (if neg then .txn else .txp))
  else if row = 43 then some (.link (n + 16) (if neg then .rxn else .rxp))
  else none

/-- The PCIe balls (R453). -/
def pcieBall (row col : Nat) : Option BallUse :=
  if row = 17 ∧ col = 46 then some .perstN
  else if row = 15 ∧ (col = 45 ∨ col = 46) then some (.pcieRefclk (col = 46))
  else if row = 7 ∨ row = 9 ∨ row = 11 ∨ row = 13 then
    let j := (row - 7) / 2
    if col = 45 then some (.lane j .petP) else if col = 46 then some (.lane j .petN)
    else if col = 42 then some (.lane j .perP) else if col = 43 then some (.lane j .perN) else none
  else none

def controlPins : List ControlPin := [.rstN, .prstN, .wakeN, .coreEn, .tck, .tms, .tdi, .tdo, .trstN, .refclkP, .refclkN]

/-- The control pins: rows 1 and 2, columns 41 to 46 (R453). -/
def controlBall (row col : Nat) : Option BallUse :=
  if 1 ≤ row ∧ row ≤ 2 ∧ 41 ≤ col then (controlPins[placeIn row col 1 41 6]?).map BallUse.control else none

def axisPins : List AxisPin :=
  [.high 0, .high 1, .high 2, .high 3, .low 0, .low 1, .low 2, .low 3, .flt, .fbA, .fbB, .fbZ, .sense 0, .sense 1]

/-- The auxiliary axes: rows 20 to 46, columns 42 to 46 (R453). -/
def axisBall (row col : Nat) : Option BallUse :=
  if 20 ≤ row ∧ row ≤ 46 ∧ 42 ≤ col then
    let i := placeIn row col 20 42 5
    if i < 112 then (axisPins[i % 14]?).map (BallUse.axis (i / 14))
    else if i < 118 then some (.phase ((i - 112) / 3) ((i - 112) % 3)) else none
  else none

/-- Field and safety: rows 8 to 45, columns 1 to 4; each group its eight pins, three balls of VFIELD and four of FGND (R453). -/
def fieldBall (row col : Nat) : Option BallUse :=
  if 8 ≤ row ∧ row ≤ 45 ∧ 1 ≤ col ∧ col ≤ 4 then
    let i := placeIn row col 8 1 4
    if i < 90 then
      let g := i / 15
      let k := i % 15
      some (if k < 8 then .dio (8 * g + k) else if k < 11 then .rail (.vfield g) else .rail .fgnd)
    else if i < 122 then some (.safeInput ((i - 90) / 2) (if (i - 90) % 2 = 0 then .a else .b))
    else if i < 126 then some (.testPulse (i - 122))
    else if i = 126 then some .safKey
    else if i < 143 then some (.safeOutput ((i - 127) / 2) ((i - 127) % 2 = 1))
    else if i < 149 then some (.rail .vsafe) else none
  else none

/-- The supply region: positions with row + column even (R453). -/
def supplyBall (row col : Nat) : Option BallUse :=
  if 8 ≤ row ∧ row ≤ 29 ∧ 8 ≤ col ∧ col ≤ 39 ∧ (row + col) % 2 = 0 then
    some (.rail (if row = 8 then .vpar else if row = 9 then .vio else if row = 10 then .vaux
      else if row ≤ 13 then .vsram else if row ≤ 28 then .vcore else .reserved))
  else none

/-- What the ball at a row and a column of the 46 × 46 grid carries; every position outside the regions is GND (R452, R453). -/
def ballAt (row col : Nat) : BallUse :=
  ([linkBall, pcieBall, controlBall, axisBall, fieldBall, supplyBall].findSome? (fun f => f row col)).getD (.rail .gnd)

/-- The distance of a ball's centre from the body's centre along one edge, in µm: pitch 1.27 mm, grid centred (R451, R452). -/
def ballOffset (k : Nat) : Int := (k : Int) * 1270 - 29845

/-- The absolute maximum ratings of the rails in mV (R454). -/
def railRating (r : Nat) : Int × Int :=
  if r = 0 then (-300, 1000) else if r = 1 then (-300, 1050) else if r = 2 then (-300, 2100)
  else if r < 5 then (-300, 3900) else (-500, 36000)

/-- The greatest current of a rail in mA without the loads that it feeds (R455). -/
def railCurrent (r : Nat) : Nat :=
  if r = 0 then 40000 else if r = 1 then 4000 else if r = 2 then 2500 else if r = 3 then 800
  else if r = 4 then 150 else if r = 5 then 200 else 100

/-- A transmitter's differential amplitude in mV (R461). -/
def txAmplitude (code : Nat) : Nat := 800 + 50 * code

/-- De-emphasis of the pre-cursor and the post-cursor in tenths of dB (R461). -/
def deEmphasis (code : Nat) : Nat := 5 * code

/-- The receiver's boost at 625 MHz in hundredths of dB (R461). -/
def rxBoost (code : Nat) : Nat := 75 * code

/-- The junction of the core die in tenths of °C, from its case and the power in W (R464). -/
def junctionOf (case10 watts : Nat) : Nat := case10 + 6 * watts

end Sys2Proof.Machine
end

