-- ==== Sys2Proof/Tests/Slice0.lean ====
section
/-! SUPPORT. Tests: the well-formedness checks, the spec's worked examples, and a witness for the hypotheses of each statement. -/
namespace Sys2Proof.Tests
open Sys2Proof Sys2Proof.Machine

-- One theorem after another: elaborated side by side, a hundred evaluations would each wait on a thread of its own.
set_option Elab.async false

/-- A device out of reset, with the host connected, the registrar's firmware running and queue 0 holding one packet. -/
def up : State :=
  { State.reset with
    pwr := { inReset := false }
    hq := { hostReady := true, linkUp := true
            queues := [(0, { enable := true, active := true, rqLog2 := 4, sqLog2 := 4, sqTail := 1, phase := true })] }
    vc := { regRunning := true } }

/-- Parameter octets, p0 first. -/
def par (o : List Nat) : BitVec 448 := BitVec.ofNat 448 (o.foldr (fun b n => b % 256 + 256 * n) 0)

/-- A packet of queue 0 with number 0. -/
def pk (o : List Nat) : Packet := { queue := 0, flags := 0, tag := 0, seq := 0, params := par o }

/-- The state after a command, or the state before it. -/
def after (c : Instr) (s : State) : State :=
  match exec c s with
  | .next t => t
  | _ => s

/-- A passage of a deck with nothing to say. -/
def still : Passage :=
  { span := 0, late := false, cut := false, rx := { ns := 0, frac := 0, eighths := 0 }, tx := { ns := 0, frac := 0, eighths := 0 }, east := false, residencePs := 0, linkDelayPs := 0
    identity := 0, probesReady := false, panelReady := false, panel := [], containers := [], stopBits := 0, mail := none }

def noMoves : Moves := { x := none, y := none, reserved := false }

/-- Format P with no moves. -/
def fp (w : BitVec 2) (vd va vb : BitVec 5) : FormatP :=
  { w := w, vd := vd, va := va, vb := vb, ac := 0, rnd := false, sat := false, cw := false, mv := noMoves }

def fl : FormatL := { v := 1, a := 0, ym := false, size := 3, elem := 0, offset := 0, reserved := false }
def fs : FormatS := { dest := 1, destO := false, src := 0, v := 1, lane := 0, imm := 5, reserved := false }
def ff : FormatF := { v := 1, a := 0, seg := 1, size := 3, entry := 7, offset := 0, reserved := false }

/-! Well-formedness: one ill-formed term for each check, and its neighbour that passes. -/

def illFormed : List Instr :=
  [.hostWindowWrite 0xFFF [0, 0], .hostWindowRead 0 0, .registerWrite (.core 12) 0 true 0, .tbSnapGo (.core 12), .tbNsLoRead (.core 12) 0,
   .tb0SpanLoRead (.core 13), .leArmPtimeLoRead .host 9, .leArmPtimeLoRead (.core 12) 0, .fbPosLoRead (.core 15) 0, .dioInLoRead (.core 12),
   .vcStepsLoRead .host 12, .vcStepsLoRead (.core 12) 0, .leRecordWrite .registrar 72 0 [], .leRecordWrite .registrar 0 255 [0, 0],
   .leRecordWrite (.core 12) 0 0 [], .imWrite .registrar 12 0 0, .imWrite (.core 12) 0 0 0, .zaSlotPostGo (.core 12) 0 0, .zaSlotTokenGo (.core 12) 0,
   .pgChCmdGo .registrar 72 0, .pgChCmdGo (.core 12) 0 0, .pgGroupGo (.core 12) 0, .pgArmHoReq .registrar 9 0, .pgArmHoReq (.core 12) 0 0]
  ++ [.dioOutWrite (.core 12) false 0, .dioOutSet (.core 12) false 0, .dioOutClr (.core 12) false 0, .loadAll (.core 12), .pwForceWrite (.core 12) 0 0,
   .vcHaltReq .registrar 12, .vcHaltReq (.core 12) 0, .vcRun .registrar 12, .vcRun (.core 12) 0, .vcStep .registrar 12, .vcStep (.core 12) 0,
   .vcDbgSelGo .registrar 12 0, .vcDbgSelGo (.core 12) 0 0, .crcStart (.core 12) 0, .crcDataWrite (.core 12) 0 0, .crcValueWrite (.core 12) 0 0,
   .crcFinish (.core 12) 0, .crcBlockGo (.core 12) 0]
  ++ [.branch 12 0 0 0 noMoves, .call 12 0 0 0 noMoves, .returnOp 12 0 0 noMoves, .rpt 12 (.imm 0) noMoves, .loop 12 0 0 noMoves, .endItem 12 noMoves,
   .nop 12 noMoves, .vectorAdd 12 (fp 0 0 0 0), .vectorSubtract 12 (fp 0 0 0 0), .compare 12 (fp 0 0 0 0), .select 12 (fp 0 0 0 0),
   .logic 12 0 (fp 0 0 0 0), .shift 12 (fp 0 0 0 0) 0, .mul 12 (fp 0 0 0 0), .norm 12 (fp 0 0 0 0) .lanes, .exp 12 (fp 0 0 0 0) .lanes,
   .vectorMove 12 (fp 0 0 0 0), .mac 12 (fp 0 0 0 0), .msu 12 (fp 0 0 0 0), .cmac 12 (fp 0 0 0 0), .cmacc 12 (fp 0 0 0 0), .clr 12 (fp 0 0 0 0)]
  ++ [.longLoad 12 fl, .longStore 12 fl, .scalarOp 12 0 fs, .laneMove 12 true 0 fs, .stac 12 (fp 0 0 0 0), .accShift 12 (fp 0 0 0 0), .fabricLoad 12 ff,
   .fabricStore 12 ff, .tokenSend 12 ff, .coreSignalTaken 12 1, .coreSignalTaken 0 0, .coreSignalTaken 0 5, .budgetOverrun 12, .coreHung 12, .itemStart 12,
   .spanInstant { vc := 0, za := 0, le := 0 } []]
  ++ [.gatherDeparture 14, .gatherCompletion 14 none none 0, .gatherCutoff 14, .deliverCutoff 14, .deliverDeparture 14, .deliverDeckReturn 14 none none 0,
   .deckArrival 14 1 [] still, .deckArrival 0 0 [] still, .deckArrival 0 17 [] still, .nodeDataLoss 14 1, .nodeDataLoss 0 0, .mailboxRetransmit 14,
   .listenTimeout 14, .deckSilenceTimeout 14, .coldDeckReceived 14 [], .claimBackoffExpiry 14, .coldDeckDeparture 14, .coldDeckReturn 14 [] false 0,
   .integrateDeckDeparture 14, .integrateDeckReturn 14 [] ⟨false, 0⟩, .integrationMarkReceived 14]
  ++ [.leRun (List.replicate 65 0) [], .leRun [] (List.replicate 9 0), .profileRun 73, .fieldOutputFault 48 false, .dipStart 12 0, .warningDwellExpiry 12, .dipEnd 12 0,
   .railBelowResetLevel 12 0, .railAboveResetLevel 12 0, .scrubRead 672 .clean, .scrubSlow 672, .correctedWriteBack 672 0]

theorem test_ill_formed_refused : (illFormed.all fun c => !c.wf) = true := by decide +kernel

def wellFormed : List Instr :=
  [.hostWindowWrite 0xFFF [0], .hostWindowRead 0 4096, .registerWrite (.core 11) 0 true 0, .leArmPtimeLoRead .host 8, .vcStepsLoRead .host 11,
   .leRecordWrite .registrar 71 255 [0], .imWrite .registrar 11 0 0, .pgChCmdGo .registrar 71 0, .pgArmHoReq .registrar 8 0, .nop 11 noMoves,
   .gatherDeparture 13, .deckArrival 13 16 [] still, .deckArrival 0 1 [] still, .leRun (List.replicate 64 25) (List.replicate 8 25), .coreSignalTaken 11 1, .coreSignalTaken 11 4, .profileRun 72, .fieldOutputFault 47 false,
   .dipStart 11 0, .scrubRead 671 .clean, .spanInstant { vc := 0, za := 0, le := 0 } (List.replicate 12 800)]

theorem test_well_formed_pass : (wellFormed.all fun c => c.wf) = true := by decide +kernel

/-! The table gives no row any bits, so no word spells a command. -/

theorem test_no_word_decodes : decodeTableWord 16 0 = none ∧ decodeTableWord 0 0 = none ∧ State.reset.withFetchWord 8 255 = State.reset := by decide

/-! Worked examples of the spec. -/

def digits : Octets := [0x31, 0x32, 0x33, 0x34, 0x35, 0x36, 0x37, 0x38, 0x39]

/-- R416: the check values of the three polynomials. -/
theorem test_check_values : crcOf .crc32c digits = 0xE3069283 ∧ crcOf .crc32 digits = 0xCBF43926 ∧ crcOf .crc16 digits = 0x29B1 := by decide +kernel

/-- The example after R420: context 3 started, fed and finished. -/
theorem test_check_unit_example :
    let s0 := { up with crc := { up.crc with ctxs := [(3, { compare := true, expect := 0xE3069283 })] } }
    let s1 := after (.crcDataWrite .registrar 3 0x34333231) (after (.crcStart .registrar 3) s0)
    let s2 := after (.crcDataWrite .registrar 3 0x38373635) s1
    let k := s2.ctx 3
    let s3 := after (.crcFinish .registrar 3) (after (.crcDataWrite .registrar 3 0x39) (s2.setCtx 3 { k with tail := 1 }))
    (s3.ctx 3).result = 0xE3069283 ∧ (s3.ctx 3).mismatch = false := by decide +kernel

/-- FIPS 180-4 as R12 names it: the digest of "abc" in the standard's own example. -/
theorem test_sha256_example : sha256 [0x61, 0x62, 0x63] = 0xBA7816BF8F01CFEA414140DE5DAE2223B00361A396177A9CB410FF61F20015AD := by decide +kernel

/-- The ledger of chapter 1: ring AR0 delivers at 52,656 ns. -/
theorem test_ledger_departure :
    ({ up with cfg := { up.cfg with spanCode := 1, returnGuard := 8 } } : State).departure (8344 * 256) = some 52656 := by decide +kernel

/-- The example after R112, with its deviations taken in picoseconds, as its parts per billion need (log entry 19): rates in 2^-40, deviations in 2^-16 ns. -/
theorem test_servo_example :
    let d := fun (x : Int) => x * 65536 / 100000
    let v : Servo := { base := -10995116, off := -8796, avgPrev := d 400, kPrev := 4, havePrev := true }
    (v.correct [d 290, d 345, d 360, d 375, d 980] 5 62500 false).map (fun c => (c.avg, c.rate)) = some (d 360, -42981) := by decide +kernel

/-- The example after R230: S_p at 0.5 and 1.0 m/s, and v_allow at 700 mm, to the nearest thousandth. -/
theorem test_separation_example :
    let u := fun (x : Nat) => (x : Int) * 16777216 / 1000000
    let rows : List StopRow := [{ v := u 500000, t := u 120000, s := u 35000 }, { v := u 1000000, t := u 180000, s := u 95000 }]
    let w : SepTerms := { vh := u 1600000, tr := u 22073, k := u 328000 }
    let mm := fun (x : Int) => (x * 1000 + 8388608) / 16777216
    ((w.sp rows (u 500000)).map mm, (w.sp rows (u 1000000)).map mm, mm (w.allow rows (u 700000))) = (some 601, some 768, 795) := by decide +kernel

/-- The example after R269: BRUSHED with T = 1,953. -/
theorem test_compare_example :
    let k : AxCfg := { mode := 3, top := 1953, dead := 125, minPulse := 25, dutyMax := 0x7FFF }
    compareTorque k 0x20000000 = 488 ∧ compareTorque k 0x00FC0000 = 15
      ∧ pairWave k (pairAt 488) = { high := 851, low := 2805 } ∧ pairWave k (pairAt 15) = { high := 0, low := 3751 } := by decide +kernel

/-- The worked span of chapter 5: channel 3 of arm 0 in POSITION. -/
def workedChan : ChanCfg :=
  { used := true, mode := 3, kp := 0x78000000, kvff := 0x40000000, kv := 0x60000000, ki := 0x40000000
    bq1 := [0x40000000, 0, 0, 0xC0000000, 0]
    flags := 2
    shifts := [6, 1, 0xFF, 0xFD, 0]
    vLim := 0x7FFFFFFF, iMin := 0xC0000000, iMax := 0x40000000, tqMin := 0x8CCCCCCD, tqMax := 0x73333333, perrMax := 0x7FFFFFFF }

def workedJoint : LeChan :=
  { tff := 0x20000000, knotLast := 11, integ := 0x10000000, eff := 3, bq1 := { y1 := 0x33000000 }
    knots := [(2, { x := 0x00000A0000000000, d := 0x0000000008000000 }), (3, { x := 0x00000A0008000000, d := 0x0000000008000000 })]
    measured := { x := 0x000009FFC4000000, v := 0x005DC000, status := 2 } }

def worked : State :=
  { up with
    cfg := { spanCode := 1, chans := [(3, workedChan)], sets := [(0, { knotLog2 := 2 })] }
    dev := { cell := .run, cellAt := .run, armsAt := [(0, .enabled)], arms := [(0, .enabled)] }
    le := { sets := [(0, { ptime := 0x2940000000, frozen := false, scale := 0x6000 })], chans := [(3, workedJoint)] } }

theorem test_worked_span :
    let t := after (.leRun [800] []) worked
    (t.armSet 0).ptime = 0x0000002A00000000 ∧ (t.chan 3).post.torque = 0x33240000 ∧ (t.chan 3).post.pos = 0x00000A0004000000
      ∧ (t.chan 3).post.vff = 0x005DC000 ∧ (t.chan 3).post.control = 0x1003 ∧ (t.chan 3).bq1 = { x1 := 0x33480000, y1 := 0x33240000, y2 := 0x33000000 } := by decide +kernel

/-- The example after R184: AX1 reverses to a target half a turn behind it; at rest after 1,800 spans and there after 9,735.4. -/
theorem test_profile_example :
    let u := fun (x den : Int) => x * one64 / den
    let c : Caps := { up := u 10 (16000 * 16000), down := u 10 (16000 * 16000), j := u 400 (16000 * 16000 * 16000) }
    let m : Motion := { x := 0, v := u 1 32000, a := u 10 (16000 * 16000) }
    let p := planPosition 0 m (u (-1) 2) (u 2 16000) c
    let spans := fun (n : Nat) => (n * 10 + 2147483648) / 4294967296
    p.reversal = true ∧ spans (phasesLength (p.phases.take 3)) = 18000 ∧ spans (phasesLength p.phases) = 97354 := by decide +kernel

/-- The example after R361: the flag word 0xFFFFFFBF on word 18 takes lot 291 from HOST to DEVICE and leaves the others. -/
theorem test_flag_write_example :
    let s := (up.setLot 291 1).setLot 290 1
    let t := after (.lotFlagWrite 18 0xFFFFFFBF 0xF) s
    t.lot 291 = 2 ∧ t.lot 290 = 1 ∧ t.hq.badFlag = 0 := by decide +kernel

/-- The example after R256: of containers 0x0041, 0x0043, 0x0045, 0x0046 and 0x0047 the connection is ACCEPTED, stays, is SAFE, and is ACCEPTED with 0x0047. -/
def drive3 : ConnCfg := { used := true, kind := .safeState, ring := 0, identity := 7, tExpNs := 187500, tWdNs := 187500, warden := true, channel := 2 }

def signed3 (seq : W16) (stamp : W32) : Octets :=
  let o : Octets := [0x01] ++ leBytes 2 seq.toNat ++ leBytes 4 stamp.toNat ++ [0, 0, 0, 0, 0, 0, 0x20, 0]
  o ++ leBytes 4 (crcOf .crc32c (leBytes 8 7 ++ o)).toNat ++ leBytes 4 (crcOf .crc32 (leBytes 8 7 ++ o)).toNat ++ [0]

theorem test_container_example :
    let take := fun (k : SafConn) (seq : W16) (stamp now : W32) => (k.take .a drive3 (signed3 seq stamp) now 0).1
    let k0 : SafConn := { started := true, lastSeq := 0x40, lastStamp := 0 }
    let k1 := take k0 0x41 900 10000
    let k2 := take k1 0x43 125900 135000
    let k3 := k2.expired 187500 188401
    let k4 := take k3 0x45 250900 260000
    let k5 := take k4 0x46 313400 322500
    let k6 := take k5 0x47 375900 385000
    (k1.state, k2.state, k2.newest, k3.state, k4.state, k5.state, k6.state)
      = (.accepted, .accepted, 900, .safe, .safe, .safe, .accepted) := by decide +kernel

/-- R131: a scale of 0x7FFF adds exactly one span. -/
theorem test_full_scale_adds_one_span :
    ((after (.leRun [800] []) (worked.setArmSet 0 { worked.armSet 0 with scale := 0x7FFF })).armSet 0).ptime = 0x2A40000000 := by decide +kernel

/-! Witnesses: states and operands that meet the hypotheses of each statement, clause by clause. -/

/-- `up` with lots HOST (0, 65535), DEVICE (1, 2) and LOCKED (3). -/
def lots : State := ((((up.setLot 0 1).setLot 1 2).setLot 2 2).setLot 3 3).setLot 65535 1

def cellIn (c : CellState) : State := { up with dev := { cell := c } }

/-- `up` with queue 0 as `f` makes it. -/
def queue0 (f : Queue → Queue) : State := up.setQueue 0 (f (up.queue 0))

theorem witness_front : ({ up with pending := [.perstN, .functionLevelReset] } : State).pending = .perstN :: [.functionLevelReset] := rfl

theorem witness_idle :
    up.pending = [] ∧ up.tick.came .leComplete = false ∧ (∀ d : BitVec 10, up.tick.came (.itemDeadline d) = false)
      ∧ (let counting := fun (n : BitVec 17) (down : Bool) =>
          ({ up with tb := { tb2 := { mode := .monotonic, ns := 3 } }, cfg := { ax := [(7, { enable := true, top := 4 })] }
                     ax := { mods := [(7, { pw := { count := n, down := down } })] } } : State)
        (counting 3 false).pwr.inReset = false ∧ (counting 3 false).pwr.dormant = false ∧ (counting 3 false).tick.tb.tb2.ns.toNat % 4 = 0
          ∧ ((counting 3 false).axCfg 7).enable = true ∧ ((counting 3 false).axm 7).pw.down = false
          ∧ ((counting 3 false).axm 7).pw.count.toNat + 1 = ((counting 3 false).axCfg 7).top.toNat ∧ ((counting 1 true).axm 7).pw.down = true)
      ∧ up.tick.tb.tb2.ns.toNat % 4 ≠ 0 := by
  refine ⟨rfl, by decide +kernel, fun d => rfl, by decide +kernel, by decide +kernel⟩

theorem witness_invariant : Inv State.reset ∧ ∃ t, step State.reset = .next t := by
  refine ⟨⟨by decide, by unfold Unsteered; decide, ?_⟩, State.reset.idle, rfl⟩
  intro o h
  cases h

theorem witness_packets :
    let both := up.setQueue 4 (up.queue 0)
    State.reset.canTake 0 = false ∧ both.canTake 0 = true ∧ both.canTake 4 = false ∧ ((up.setQueue 0 {}).setQueue 15 (up.queue 0)).canTake 15 = true
      ∧ ({ pk [] with seq := 0xFFFFFFFF } : Packet).seq ≠ (up.queue 0).next
      ∧ (pk []).seq = (up.queue 0).next ∧ 2 ≤ ({ pk [] with flags := 2 } : Packet).flags.toNat
      ∧ lots.takes (pk []) = true ∧ (∃ l ∈ [0], lots.lot l ≠ 2) ∧ (∀ l ∈ [1, 2], lots.lot l = 2) ∧ (∀ l ∈ ([] : List Nat), lots.lot l = 2) := by decide +kernel

theorem witness_replies :
    (up.queue 0).discard = false ∧ ((queue0 fun q => { q with discard := true }).queue 0).discard = true
      ∧ ((queue0 fun q => { q with rqTail := 15 }).queue 0).rqTail.toNat + 1 = Queue.entries (up.queue 0).rqLog2
      ∧ ({ notify := true } : ReplyCtx).notify = true ∧ ({} : ReplyCtx).notify = false := by decide +kernel

theorem witness_device :
    up.takes (pk []) = true ∧ unusedZero (pk []).params [] = true
      ∧ unusedZero (par [1]) [(0, 1)] = true ∧ param (par [1]) 0 1 = 1 ∧ param (par []) 0 1 = 0
      ∧ up.dev.cell = .uncatalogued ∧ (cellIn .parked).takes (pk [1]) = true ∧ (cellIn .parked).dev.cell = .parked ∧ (cellIn .run).takes (pk [1]) = true
      ∧ (cellIn .run).dev.cell ≠ .uncatalogued ∧ (cellIn .run).dev.cell ≠ .loaded ∧ (cellIn .run).dev.cell ≠ .parked := by decide +kernel

theorem witness_queues :
    up.hostMay = true ∧ (up.queue 0).enable = true ∧ (up.queue 15).enable = false
      ∧ 4 ≤ ((0x4C : W32).extractLsb' 0 4).toNat ∧ ((0x4C : W32).extractLsb' 0 4).toNat ≤ 12
      ∧ 4 ≤ ((0x4C : W32).extractLsb' 4 4).toNat ∧ ((0x4C : W32).extractLsb' 4 4).toNat ≤ 12
      ∧ (15 : W32).toNat < 2 ^ (up.queue 0).sqLog2.toNat ∧ 2 ^ (up.queue 0).sqLog2.toNat ≤ (16 : W32).toNat
      ∧ (15 : W32).toNat < 2 ^ (up.queue 0).rqLog2.toNat ∧ 2 ^ (up.queue 0).rqLog2.toNat ≤ (16 : W32).toNat := by decide +kernel

/-- A flag word of lots 0 to 15 that names one allowed and one refused transition: lot 0 to DEVICE, lot 3 to FREE. -/
theorem witness_flags :
    lots.hostMay = true
      ∧ ((after (.lotFlagWrite 0 0xFFFFFF3E 0xF) lots).lot 0, (after (.lotFlagWrite 0 0xFFFFFF3E 0xF) lots).hq.badFlag) = (2, 1) := by decide +kernel

theorem witness_window :
    lots.hostMay = true ∧ inLot 0xFFF 1 = true ∧ inLot 0 4096 = true ∧ lots.lot 0 = 1 ∧ lots.lot 65534 = 0 ∧ lots.lot 2 = 2 ∧ lots.lot 3 = 3
      ∧ lots.sound 0x00F0000FFF 1 = true := by decide +kernel

theorem witness_lot_runs :
    lots.takes (pk [0xFF, 0xFF, 1, 0]) = true ∧ unusedZero (par [0xFF, 0xFF, 1, 0]) [(0, 2), (2, 2)] = true
      ∧ param (par [0xFF, 0xFF, 1, 0]) 0 2 + param (par [0xFF, 0xFF, 1, 0]) 2 2 = 65536
      ∧ (∀ l : Nat, 65535 ≤ l → l < 65535 + 1 → lots.lot l = 1)
      ∧ (∃ l : Nat, (decide (65534 ≤ l) && decide (l < 65534 + 2)) = true ∧ lots.lot l ≠ 1) := by
  refine ⟨by decide +kernel, by decide +kernel, by decide +kernel, ?_, 65534, by decide +kernel, by decide +kernel⟩
  intro l h1 h2
  have : l = 65535 := by omega
  subst this
  decide +kernel

theorem witness_links :
    up.pwr.inReset = false ∧ up.pwr.dormant = false ∧ (Table.get {} up.hq.msix 0).masked = true ∧ up.hq.linkUp = true
      ∧ (Table.get {} ({ up with hq := { up.hq with msix := [(20, { masked := false })] } } : State).hq.msix 20).masked = false := by decide +kernel

theorem witness_host_time :
    up.takes (pk [3]) = true ∧ up.replicates = false ∧ up.refusesReplicated = false ∧ param (par [3]) 0 1 = 3 ∧ unusedZero (par [3]) [(0, 1)] = true
      ∧ unusedZero (par [3, 0, 0, 0, 1]) [(0, 1), (4, 4)] = true ∧ unusedZero (par [3, 0, 0, 0, 0, 0, 0, 0, 1]) [(0, 1), (8, 8)] = true
      ∧ (up.timeBase 3).mode = .free ∧ (up.timeBase 2).mode ≠ .free ∧ param (par [2]) 0 1 = 2 := by decide +kernel

theorem witness_application_time :
    up.takes (pk [2, 0, 0, 0, 0, 0, 0, 0, 1]) = true ∧ unusedZero (par [2, 0, 0, 0, 0, 0, 0, 0, 1]) [(0, 1), (8, 8)] = true
      ∧ param (par [2]) 0 1 = 2 ∧ param (par []) 0 1 = 0
      ∧ ({ up with tb := { up.tb with source := 2 } } : State).tb.source.toNat = 1 + 1 := by decide +kernel

theorem witness_latches : (8 : BitVec 4).toNat < 9 ∧ (11 : BitVec 4).toNat < 12 := by decide

theorem witness_reference :
    let faulted := fun (ns : Nat) (g : Option W64) => ({ up with tb := { up.tb with
      refFault := true, refGoodSince := some 0, grandmaster := g, tb2 := { mode := .monotonic, ns := BitVec.ofNat 64 ns } } } : State)
    (25580 ≤ (25580 : W16).toNat ∧ (25620 : W16).toNat ≤ 25620) ∧ (25569 : W16).toNat < 25570 ∧ 25630 < (25631 : W16).toNat
      ∧ up.tb.refFault = false ∧ up.tb.refBad = 0 ∧ ({ up with tb := { up.tb with refBad := 1 } } : State).tb.refBad = 1
      ∧ up.cfg.classOf 0x0201 = 4 ∧ up.pwr.inReset = false ∧ up.pwr.dormant = false ∧ (faulted 0 none).tb.refFault = true
      ∧ ((faulted 999999999 none).tb.tb2.ns - ((faulted 0 none).tb.refGoodSince.getD 1)).toNat < 1000000000
      ∧ 1000000000 ≤ ((faulted 1000000000 none).tb.tb2.ns - ((faulted 0 none).tb.refGoodSince.getD 1)).toNat
      ∧ (faulted 1000000000 none).tb.grandmaster = none ∧ (faulted 1000000000 (some 7)).tb.grandmaster ≠ none := by decide +kernel

/-- `up` with plant port 0 enabled. -/
def plant : State := { up with cfg := { plants := [(0, { enable := true, vid := 5, etype := 0x88B5, mac := 0x010000000002, pslDests := [(0x020000000002, [3])] })] } }

/-- Another clock on the wire, whose messages `plant` hears. -/
def grandmaster : State := { plant with cfg := { plants := [(0, { enable := true, mac := 0x030000000002 })] } }

def plainStamp : FrameStamps := { tb0 := { ns := 0, frac := 0, eighths := 0 }, tb1 := { ns := 1000, frac := 5, eighths := 1 } }

/-- `plant` with frames waiting on port 0 in port state `st`, TB1 in `m`, following `grandmaster`. -/
def hearing (frames : List Octets) (st : BitVec 4) (m : TbMode) : State :=
  ({ plant with tb := { plant.tb with parent := grandmaster.portId 0, tb1 := { mode := m } } } : State).setPlant 0
    { portState := st, ptpIn := frames.map (fun f => (f, plainStamp)) }

def announceFrame : Octets := grandmaster.ptpFrame 0 0xB 0x0008 0 1 grandmaster.announceBody
def oneStep : Octets := grandmaster.ptpFrame 0 0 0 0 5 (beBytes 6 0 ++ beBytes 4 900)
def twoStep : Octets := grandmaster.ptpFrame 0 0 0x0200 0 5 (List.replicate 10 0)
def followUp : Octets := grandmaster.ptpFrame 0 8 0 0 5 (beBytes 6 0 ++ beBytes 4 900)

theorem witness_ptp_master :
    let s := hearing [announceFrame] 4 .free
    (plant.plant 0).ptpIn.length = 0 ∧ (s.plant 0).ptpIn.length = 1 ∧ s.plantOn 0 = true ∧ (s.setPlant 1 (s.plant 0)).plantOn 1 = false
      ∧ s.tb.refFault = false ∧ (s.plantCfg 0).ptpTakes (ptpBody announceFrame) = true ∧ ptpType (ptpBody announceFrame) = 0xB
      ∧ sliceO (ptpBody announceFrame) 20 8 ≠ s.clockId ∧ s.masterAble 0 = false ∧ s.masterAble 1 = false ∧ (s.plant 1).ptp.announce = none
      ∧ s.tb.grandmaster ≠ some (masterOf (ptpBody announceFrame)).grandmaster := by decide +kernel

theorem witness_ptp_sync :
    let s := hearing [oneStep] 8 .acquiring
    let t := hearing [twoStep, followUp] 9 .acquiring
    let mine := fun (m : Octets) => sliceO m 20 10 = s.tb.parent
    (s.plantOn 0 = true ∧ s.tb.refFault = false ∧ (s.plantCfg 0).ptpTakes (ptpBody oneStep) = true ∧ ptpType (ptpBody oneStep) = 0 ∧ s.follows 0 = true
        ∧ mine (ptpBody oneStep) ∧ s.tb.tb1.mode = .acquiring ∧ (u8 (ptpBody oneStep) 6).getLsbD 1 = false ∧ (s.plantCfg 0).profileAs = false)
      ∧ ((plant.plantCfg 0).ptpTakes (ptpBody twoStep) = true ∧ ptpType (ptpBody twoStep) = 0 ∧ t.follows 0 = true ∧ mine (ptpBody twoStep)
        ∧ t.tb.tb1.mode = .acquiring ∧ (u8 (ptpBody twoStep) 6).getLsbD 1 = true ∧ (plant.plantCfg 0).ptpTakes (ptpBody followUp) = true
        ∧ ptpType (ptpBody followUp) = 8 ∧ mine (ptpBody followUp) ∧ ptpSeq (ptpBody followUp) = ptpSeq (ptpBody twoStep)) := by decide +kernel

/-- `plant` that follows a grandmaster whose last Sync came at 0, at TB2 time `ns`. -/
def following (ns : Nat) (m : TbMode) : State :=
  { hearing [] 9 m with tb := { (hearing [] 9 m).tb with tb2 := { mode := .monotonic, ns := BitVec.ofNat 64 ns }, grandmaster := some 7 } }

theorem witness_ptp :
    plant.tb.grandmaster = none ∧ (following 3000000000 .locked).tb.grandmaster ≠ none
      ∧ ((following 2999999999 .locked).tb.tb2.ns - (following 0 .locked).tb.lastSync).toNat < plant.cfg.syncLossMs * 1000000
      ∧ plant.cfg.syncLossMs * 1000000 ≤ ((following 3000000000 .locked).tb.tb2.ns - (following 0 .locked).tb.lastSync).toNat
      ∧ (following 3000000000 .locked).tb.tb1.mode = .locked ∧ (following 3000000000 .acquiring).tb.tb1.mode = .acquiring
      ∧ (following 3000000000 .locked).tb.refFault = false ∧ (following 0 .locked).follows 0 = true ∧ (following 0 .locked).follows 1 = false
      ∧ up.plantOn 0 = false ∧ plant.plantOn 0 = true ∧ ((plant.setPlant 0 { portState := 6 }).plant 0).portState = 6
      ∧ (plant.plant 0).portState ≠ 6 ∧ (plant.plantCfg 0).masterCapable = false ∧ (15 : Nat) < 16 := by decide +kernel

/-- `plant` with lot 1 DEVICE and a container waiting on connection 3. -/
def plantTx : State :=
  { plant.setLot 1 2 with saf := { outConns := [(3, { octets := List.replicate 24 0 })] }, cfg := { plant.cfg with safety := { conns := [(3, { used := true, kind := .demand, plant := true })] } } }

/-- FRAME_SEND of the longest frame from lot 1 with priority 7. -/
def send : Packet := pk [0, 1, 7, 0, 1, 0, 0xEA, 0x05]

def raw16 : State := plantTx.setPlant 0 { rawQueue := List.replicate 16 {} }
def onWire : State := plantTx.setPlant 0 { wire := .raw {} }

theorem witness_frame_send :
    plantTx.takes send = true ∧ unusedZero send.params [(0, 1), (1, 1), (2, 1), (4, 2), (6, 2)] = true ∧ param send.params 0 1 < 2
      ∧ param send.params 1 1 < 2 ∧ param send.params 2 1 < 8 ∧ 60 ≤ param send.params 6 2 ∧ param send.params 6 2 = 1514
      ∧ plantTx.lot (param send.params 4 2) = 2 ∧ plantTx.plantOn 0 = true ∧ (plantTx.plant 0).rawQueue.length < 16
      ∧ raw16.takes send = true ∧ 16 ≤ (raw16.plant 0).rawQueue.length := by decide +kernel

theorem witness_frame_words : plantTx.sound (0x00F0000000 + 4096 * 1) 1514 = true := by decide +kernel

theorem witness_frames_out :
    plantTx.plantOn 0 = true ∧ (plantTx.plantCfg 0).pslDests[(0 : Byte).toNat]? = some (0x020000000002, [3])
      ∧ ((([3] : List Byte).map (fun b => (b.toNat, plantTx.sentContainer b.toNat))).filter (fun e => !e.2.isEmpty)).take 32 ≠ []
      ∧ (onWire.plant 0).wire = .raw {} ∧ ((onWire.setQueue 0 { onWire.queue 0 with busy := some {} }).queue 0).busy = some {}
      ∧ ({ ptpQueue := [[1]] } : PlantPort).ptpQueue = [[1]] ∧ ({ pslQueue := [[2]] } : PlantPort).ptpQueue = []
      ∧ ({ rawQueue := [{}] } : PlantPort).rawQueue = [{}] ∧ ({} : PlantPort).wire = .idle := by decide +kernel

/-- A frame to the port's own address with EtherType `e`, 64 octets with its FCS. -/
def frameOf (e : List Nat) : Octets := ([0x02, 0, 0, 0, 0, 0x01, 2, 0, 0, 0, 0, 9] ++ e ++ List.replicate 50 0).map (BitVec.ofNat 8)

theorem witness_frames_in :
    plant.plantOn 0 = true ∧ (frameOf [0x08, 0]).length = 64 ∧ (List.replicate 1522 (0 : Byte)).length = 1522
      ∧ (List.replicate 63 (0 : Byte)).length < 64 ∧ 1522 < (List.replicate 1523 (0 : Byte)).length
      ∧ (let o := (frameOf [0x88, 0x08]).take 60; beField o (etherAt o) 2 = 0x8808)
      ∧ (let o := (List.replicate 60 (0 : Byte)); beField o (etherAt o) 2 ≠ 0x8808 ∧ (plant.plantCfg 0).accepts o = false)
      ∧ (let o := (frameOf [0x08, 0]).take 60
        beField o (etherAt o) 2 ≠ 0x8808 ∧ beField o (etherAt o) 2 ≠ 0x88F7 ∧ beField o (etherAt o) 2 ≠ (plant.plantCfg 0).etype.toNat
          ∧ (plant.plantCfg 0).accepts o = true)
      ∧ plant.pool 0 = [] ∧ (plant.setPool 0 [1]).pool 0 = [1]
      ∧ plant.sound (0x00F0000000 + 4096 * 1) (32 + 60) = true := by decide +kernel

def full255 : State := lots.setPool 0 (List.replicate 255 9)

theorem witness_pool :
    lots.takes (pk [0, 0, 1, 0, 2]) = true ∧ unusedZero (par [0, 0, 1, 0, 2]) [(0, 1), (2, 2), (4, 2)] = true ∧ param (par [0, 0, 1, 0, 2]) 2 2 = 1
      ∧ param (par [0, 0, 1, 0, 2]) 4 2 = 2 ∧ (∀ l, l < 3 → 1 ≤ l → lots.lot l = 2) ∧ (lots.pool 0).length + 2 ≤ 256
      ∧ full255.takes (pk [0, 0, 1, 0, 2]) = true ∧ (∀ l, l < 3 → 1 ≤ l → full255.lot l = 2) ∧ 256 < (full255.pool 0).length + 2 := by decide +kernel

/-! The cell. -/

/-- A cell in `c` with both safety sections loaded, the Parapet up and no arm used. -/
def ready (c : CellState) : State := { up with dev := { cell := c }, saf := { loadedA := true, reportedB := true }, par := { up := true } }

theorem witness_cell_commands :
    (ready .loaded).takes (pk []) = true ∧ (ready .loaded).replicates = false ∧ (ready .loaded).refusesReplicated = false
      ∧ (ready .loaded).dev.accepted = [] ∧ (ready .loaded).dev.heldStop = none ∧ (ready .loaded).red.repl = [] ∧ unusedZero (par []) [] = true
      ∧ (ready .loaded).hq.service = false ∧ (ready .parked).stopDemand = false ∧ (ready .parked).openInput .eStop = false
      ∧ (ready .parked).openInput .guard = false ∧ (ready .parked).sectionMatch = true ∧ (ready .fault).causePresent = false
      ∧ (ready .parked).dev.cell ≠ .loaded ∧ (ready .loaded).dev.cell ≠ .parked ∧ (ready .loaded).dev.cell ≠ .hold ∧ (ready .loaded).dev.cell ≠ .run
      ∧ (ready .loaded).dev.cell ≠ .fault ∧ (∀ n, n < 12 → ((ready .hold).core n).halted = false) := by decide +kernel

theorem witness_arm_commands :
    let s : State := { ready .hold with dev := { cell := .hold, arms := [(7, .halted)] } }
    let t : State := (ready .parked).setRing 13 { phase := .line }
    s.takes (pk [7]) = true ∧ unusedZero (par [7]) [(0, 1)] = true ∧ param (par [7]) 0 1 = 7 ∧ s.arm 7 = .halted ∧ s.armCause 7 = false
      ∧ t.takes (pk [13]) = true ∧ unusedZero (par [13]) [(0, 1)] = true ∧ param (par [13]) 0 1 = 13 ∧ (t.ring 13).phase = .line ∧ t.dev.cell = .parked := by
  decide +kernel

theorem witness_effects :
    (ready .loaded).cellVerdict { opcode := 0x0201 } = 0 ∧ (ready .parked).cellVerdict { opcode := 0x0202 } = 0
      ∧ (ready .hold).cellVerdict { opcode := 0x0203 } = 0 ∧ (ready .run).cellVerdict { opcode := 0x0204 } = 0
      ∧ (ready .run).cellVerdict { opcode := 0x0205 } = 0 ∧ (ready .hold).cellVerdict { opcode := 0x0205 } = 0
      ∧ (ready .parked).cellVerdict { opcode := 0x0206 } = 0 ∧ (ready .fault).cellVerdict { opcode := 0x0207 } = 0
      ∧ ({ ready .hold with dev := { cell := .hold, arms := [(7, .halted)] } } : State).cellVerdict { opcode := 0x0208, arg := 7 } = 0
      ∧ ((ready .parked).setRing 13 { phase := .line }).cellVerdict { opcode := 0x0209, arg := 13 } = 0
      ∧ (ready .fault).allRingsRun = true ∧ (ready .loaded).tb.refFault = false ∧ ({ ready .loaded with tb := { refFault := true } } : State).tb.refFault = true
      ∧ ({ ready .fault with cfg := { rings := [(0, { configured := true })] } } : State).allRingsRun = false := by decide +kernel

theorem witness_reactions :
    let s : State := { ready .run with dev := { cell := .run, arms := [(7, .enabled)] } }
    (s.cfg.pair.pair = false ∧ s.arm 7 = .enabled ∧ s.dev.cell ≠ .uncatalogued ∧ s.dev.cell ≠ .loaded)
      ∧ (up.cfg.pair.pair = false ∧ up.dev.cell = .uncatalogued)
      ∧ ({ code := 0x0701, source := 4, arm := some 7, cls := some 2 } : Ev).cls = some 2
      ∧ ({ code := 0x0701, source := 4, arm := some 8, cls := some 2 } : Ev).arm = some 8 := by decide +kernel

/-- A device whose span sets every compare: a keystone of a pair with the three deadlines and a SPAN row. -/
def spanning : State :=
  { (up.setRing 0 { phase := .running, start := .keystone, depart := 1000 }) with
    dev := { cell := .run, cellAt := .run, deadlineVc := 40000 }
    cfg := { spanCode := 1, deadlineLe := 30000, pair := { pair := true }, safety := { wdnDeadline := 20000 }
             rows := [(63, { enabled := true, trigger := 0, offsetNs := 5 })] } }

theorem witness_span :
    let t := after (.spanInstant { vc := 0, za := 0, le := 0 } (List.replicate 12 800)) spanning
    spanning.coreUp = true ∧ State.reset.coreUp = false ∧ t.cfg.deadlineLe ≠ 0 ∧ t.dev.deadlineVc ≠ 0 ∧ t.cfg.safety.wdnDeadline ≠ 0
      ∧ (∀ e ∈ t.cfg.rows, e.2.enabled = true ∧ e.2.trigger = spanTrigger ∧ t.rowInPhase e.2 = true) ∧ t.cfg.rows ≠ [] ∧ t.cfg.pair.pair = true
      ∧ t.leads 0 = true ∧ 1000 ≤ (t.ring 0).depart.toNat
      ∧ ({} : EngineClass).dones.filter (fun x => decide (x.1 < 1)) = []
      ∧ (let e : EngineClass := { dones := [(0, 5), (1, -7), (0, -1)] }
        (-1 : Int) ∈ (e.dones.filter (fun x => decide (x.1 < 1))).map (fun x => x.2)
          ∧ ∀ m ∈ (e.dones.filter (fun x => decide (x.1 < 1))).map (fun x => x.2), (-1 : Int) ≤ m) := by decide +kernel

/-! The rings. -/

/-- `s` with compares of TB0 that have fired at the span instant. -/
def fired (l : List CompareKind) (s : State) : State :=
  { s with tb := { s.tb with fired := l.map (fun k => { tb := 0, instant := BitVec.ofNat 64 s.spanStart, what := k }) } }

/-- A device with serial 9 on ring 0 with claim 40 and one node; `f` makes the ring. -/
def onRing (f : Ring) : State :=
  { (up.setRing 0 f) with
    dev := { cell := .integrating, serialLo := 9 }
    cfg := { spanCode := 1, returnGuard := 4, rings := [(0, { configured := true, claim := 40, nodes := [{}], glapBound := 491520 })]
             ports := [(0, { enabled := true }), (1, { enabled := true })] } }

/-- A COLD deck of claim `claim`, serial `serial` and `hops` nodes, in its line form. -/
def cold (claim hops : Byte) (serial : W32) (left : Byte := 16) : Octets :=
  1 :: sealDeck ([1, 0, 0, 0, 0, 0, claim, 0, 28, 0, 0, 0, 0, 0, 0, 0, hops, 0, left, 0] ++ leBytes 4 serial.toNat ++ [0, 0, 0, 0]) false

theorem witness_claims :
    ((onRing { start := .listening }).ring 0).start = .listening ∧ (onRing {}).ringClaim 0 = 40 ∧ (onRing {}).ringClaim 1 = 0
      ∧ ((onRing { start := .listening }).setRing 1 { start := .listening }).ring 1 = { start := .listening }
      ∧ ((onRing { start := .node }).ring 0).start = .node ∧ ((onRing { start := .backoff }).ring 0).start = .backoff
      ∧ ((onRing { start := .originating }).ring 0).start = .originating ∧ (onRing {}).cfg.classOf 0x0602 = 1
      ∧ (onRing {}).portEnabled (westPort 0) = true ∧ up.portEnabled (westPort 0) = false ∧ ((onRing { start := .listening }).ring 0).clashed = false
      ∧ judgeDeck (cold 41 0 3) = .good ∧ judgeDeck (cold 39 0 3) = .good ∧ judgeDeck (cold 40 0 3) = .good ∧ judgeDeck (cold 40 0 9) = .good
      ∧ deckType (cold 41 0 3) = 1 ∧ u8 (deckBody (cold 41 0 3)) 6 = 41 ∧ u32 (deckBody (cold 40 0 9)) 20 = (onRing {}).dev.serialLo
      ∧ u32 (deckBody (cold 40 0 3)) 20 ≠ (onRing {}).dev.serialLo := by decide +kernel

/-- A keystone that has counted its node. -/
def keyed (f : Ring → Ring) : State := onRing (f { start := .keystone, phase := .cold, hops := some 1 })

/-- An INTEGRATE deck of phase `p` with node 1 ready. -/
def integrateDeck (p : Byte) : Octets :=
  2 :: sealDeck ([2, 0, 0, 0, 0, 0, 40, 0, 68, 0] ++ List.replicate 24 0 ++ [p, 0, 1, 0] ++ List.replicate 30 0) false

theorem witness_cold_start :
    let fresh := fun (g : Ring) => { g with hops := none }
    ((keyed fun g => { g with coldLeft := 16 }).ring 0).coldLeft ≠ 0 ∧ ((keyed id).ring 0).coldLeft = 0 ∧ (keyed id).counted 0 = true
      ∧ ((keyed id).ring 0).mismatch = false ∧ (keyed fresh).counted 0 = false ∧ ((keyed fresh).ring 0).coldLeft = 0
      ∧ ((keyed id).ring 0).start = .keystone ∧ ((keyed id).ring 0).phase = .cold ∧ (keyed id).portEnabled (westPort 0) = true
      ∧ ((onRing { start := .originating }).ring 0).start = .originating ∧ (keyed id).dev.serialLo = 9 ∧ (keyed id).ringClaim 0 = 40
      ∧ judgeDeck (cold 40 16 9) = .good ∧ deckType (cold 40 16 9) = 1 ∧ u32 (deckBody (cold 40 16 9)) 20 = 9 ∧ u8 (deckBody (cold 40 16 9)) 6 = 40
      ∧ u8 (deckBody (cold 40 17 9)) 16 = 17 ∧ judgeDeck (cold 40 17 9) = .good
      ∧ (let last := cold 40 2 9 1; judgeDeck last = .good ∧ u8 (deckBody last) 18 = 1 ∧ (u8 (deckBody last) 16).toNat ≠ ((keyed id).ringCfg 0).nodes.length)
      ∧ (keyed id).cfg.classOf 0x0604 = 1 ∧ (keyed id).cfg.classOf 0x0603 = 4 ∧ (keyed id).cfg.classOf 0x0605 = 1 ∧ (keyed id).cfg.classOf 0x0601 = 4
      ∧ (keyed id).dev.cell = .integrating ∧ up.dev.cell ≠ .integrating
      ∧ ((keyed fun g => { g with phase := .integrate, phaseSpan := 63, phaseNo := 2 }).ring 0).phaseSpan.toNat < 64
      ∧ 64 ≤ ((keyed fun g => { g with phase := .integrate, phaseSpan := 64 }).ring 0).phaseSpan.toNat
      ∧ ({ keyed id with tb := { tb0 := { mode := .acquiring } } } : State).tb.tb0.mode = .acquiring ∧ (keyed id).tb.refFault = false
      ∧ (keyed id).tb.tb0.mode ≠ .acquiring := by decide +kernel

theorem witness_integrate :
    let s := fun (p n : Byte) => keyed fun g => { g with phase := .integrate, phaseNo := p, phaseSpan := n }
    (judgeDeck (integrateDeck 0) = .good ∧ deckType (integrateDeck 0) = 2 ∧ (u8 (deckBody (integrateDeck 0)) 7).toNat = 0
      ∧ u8 (deckBody (integrateDeck 0)) 34 = 0 ∧ (s 0 8).allReady 0 (((s 0 8).ring 0).ready ||| u16 (deckBody (integrateDeck 0)) 36) = true
      ∧ 8 ≤ ((s 0 8).ring 0).phaseSpan.toNat ∧ ((s 0 7).ring 0).phaseSpan.toNat < 8 ∧ (s 0 63).allReady 0 0 = false ∧ ((s 0 63).ring 0).phaseSpan.toNat < 64)
      ∧ (judgeDeck (integrateDeck 1) = .good ∧ u8 (deckBody (integrateDeck 1)) 34 = 1 ∧ 16 ≤ ((s 1 16).ring 0).phaseSpan.toNat)
      ∧ (judgeDeck (integrateDeck 2) = .good ∧ u8 (deckBody (integrateDeck 2)) 34 = 2 ∧ ((s 2 8).ring 0).lineStart = false
        ∧ (let x := (s 2 8).departure (lapOf 1000 (((s 2 8).ringCfg 0).deckLen false))
          x.isSome = true ∧ 1000 + (s 2 8).ringDeadline 0 ≤ x.getD 0
            ∧ x.getD 0 < 1000 + ({ s 2 8 with cfg := { (s 2 8).cfg with deadlineLe := 62000 } } : State).ringDeadline 0)
        ∧ lapOf 1000 (((s 2 8).ringCfg 0).deckLen true) ≤ ((s 2 8).ringCfg 0).glapBound.toNat
        ∧ ((s 2 8).ringCfg 0).glapBound.toNat < lapOf 1146881 (((s 2 8).ringCfg 0).deckLen true)) := by decide +kernel

/-- `up` as keystone of ring 0 in its cycle; `f` changes the ring. -/
def leading (f : Ring → Ring) : State :=
  { onRing (f { start := .keystone, phase := .running }) with
    dev := { cell := .run, cellAt := .run }
    le := { ran := true }
    cfg := { (onRing {}).cfg with chans := [(71, { used := true, ring := 0 })] } }

theorem witness_departures :
    let at_ := fun (k : CompareKind) => fired [k] (leading id)
    (at_ (.gatherDeparture 0)).came (.gatherDeparture 0) = true ∧ (at_ (.gatherDeparture 0)).leads 0 = true ∧ (leading id).came (.gatherDeparture 0) = false
      ∧ (onRing {}).leads 0 = false ∧ (onRing {}).shadows 0 = false
      ∧ (at_ (.deliverCutoff 0)).came (.deliverCutoff 0) = true ∧ (at_ (.deliverCutoff 0)).leads 0 = true ∧ (leading id).ax.cutoff = false
      ∧ ({ leading id with ax := { cutoff := true } } : State).ax.cutoff = true
      ∧ ((leading id).chanCfg 71).used = true ∧ ((leading id).chanCfg 71).ring.toNat = 0
      ∧ (at_ (.deliverCutoff 0)).chanDone 71 (((at_ (.deliverCutoff 0)).instantOf (.deliverCutoff 0)).getD 0) = true
      ∧ ({ at_ (.deliverCutoff 0) with le := { ran := false } } : State).chanDone 71 (((at_ (.deliverCutoff 0)).instantOf (.deliverCutoff 0)).getD 0) = false
      ∧ (let s := fired [.deliverDeparture 0] (leading fun g => { g with frozen := true, deliver := 4 :: List.replicate 28 0 })
        s.came (.deliverDeparture 0) = true ∧ s.leads 0 = true ∧ (s.ring 0).frozen = true ∧ (s.ring 0).deliverSent = false
          ∧ 28 ≤ (deckBody (s.ring 0).deliver).length)
      ∧ (leading id).came (.deliverDeparture 0) = false ∧ (leading id).came (.deliverCutoff 0) = false
      ∧ (at_ .outputFreeze).came .outputFreeze = true ∧ (leading id).came .outputFreeze = false := by decide +kernel

/-! Decks whose check is taken in pieces. -/

theorem crcRun_append (p : Poly) (c : W32) (a b : Octets) : crcRun p c (a ++ b) = crcRun p (crcRun p c a) b := by
  simp [crcRun, List.foldl_append]

/-- A GATHER deck of ring 0 in span 0 with claim 40 and no panel. -/
def gather236Body : Octets :=
  (([3, 0, 0, 0, 0, 0, 40, 0, 236, 0, 0, 0, 0, 0, 0, 0] : Octets) ++ List.replicate 48 0 ++ List.replicate 48 0 ++ List.replicate 48 0 ++ List.replicate 48 0 ++ List.replicate 24 0)

def gather236 : Octets := 3 :: (gather236Body ++ leBytes 4 0x231835B2)

theorem gather236_check : crc32c gather236Body = 0x231835B2 := by
  have h0 : crcRun .crc32c (crcInit .crc32c) [3, 0, 0, 0, 0, 0, 40, 0, 236, 0, 0, 0, 0, 0, 0, 0] = 0xB60D8A59 := by decide +kernel
  have h1 : crcRun .crc32c 0xB60D8A59 (List.replicate 48 0) = 0x60BB3CA1 := by decide +kernel
  have h2 : crcRun .crc32c 0x60BB3CA1 (List.replicate 48 0) = 0xA7FED8FD := by decide +kernel
  have h3 : crcRun .crc32c 0xA7FED8FD (List.replicate 48 0) = 0xD82D7A5A := by decide +kernel
  have h4 : crcRun .crc32c 0xD82D7A5A (List.replicate 48 0) = 0xDB71F676 := by decide +kernel
  have h5 : crcRun .crc32c 0xDB71F676 (List.replicate 24 0) = 0xDCE7CA4D := by decide +kernel
  simp only [crc32c, crcOf, gather236Body, crcRun_append, h0, h1, h2, h3, h4, h5]
  decide

theorem gather236_good : judgeDeck gather236 = .good := by
  have hf : formGood gather236 = true := by decide +kernel
  have ht : ¬((deckType gather236).toNat = 0 ∨ 5 < (deckType gather236).toNat) := by decide
  have hc : covered (deckBody gather236) = gather236Body := by decide +kernel
  have hk : checkOf (deckBody gather236) = 0x231835B2 := by decide +kernel
  unfold judgeDeck
  simp only [hf, ht, hc, hk, gather236_check, if_false, if_true, Bool.not_true, Bool.false_eq_true]

/-- A DELIVER deck of ring 0 in span 0 with claim 40 and layout tag 5. -/
def deliver168Body : Octets :=
  (([4, 0, 0, 0, 0, 0, 40, 0, 168, 0, 5, 0, 0, 0, 0, 0, 40, 40] : Octets) ++ List.replicate 48 0 ++ List.replicate 48 0 ++ List.replicate 48 0 ++ List.replicate 2 0)

def deliver168 : Octets := 4 :: (deliver168Body ++ leBytes 4 0xEAE99AFA)

theorem deliver168_check : crc32c deliver168Body = 0xEAE99AFA := by
  have h0 : crcRun .crc32c (crcInit .crc32c) [4, 0, 0, 0, 0, 0, 40, 0, 168, 0, 5, 0, 0, 0, 0, 0, 40, 40] = 0xB5D70E22 := by decide +kernel
  have h1 : crcRun .crc32c 0xB5D70E22 (List.replicate 48 0) = 0x22F98007 := by decide +kernel
  have h2 : crcRun .crc32c 0x22F98007 (List.replicate 48 0) = 0xD93F57B4 := by decide +kernel
  have h3 : crcRun .crc32c 0xD93F57B4 (List.replicate 48 0) = 0xFB4ADACB := by decide +kernel
  have h4 : crcRun .crc32c 0xFB4ADACB (List.replicate 2 0) = 0x15166505 := by decide +kernel
  simp only [crc32c, crcOf, deliver168Body, crcRun_append, h0, h1, h2, h3, h4]
  decide

theorem deliver168_good : judgeDeck deliver168 = .good := by
  have hf : formGood deliver168 = true := by decide +kernel
  have ht : ¬((deckType deliver168).toNat = 0 ∨ 5 < (deckType deliver168).toNat) := by decide
  have hc : covered (deckBody deliver168) = deliver168Body := by decide +kernel
  have hk : checkOf (deckBody deliver168) = 0xEAE99AFA := by decide +kernel
  unfold judgeDeck
  simp only [hf, ht, hc, hk, deliver168_check, if_false, if_true, Bool.not_true, Bool.false_eq_true]

theorem witness_returns :
    let sent := leading fun g => { g with gatherSent := true }
    let past : State := { fired [.gatherCutoff 0] sent with tb := { (fired [.gatherCutoff 0] sent).tb with tb0 := { ns := BitVec.ofNat 64 (sent.spanStart + 1) } } }
    (leading id).leads 0 = true ∧ ((leading id).ring 0).phase = .running ∧ (leading id).cfg.pair.pair = false ∧ (leading id).portEnabled (westPort 0) = true
      ∧ (sent.ring 0).gatherSent = true ∧ (sent.ring 0).gatherDone = false ∧ sent.passedBy (.gatherCutoff 0) = false
      ∧ sent.ourDeck 0 true gather236 = true
      ∧ past.passedBy (.gatherCutoff 0) = true ∧ past.came (.gatherCutoff 0) = true ∧ past.leads 0 = true
      ∧ (let s := fired [.gatherCutoff 0] (leading fun g => { g with gatherSent := true, gatherDone := true })
        (s.ring 0).gatherDone = true ∧ (s.ring 0).gatherLost = false ∧ s.came (.gatherCutoff 0) = true)
      ∧ ((leading id).ring 0).gatherSent = false
      ∧ ((leading fun g => { g with deliverSent := true }).ring 0).deliverSent = true ∧ ((leading id).ring 0).deliverDone = false
      ∧ (leading id).ourDeck 0 false deliver168 = true ∧ judgeDeck [9] ≠ .good
      ∧ (onRing {}).leads 0 = false ∧ (onRing {}).shadows 0 = false ∧ (leading id).came (.gatherCutoff 0) = false
      ∧ (fired [.gatherCutoff 0] (onRing {})).came (.gatherCutoff 0) = true ∧ (fired [.gatherCutoff 0] (onRing {})).leads 0 = false := by decide +kernel

/-- `leading` with a node at position 16. -/
def passing (x : Node) : State := (leading id).setNode 0 16 x

theorem witness_passages :
    (passing {}).isSelf 0 = false ∧ still.cut = false ∧ judgeDeck [9] = .unknown ∧ deckType deliver168 = 4
      ∧ ((passing {}).node 0 16).configured = false ∧ ((passing { configured := true, tag := 6 }).node 0 16).tag ≠ u16 (deckBody deliver168) 10
      ∧ (u8 (deckBody deliver168) 7).toNat ≠ 13
      ∧ judgeDeck (cold 40 0 9) = .good ∧ (deckBody (cold 40 0 9)).length = 28 ∧ deckType (cold 40 0 9) = 1
      ∧ ((passing { configured := true, tag := 5 }).node 0 16).tag = u16 (deckBody deliver168) 10
      ∧ (u8 (deckBody deliver168) 7).toNat = 0 ∧ u32 (deckBody deliver168) 2 = still.span
      ∧ u8 (deckBody deliver168) 16 = 40 ∧ u8 (deckBody deliver168) 17 = 40 ∧ still.late = false
      ∧ ((passing { configured := true, tag := 5 }).node 0 16).excluded = false
      ∧ ((passing { configured := true, next := some [1] }).node 0 16).next = some [1]
      ∧ ((passing { configured := true, started := true, missRun := 4 }).node 0 16).started = true
      ∧ ((passing { configured := true, started := true, missRun := 4 }).node 0 16).next = none ∧ ((passing {}).node 0 16).started = false
      ∧ (let s := passing { started := true, missRun := 4, entry := { deliverLen := 32 }, joints := [(0, { missRun := 3 })] }
        s.jointsAt 0 (s.node 0 16).entry = [(0, 0)] ∧ ((s.node 0 16).joint 0).missRun = 3) := by decide +kernel

/-- MBX_SEND of one octet in lot 1 to node 16 of ring 13. -/
def mbxSend : Packet := pk [13, 16, 1, 0, 1, 0]

def mailing (m : MailTx) : State := (up.setRing 13 { tx := some m }).setQueue 0 { up.queue 0 with busy := some {} }

theorem witness_mail :
    lots.takes mbxSend = true ∧ unusedZero mbxSend.params [(0, 1), (1, 1), (2, 2), (4, 2)] = true ∧ param mbxSend.params 0 1 = 13
      ∧ param mbxSend.params 1 1 = 16 ∧ param mbxSend.params 2 2 = 1 ∧ param mbxSend.params 4 2 = 1 ∧ lots.lot 1 = 2 ∧ (lots.ring 13).tx = none
      ∧ ((lots.setRing 13 { tx := some {} }).ring 13).tx ≠ none ∧ (lots.setRing 13 { tx := some {} }).takes mbxSend = true
      ∧ lots.sound (0x00F0000000 + 4096 * 1) 1 = true
      ∧ lots.takes (pk [13, 0, 1]) = true ∧ unusedZero (par [13, 0, 1]) [(0, 1), (2, 2)] = true ∧ (lots.ring 13).rxDone = []
      ∧ ((lots.setRing 13 { rxDone := [{ data := [5] }] }).ring 13).rxDone = [{ data := [5] }]
      ∧ ((mailing { sent := true, decks := 8, tries := 2 }).ring 13).tx = some { sent := true, decks := 8, tries := 2 }
      ∧ ((mailing { sent := true, decks := 8, tries := 3 }).queue 0).busy = some {} := by decide +kernel

/-- `up` with port 31 (ring 12) enabled, in the state `o`. -/
def port31 (o : Port) : State :=
  { cellIn .loaded with cfg := { ports := [(31, { enabled := true })] }, lr := { ports := [(31, o)] }, tb := { tb2 := { mode := .monotonic, ns := 131072 } } }

/-- The stamp of a tick. -/
def tickAt (ns : Nat) : RawStamp := { ns := BitVec.ofNat 64 ns, frac := 0, eighths := 0 }

theorem witness_ports :
    let live := port31 { linkUp := true, request := some 255 }
    let running := (port31 { linkUp := true }).setRing 12 { phase := .running }
    (port31 {}).portEnabled 31 = true ∧ ((port31 { pcsSync := true }).port 31).pcsSync = true ∧ ((port31 {}).port 31).linkUp = false
      ∧ 131072 ≤ ((port31 {}).tb.tb2.ns - ((port31 {}).port 31).cleanFrom).toNat
      ∧ ((port31 {}).tb.tb2.ns - ((port31 { cleanFrom := 1 }).port 31).cleanFrom).toNat < 131072
      ∧ up.portEnabled 31 = false ∧ live.probes 31 = true ∧ (live.port 31).request = some 255 ∧ (port31 {}).probes 31 = false
      ∧ ((port31 { linkUp := true }).port 31).request = none
      ∧ u8 (probeOctets 1 7 0) 0 = 1 ∧ 0 ≤ live.probeResidence 31 ⟨tickAt 1000, tickAt 1424⟩ ∧ live.probeResidence 31 ⟨tickAt 1000, tickAt 1424⟩ = 131072
      ∧ 131072 < live.probeResidence 31 ⟨tickAt 1000, tickAt 1425⟩ ∧ live.probeResidence 31 ⟨tickAt 1000, tickAt 900⟩ < 0
      ∧ u8 (probeOctets 2 255 0) 0 = 2 ∧ u8 (probeOctets 2 255 0) 1 = 255
      ∧ live.roundTrip 31 (tickAt 0) (tickAt 2088) = 131072000 ∧ 131072000 < live.roundTrip 31 (tickAt 0) (tickAt 2089)
      ∧ ringOfPort 31 = some 12 ∧ running.probes 31 = true ∧ (running.ring 12).phase = .running
      ∧ (live.port 31).silentRaised = false ∧ ((port31 { linkUp := true, silentRaised := true }).port 31).silentRaised = true
      ∧ (port31 {}).cfg.classOf 0x060A = 1 := by decide +kernel

/-! Motion. -/

/-- The span of `worked` with set 0 as `f` makes it and the cell in `c`. -/
def moving (c : CellState) (f : LeSet → LeSet) : State :=
  { worked.setArmSet 0 (f (worked.armSet 0)) with dev := { worked.dev with cellAt := c, cell := c } }

theorem witness_path_times :
    (moving .run id).leReady = true ∧ ({ moving .run id with le := { (moving .run id).le with ran := true } } : State).leReady = false
      ∧ ((moving .run fun u => { u with engage := true }).armSet 0).engage = true ∧ ((moving .run id).armSet 0).engage = false
      ∧ (moving .run id).dev.cellAt = .run ∧ Table.get .unused (moving .run id).dev.armsAt 0 = .enabled
      ∧ ((moving .stopping fun u => { u with scale := 0x7FFF }).armSet 0).scale = 0x7FFF
      ∧ ((moving .run fun u => { u with scale := 0 }).armSet 0).scale.toInt ≤ 0
      ∧ ((moving .run fun u => { u with scale := 0x8000 }).armSet 0).scale.toInt < 0
      ∧ 0 < ((moving .run fun u => { u with scale := 1 }).armSet 0).scale.toInt
      ∧ (moving .hold id).dev.cellAt = .hold
      ∧ (moving .run id).tb.tb0.ns.toNat < ((after (.leRun [800] []) (moving .run id)).lastEnd + 7) / 8
      ∧ (let s : State := { moving .run id with cfg := { worked.cfg with rows := [(2, { enabled := true, trigger := 3, release := true, target := 5 })] } }
        s.cfg.rows ≠ [] ∧ ∀ e ∈ s.cfg.rows, e.2.release = true → (s.desc e.2.target.toNat).count = 0) := by decide +kernel

theorem witness_le_deadline :
    let ran := fun (l : List Nat) => fired [.deadlineLe] { moving .run id with le := { (moving .run id).le with ran := true, ends := l } }
    let late := fun (s : State) => s.usedChans.filter (fun c => !s.chanDone c ((s.instantOf .deadlineLe).getD 0))
    (moving .run id).came .deadlineLe = false ∧ (ran []).came .deadlineLe = true ∧ late (ran [0, 0, 0, 0]) = []
      ∧ late (ran [0, 0, 0, 8 * (ran []).spanStart + 1]) = [3] ∧ late (fired [.deadlineLe] (moving .run id)) = [3]
      ∧ (moving .run id).cfg.classOf 0x0102 ≠ 0
      ∧ (late (fired [.deadlineLe] (moving .run id))).filter (fun c => ((moving .run id).chanCfg c).arm.toNat == 0) ≠ [] := by decide +kernel

/-- `worked` with channel 71 in `k`, measured with status `st`, the last mode `e`. -/
def channel (c : CellState) (k : ChanCfg) (st : W16) (e : BitVec 3) : State :=
  { moving c id with
    cfg := { worked.cfg with chans := [(70, { used := true, mode := 3 }), (71, { k with used := true })] }
    le := { worked.le with chans := [(71, { eff := e, measured := { status := st } })] } }

theorem witness_modes :
    let eff := fun (s : State) => s.effMode (s.chanCfg 71)
    (channel .run { mode := 3 } 2 3).leReady = true ∧ ((channel .run { mode := 3 } 2 3).chanCfg 71).used = true
      ∧ eff (channel .parked { mode := 3 } 2 3) = 7 ∧ eff (channel .run { mode := 0 } 2 0) = 0 ∧ eff (channel .run { mode := 1 } 2 1) = 1
      ∧ eff (channel .run { mode := 2 } 2 2) = 2 ∧ eff (channel .run { mode := 3 } 2 3) = 3 ∧ eff (channel .hold { mode := 3 } 2 4) = 4
      ∧ ((channel .run { mode := 3 } 8 3).chan 71).driveOff = true ∧ ((channel .run { mode := 3 } 2 3).chan 71).driveOff = false
      ∧ ((channel .hold { mode := 3 } 2 4).chan 71).eff = 4 ∧ ((channel .hold { mode := 3 } 2 7).chan 71).eff = 7
      ∧ ((channel .hold { mode := 3 } 2 2).chan 71).eff = 2
      ∧ eff (channel .run { mode := 5, leader := 70 } 2 5) = 5 ∧ (70 : Byte).toNat < 71 ∧ ((channel .run { mode := 5, leader := 70 } 2 5).chanCfg 70).mode ≠ 5
      ∧ ((channel .run { mode := 5, leader := 70 } 2 5).chan 70).driveOff = false
      ∧ (channel .run { mode := 5, leader := 70 } 2 5).effMode ((channel .run { mode := 5, leader := 70 } 2 5).chanCfg 70) ≠ 7
      ∧ ({ channel .run { mode := 5, leader := 70 } 2 5 with
          le := { chans := [(70, { measured := { status := 8 } })] } } : State).chan 70 = { measured := { status := 8 } } := by decide +kernel

theorem witness_records : (71 : BitVec 7).toNat < 72 ∧ 72 ≤ (72 : BitVec 7).toNat ∧ Requester.registrar ≠ .host ∧ 0x90 ≤ (0x90 : BitVec 8).toNat := by decide

/-- `up` with profile channel 71 of the free set, its source PROFILE as `src`; `f` makes the channel. -/
def profiled (src : Bool) (pin : BitVec 48) (f : PgChan) : State :=
  { cellIn .run with
    cfg := { spanCode := 1, chans := [(71, { used := true, mode := 3, arm := 8 })], profs := [(71, { enabled := true, limitPos := 47, vMax := 0x01000000, aMax := 0x10000, jMax := 0x10000, dMax := 0x10000, dStop := 0x10000, jStop := 0x10000 })] }
    le := { sets := [(8, { source := src })] }
    pg := { chans := [(71, f)] }
    dio := { inputs := pin } }

/-- PG_TARGET of channel 71 to 1 turn, ungrouped and in group 15. -/
def goTo : Packet := pk [71, 0, 0, 0, 0, 0, 0, 0, 0, 0, 0, 0, 0, 1]
def goGroup : Packet := pk [71, 2, 15, 0, 0, 0, 0, 0, 0, 0, 0, 0, 0, 1]
def goAt : Packet := pk [71, 1, 0, 0, 0, 0, 0, 0, 0, 0, 0, 2]

theorem witness_profile :
    (profiled true 0 {}).takes goTo = true ∧ (profiled true 0 {}).replicates = false ∧ (profiled true 0 {}).refusesReplicated = false
      ∧ (profiled true 0 {}).pgTargetGood goTo.params = true ∧ (profiled true 0 {}).pgTargetGood goGroup.params = true
      ∧ (profiled true 0 {}).pgTargetGood goAt.params = true
      ∧ ((profiled false 0 {}).armSet ((profiled false 0 {}).setOf 71)).source = false
      ∧ ((profiled true 0 {}).armSet ((profiled true 0 {}).setOf 71)).source = true
      ∧ (profiled true (BitVec.ofNat 48 (2 ^ 47)) {}).limitHit 71 (.position 0x10000000000) = true
      ∧ (profiled true 0 {}).limitHit 71 (.position 0x10000000000) = false
      ∧ param goGroup.params 1 1 / 2 % 2 = 1 ∧ param goTo.params 1 1 / 2 % 2 = 0 := by decide +kernel

theorem witness_groups :
    let s := profiled true 0 { waiting := some (15, .position 0x10000000000) }
    let t := profiled true 0 { waiting := some (15, .position 0x10000000000), plan := { kind := .velocity, final := { v := 1 } } }
    s.takes (pk [0, 0x80]) = true ∧ unusedZero (par [0, 0x80]) [(0, 2), (2, 2)] = true
      ∧ (s.prof 71).waiting = some (15, .position 0x10000000000) ∧ (BitVec.ofNat 16 (param (par [0, 0x80]) 0 2)).getLsbD 15 = true
      ∧ s.planRest 71 = true ∧ s.dev.cell = .run ∧ s.setOf 71 = 8 ∧ s.limitHit 71 (.position 0x10000000000) = false
      ∧ (s.armSet 8).source = true ∧ t.planRest 71 = false ∧ (t.prof 71).waiting = some (15, .position 0x10000000000)
      ∧ unusedZero (par [0, 0, 0, 0, 0, 0, 0, 0, 0x80]) [(0, 9)] = true
      ∧ (param (par [0, 0, 0, 0, 0, 0, 0, 0, 0x80]) 0 9).testBit 71 = true
      ∧ unusedZero (par [8, 1]) [(0, 1), (1, 1)] = true ∧ param (par [8, 1]) 0 1 = 8 ∧ param (par [8, 1]) 1 1 = 1 ∧ param (par [8]) 1 1 = 0
      ∧ ((profiled true 0 {}).profCfg 70).enabled = false := by decide +kernel

/-- The group members at `profiled`: only channel 71 waits. -/
theorem witness_group_members :
    ∀ d : Nat, d < 72 → ((profiled true 0 { waiting := some (15, .position 0x10000000000) }).prof d).waiting ≠ none → d = 71 := by decide +kernel

theorem witness_generator :
    let s := profiled true 0 { target := some (.position 0x10000000000) }
    let t := profiled true 0 { stopDue := true }
    let m := profiled true 0 { stopDue := true, plan := { kind := .stop, phases := [{ j := 0, t := 0x100000000000 }] } }
    let old := fun (u : State) => ({ u.prof 71 with plan := (u.prof 71).plan.renewed (firstKnot (u.pNext 8)) } : PgChan)
    let stops := fun (u : State) => (u.setProf 71 (old u)).stopsNow 71
    (s.profCfg 71).enabled = true ∧ (s.chanCfg 71).used = true ∧ s.setOf 71 = 8 ∧ (s.armSet 8).engage = false ∧ (s.pgSet 8).req = false
      ∧ s.pg.starts = [] ∧ (s.armSet 8).source = true ∧ ((profiled false 0 {}).armSet 8).source = false ∧ 71 < (72 : BitVec 7).toNat
      ∧ (71 : BitVec 7).toNat ≤ 71 ∧ s.limitInput (s.profCfg 71).limitPos = false ∧ s.limitInput (s.profCfg 71).limitNeg = false
      ∧ (old s).hardDue = false ∧ (old t).stopDue = true ∧ stops t = false ∧ stops m = true ∧ (old m).stopDue = true
      ∧ (old s).target = some (.position 0x10000000000) ∧ (old s).stopDue = false ∧ stops s = false ∧ s.stalled 71 = false
      ∧ (old (profiled true 0 {})).target = none ∧ (old (profiled true 0 {})).stopDue = false := by decide +kernel

/-! Auxiliary axes. -/

/-- Modules 6 and 7 as `k` and a peer with sync_in, the cell in RUN; module 6 as `a`. -/
def axis (k : AxCfg) (a : AxModule) : State :=
  { cellIn .run with cfg := { spanCode := 1, ax := [(6, { k with enable := true }), (7, { enable := true, syncIn := true, phase := 5 })] }, ax := { mods := [(6, a)] } }

theorem witness_axis_modules :
    let direct := axis { direct := true, mode := 3, top := 100 } { pw := { staged := some [1, 2, 3, 4], forceNew := true } }
    (axis {} {}).axServes 6 = true ∧ ((axis { direct := true } {}).axCfg 6).direct = true ∧ (direct.axm 6).pw.staged = some [1, 2, 3, 4]
      ∧ direct.ax.acceptedAt.toNat / 4 = direct.tb.tb2.ns.toNat / 4
      ∧ (let later : State := { direct with tb := { tb2 := { mode := .monotonic, ns := 4 } } }; later.ax.acceptedAt.toNat / 4 ≠ later.tb.tb2.ns.toNat / 4)
      ∧ ((axis { mode := 3 } {}).axCfg 6).direct = false ∧ ((axis { mode := 3 } {}).axCfg 6).mode = 3
      ∧ (direct.axm 6).pw.forceNew = true ∧ (direct.axm 6).pw.forceReg.getLsbD 31 = false
      ∧ ((axis {} { pw := { forceReg := 0x80000000, forceNew := true } }).axm 6).pw.forceReg.getLsbD 31 = true
      ∧ ((axis {} {}).axm 6).pw.forceNew = false ∧ ((axis {} {}).axCfg 7).syncIn = true ∧ ((axis {} {}).axCfg 7).enable = true
      ∧ ((axis { fltEn := true } {}).axCfg 6).fltEn = true ∧ (axis { mode := 3, direct := true } {}).axDrives 6 = true
      ∧ (axis { mode := 0 } {}).axDrives 6 = false ∧ Requester.registrar ≠ .host
      ∧ (axis {} {}).ax.pending = false ∧ ({ axis {} {} with ax := { pending := true } } : State).ax.pending = true := by decide +kernel

theorem witness_axis_feedback :
    let quad := axis { kind := 2, spacing := 5 } {}
    quad.axServes 6 = true ∧ (quad.axCfg 6).kind = 2 ∧ (quad.axCfg 6).spacing ≠ 0
      ∧ ((1 : BitVec 3).getLsbD 0 != (quad.axm 6).fb.filtered.getLsbD 0) = true ∧ ((3 : BitVec 3).getLsbD 1 != (quad.axm 6).fb.filtered.getLsbD 1) = true
      ∧ ((axis { kind := 1 } {}).axCfg 6).kind = 1
      ∧ ((axis {} { fb := { holding := 7, pins := 7 } }).axm 6).fb.holding = 7
      ∧ ((axis { mode := 4 } { pw := { left := 1, out := .wave } }).axCfg 6).mode = 4
      ∧ (axis { mode := 4, direct := true } { pw := { left := 1 } }).axOut 6 = .wave
      ∧ ((axis { mode := 4, direct := true } { pw := { left := 1 } }).axm 6).pw.left ≠ 0 ∧ ((axis { mode := 4, direct := true } {}).axm 6).pw.left = 0
      ∧ ((axis { mode := 2, ext := true } {}).axCfg 6).ext = true ∧ 64 ≤ ((axis { mode := 2 } { pw := { still := 64 } }).axm 6).pw.still
      ∧ (axis {} {}).takes (pk [6]) = true ∧ unusedZero (par [6]) [(0, 1)] = true ∧ param (par [6]) 0 1 = 6
      ∧ ((axis {} {}).axm 6).fb.devRun = 0 ∧ ((axis {} {}).axm 6).fb.laRun = 0 ∧ ((axis {} { fb := { devRun := 1 } }).axm 6).fb.devRun ≠ 0 := by
  decide +kernel

/-! The solver: slot 127 of lane 31. -/

def solver (c : CellState) (k : SlotCfg) (z : ZaSlot) : State :=
  { cellIn c with
    cfg := { spanCode := 1, slots := [(127, k)] }
    za := { slots := [(127, z)] }
    hq := { (cellIn c).hq with lots := [(1, 2)] } }

def zaPost : Packet := pk [127, 0, 1, 0, 1, 0, 0, 0]

theorem witness_solver_commands :
    let run := solver .run { enabled := true, token := true, listCap := 1 } {}
    let held := solver .hold { enabled := true, token := true, prime := true } {}
    let tick := solver .run { enabled := true, period := 15, phase := 0, offsetNs := 40 } {}
    let come := fun (s : State) => (fired [.solveTrigger 127] s).takeFired (.solveTrigger 127)
    (127 : Nat) < 128 ∧ (run.slot 127).pending = false ∧ ((solver .run {} { pending := true }).slot 127).pending = true
      ∧ (run.slotCfg 127).enabled = true ∧ (run.slotCfg 127).token = true ∧ run.dev.cell = .run ∧ (run.slot 127).activity = 0
      ∧ held.dev.cell = .hold ∧ (held.slotCfg 127).prime = true ∧ ((solver .run {} { activity := 2 }).slot 127).activity ≠ 0
      ∧ (tick.slotCfg 127).token = false ∧ (tick.slotCfg 127).phase.toNat ≤ (tick.slotCfg 127).period.toNat
      ∧ tick.zaDue (tick.slotCfg 127) = true ∧ tick.cfg.slots = [(127, tick.slotCfg 127)]
      ∧ tick.takeFired (.solveTrigger 127) = none ∧ (come tick).isSome = true ∧ (come run).isSome = true
      ∧ (come { tick with dev := { cell := .parked } }).isSome = true
      ∧ (solver .parked {} {}).dev.cell = .parked ∧ run.takes (pk [127]) = true ∧ run.replicates = false ∧ run.refusesReplicated = false
      ∧ param (par [127]) 0 1 = 127 ∧ unusedZero (par [127]) [(0, 1)] = true := by decide +kernel

theorem witness_solver_lists :
    let run := solver .run { enabled := true, token := true, listCap := 1 } {}
    run.takes zaPost = true ∧ unusedZero zaPost.params [(0, 1), (2, 2), (4, 2), (6, 2)] = true ∧ param zaPost.params 0 1 = 127
      ∧ param zaPost.params 6 2 % 8 = 0 ∧ param zaPost.params 2 2 ≤ (run.slotCfg 127).listCap.toNat
      ∧ (∀ l ∈ lotsFor 1 0 24, run.lot l = 2) ∧ run.sound (0xF0000000 + 4096 * 1 + 0) 24 = true
      ∧ run.takes (pk [127, 0, 1]) = true ∧ unusedZero (par [127, 0, 1]) [(0, 1), (2, 2)] = true ∧ (∀ l ∈ lotsFor 1 0 36, run.lot l = 2)
      ∧ (run.slot 127).posted = false ∧ ((solver .run {} { posted := true }).slot 127).posted = true
      ∧ run.sound (run.zaAddr 127 0) 36 = true := by decide +kernel

/-- Slot 127's solve in a phase on lane 31, with slot 126 waiting. -/
def solving (v : Solve) : State :=
  { solver .run { enabled := true, nIt := 2 } { activity := 2 } with
    za := { slots := [(127, { activity := 2 })], lanes := [(31, { queue := [{ slot := 126, deadline := 5 }], run := some v })] } }

/-- TB0 at `ns`. -/
def atTime (ns : Nat) (s : State) : State := { s with tb := { s.tb with tb0 := { ns := BitVec.ofNat 64 ns } } }

theorem witness_solves :
    let idle : State := { solving {} with za := { lanes := [(31, { queue := [{ slot := 126, deadline := 5 }] })] } }
    let in_ := fun (p : SolvePhase) => solving { slot := 127, phase := p, deadline := 5 }
    let inTime := fun (s : State) => (∀ e ∈ (s.lane 31).queue, s.solvePast e = false) ∧ ((s.lane 31).run.elim true fun v => !s.solvePast v) = true
    (solving {}).cfg.classOf 0x0104 = 1 ∧ (idle.lane 31).queue = [{ slot := 126, deadline := 5 }] ∧ (idle.lane 31).run = none ∧ inTime idle
      ∧ (∀ h ∈ idle.ts.held, h.lane ≠ some 31) ∧ (idle.slot 126).pending = false ∧ (idle.slot 126).factorOf.valid = false
      ∧ inTime (in_ .refactor) ∧ ((in_ .refactor).lane 31).run = some { slot := 127, phase := .refactor, deadline := 5 }
      ∧ (in_ .refactor).zaPoisoned 127 = false
      ∧ inTime (in_ .iterate) ∧ ((in_ .iterate).lane 31).run = some { slot := 127, phase := .iterate, deadline := 5 }
      ∧ ((1 : Byte) + 1 = ((solving {}).slotCfg 127).nIt) ∧ inTime (in_ .posting) ∧ 127 / 4 = 31
      ∧ ((in_ .posting).slot 127).factorOf.saturated = false ∧ ((solving {}).lane 31).run ≠ none := by decide +kernel

theorem witness_solver_deadlines :
    let past := fun (p : SolvePhase) => atTime 6 { solving {} with za := { lanes := [(31, { run := some { slot := 127, phase := p, deadline := 5, setEnd := 40 } })] } }
    let queued : State := atTime 6 { solving {} with za := { lanes := [(31, { queue := [{ slot := 126, deadline := 5 }] })] } }
    ((past .iterate).lane 31).run.map (past .iterate).solvePast = some true ∧ ((past .iterate).lane 31).queue = []
      ∧ ((past .iterate).lane 31).run.map (fun v => decide (v.setEnd ≤ v.deadline.toNat * 8)) = some true
      ∧ ((past .refactor).lane 31).run.map (past .refactor).solvePast = some true
      ∧ ((past .posting).lane 31).run.map (fun v => v.ending) = some .running
      ∧ (queued.lane 31).run = none ∧ (queued.lane 31).queue.map (fun e => (e.slot.toNat, queued.solvePast e)) = [(126, true)] := by decide +kernel

/-- A poisoned word of the slot's region: P's first word, where the slot has one entry. -/
theorem witness_solver_poison :
    let s := solver .run { enabled := true, nnzPa := 1, pPat := [(0, 0)] } {}
    ((s.zaInner 127).head?.map fun w => (s.setPoison w true).zaPoisoned 127) = some true := by decide +kernel

/-! Safety. -/

/-- A cell in `c` with section crc 5 in force, a staged copy and the key held. -/
def staging (c : CellState) (age : Nat) (key : Bool) (sel : Option Bool) : State :=
  { cellIn c with
    cfg := { safety := { sectionCrc := 5 } }
    tb := { tb0 := { ns := 1000000000 } }
    saf := { loadedA := true, sectionA := 5, keyLevel := key }
    par := { up := true, clock := BitVec.ofNat 64 (1000000000 + age), keyLevel := key, copyA := { crc := 5 }, selected := sel
             staged := if age = 0 then none else some (false, 1000000000) } }

theorem witness_sections :
    (staging .loaded 0 false none).takes (pk [5]) = true ∧ unusedZero (par [5]) [(0, 4)] = true ∧ (staging .run 0 false none).dev.cell = .run
      ∧ BitVec.ofNat 32 (param (par [5]) 0 4) = (staging .loaded 0 false none).cfg.safety.sectionCrc
      ∧ BitVec.ofNat 32 (param (par [6]) 0 4) ≠ (staging .loaded 0 false none).cfg.safety.sectionCrc
      ∧ (staging .loaded 0 false none).par.up = true ∧ (cellIn .loaded).par.up = false ∧ (staging .loaded 0 false (some false)).par.selected = some false
      ∧ (staging .loaded 0 false none).par.staged = none ∧ (staging .parked 600000000000 true none).par.staged = some (false, 1000000000)
      ∧ ((staging .parked 600000000000 true none).par.clock - 1000000000).toNat = 600000000000
      ∧ ((staging .parked 600000000001 true none).par.clock - 1000000000).toNat = 600000000001
      ∧ (staging .parked 600000000000 true none).par.copyA.crc = 5 ∧ (staging .parked 600000000000 true none).saf.sectionA = 5
      ∧ (staging .parked 600000000000 true none).keyHeld = true ∧ (staging .parked 600000000000 false none).keyHeld = false
      ∧ (staging .parked 600000000000 true none).takes (pk [5]) = true ∧ (staging .parked 1 true none).cfg.classOf 0x0C09 = 1 := by decide +kernel

theorem witness_restart :
    let s := fun (w : WArm) => ({ up with saf := { arms := [(7, w)] } } : State)
    (s {}).takes (pk [7]) = true ∧ unusedZero (par [7]) [(0, 1)] = true ∧ param (par [7]) 0 1 = 7 ∧ ((s {}).warm 7).prot = 0
      ∧ ((s { prot := 2 }).warm 7).prot ≠ 0 ∧ ((s { prot := 2 }).warm 7).restartWait = false
      ∧ ((s { prot := 1, restartWait := true }).warm 7).restartWait = true
      ∧ unusedZero (par [0x80, 0xFF]) [(0, 1), (1, 1)] = true ∧ (param (par [0x80, 0xFF]) 1 1).testBit 7 = true
      ∧ (param (par [0x80, 0x7F]) 1 1).testBit 7 = false := by decide +kernel

/-- Arm 7 modelled without joints, Warden running in state `f`. -/
def guarded (f : SafState) : State := { ready .run with saf := { f with loadedA := true }, cfg := { safety := { arms := [(7, { present := true, sRise := 1 })] } } }

theorem witness_warden :
    let f := guarded {}
    let at_ := fun (x : SafState) => fired [.wardenDeadline] (guarded x)
    f.saf.loadedA = true ∧ f.saf.halted = false ∧ f.wardenReady = true ∧ (f.armModel 7).present = true
      ∧ State.reset.wardenUp = false ∧ (guarded { ran := true }).wardenReady = false ∧ f.came .wardenDeadline = false
      ∧ (at_ {}).came .wardenDeadline = true ∧ (at_ {}).saf.late = false ∧ (at_ {}).saf.ran = false ∧ (at_ { ran := true }).saf.ran = true
      ∧ (at_ { halted := true }).saf.halted = true ∧ 1 ≤ (at_ { overrunRun := 1 }).saf.overrunRun
      ∧ f.pwr.inReset = false ∧ f.pwr.dormant = false ∧ f.cfg.classOf 0x0C04 = 4 ∧ f.dev.cell ≠ .uncatalogued ∧ f.dev.cell ≠ .loaded
      ∧ State.reset.pwr.inReset = true := by decide +kernel

theorem witness_containers :
    tests125 .a drive3 (signed3 0x41 900) 10000 0 = true ∧ tests125 .a drive3 [] 10000 0 = false
      ∧ (({} : SafConn).expired drive3.tWdNs 10000).started = false
      ∧ (({ started := true, lastSeq := 0x40 } : SafConn).expired drive3.tWdNs 10000).started = true
      ∧ (u32 (signed3 0x41 900) 3 - 0).toNat < 2 ^ 31 ∧ (u8 (signed3 0x41 900) 13).getLsbD 5 = true ∧ u16 (signed3 0x41 900) 1 = 0x40 + 1
      ∧ (u16 (signed3 0x42 900) 1 - 0x40).toNat = 2 ∧ (u16 (signed3 0x8040 900) 1 - 0x40).toNat = 32768
      ∧ (u32 (signed3 0x41 900) 3 - 901).toNat ≥ 2 ^ 31 ∧ (u8 ((signed3 0x41 900).set 13 0) 13).getLsbD 5 = false
      ∧ u16 (signed3 0x40 900) 1 = 0x40 ∧ 32768 < (u16 (signed3 0x8041 900) 1 - 0x40).toNat ∧ drive3.kind = .safeState
      ∧ (({ state := .safe, started := true, run := 0 } : SafConn).expired drive3.tWdNs 10000).run = 0
      ∧ (({ state := .safe, started := true, run := 1 } : SafConn).expired drive3.tWdNs 10000).state = .safe := by decide +kernel

/-- The Parapet up with time `t`, connection 3 in its section and a draft on connection 4. -/
def parapet (t : Option W32) (ign : Nat) : State :=
  let sec : SafetyCfg := { conns := [(3, { used := true, parapet := true, kind := .safeState }), (4, { used := true, kind := .demand, arm := 7 })] }
  { ready .run with
    cfg := { safety := sec }
    par := { up := true, ns32 := t, ignored := ign, selected := some false, copyA := { section_ := sec } }
    saf := { outConns := [(4, { draft := some (List.replicate 24 0) })] } }

theorem witness_parapet :
    (parapet (some 5) 0).parNow = some 5 ∧ (parapet none 0).parNow = none ∧ (parapet none 0).par.up = true
      ∧ ((parapet (some 5) 0).parConn 3).used = true ∧ ((parapet (some 5) 0).parConn 3).parapet = true ∧ ((parapet (some 5) 0).parConn 3).plantTime = false
      ∧ (Table.get {} (parapet none 0).saf.outConns 4 : OutConn).draft = some (List.replicate 24 0) ∧ (List.replicate 24 (0 : Byte)).length = 24
      ∧ ((parapet none 0).connCfg 4).kind = .demand ∧ ((parapet none 0).parConn 4).kind = .demand ∧ (parapet none 0).saf.halted = false
      ∧ (parapet (some 5) 7).par.ignored < 8 ∧ ((2005 : W32) - 5).toInt = 2000 ∧ ((5 : W32) - 2005).toInt = -2000 ∧ ((2006 : W32) - 5).toInt = 2001
      ∧ (parapet (some 5) 6).par.ignored < 7 ∧ (parapet (some 5) 7).par.ignored = 7 ∧ 8 ≤ (parapet (some 5) 8).par.ignored := by decide +kernel

theorem witness_evaluation :
    let s := fun (p : ParState) => ({ ready .run with par := { p with up := true } } : State)
    let watching := s { firstBeat := true, beating := true, selected := some false, copyA := { section_ := { windowCycles := 4 } } }
    (s {}).par.up = true ∧ (s {}).par.switchTo = none ∧ (s {}).par.clearDue = false ∧ ((s { arms := [(7, { violating := true })] }).parm 7).violating = true
      ∧ ((s {}).parm 7).violating = false ∧ (s { beating := true }).par.beating = true ∧ watching.par.firstBeat = true ∧ watching.par.beating = true
      ∧ watching.beatGap 125 = false ∧ watching.beatGap 126 = true ∧ (s {}).par.firstBeat = false
      ∧ (s {}).pwr.inReset = false ∧ (s {}).pwr.dormant = false ∧ (s { selected := some true }).par.selected = some true
      ∧ (s {}).par.selected = none ∧ State.reset.par.up = false := by
  decide +kernel

/-- Input 15 as an E_STOP with test source 3 on its pin A, output 7 as `o` in channel A. -/
def switched (i : SafInput) (o : SafOutput) : State :=
  { ready .run with
    cfg := { safety := { inputs := [(15, { role := .eStop, tpA := some 3 })], outputs := [(7, { used := true, dark := true })] } }
    saf := { loadedA := true, wardenOk := true, inputs := [(15, i)], outputs := [(7, o)] } }

theorem witness_safe_io :
    let pin := fun (h : Bool) => ({ high := some h, level := h } : SafPin)
    let apart := switched { a := pin true, b := pin false } {}
    (switched {} {}).channelUp .a = true ∧ (ready .run).channelUp .b = true ∧ (ready .run).par.up = true ∧ State.reset.channelUp .a = false
      ∧ ((switched {} {}).siCfg .a 15).role ≠ .unused ∧ (apart.pinsShut .a 15).1 ≠ (apart.pinsShut .a 15).2
      ∧ (apart.chIn .a 15).discrepancy = false ∧ ((switched {} {}).source .a 3).fault = false ∧ (switched {} {}).virtualOf .a 15 = none
      ∧ ((switched {} {}).siCfg .a 15).tpA = some 3 ∧ (apart.chIn .a 15).a.high = some true
      ∧ (BitVec.ofNat 32 (2 ^ 15)).getLsbD 15 = true ∧ ((switched {} { delaying := true }).chOut .a 7).delaying = true
      ∧ ((switched {} {}).chOut .a 7).testing = false ∧ ((switched {} {}).chOut .a 7).closed = false ∧ ((switched {} { closed := true }).chOut .a 7).closed = true
      ∧ ((switched {} { testing := true }).chOut .a 7).testing = true ∧ ((switched {} {}).soCfg .a 7).dark = true
      ∧ (switched {} { closed := true }).heldOpen .a = false
      ∧ ({ level := true, run := 5 } : SafPin).run + 1 ≥ 6 ∧ ({ level := true, run := 4 } : SafPin).run + 1 < 6 := by decide +kernel

/-! The field pins. -/

/-- Pin 47 an output and pin 0 an input, in the catalogue and in the field die. -/
def field (d : DioState) : State := { cellIn .run with cfg := { pins := [(47, { output := true })] }, dio := d }

theorem witness_field :
    let dio : DioState := { die := { pins := [(47, { output := true })] } }
    (field dio).takes (pk [0, 0, 0, 0, 0, 0x80]) = true ∧ dioMasksGood (par [0, 0, 0, 0, 0, 0x80]) = true ∧ unusedZero (par []) [] = true
      ∧ (field dio).pwr.inReset = false ∧ (field dio).pwr.dormant = false ∧ State.reset.pwr.inReset = true ∧ up.pwr.dormant = false
      ∧ (field dio).dev.cell ≠ .uncatalogued ∧ (field dio).dio.die.lastSeq ≠ some (field dio).dio.frame.seq
      ∧ (field { die := { lastSeq := some 0 } }).dio.die.lastSeq = some (field { die := { lastSeq := some 0 } }).dio.frame.seq
      ∧ (field { frame := { catalogued := true, clear := true } }).dio.frame.catalogued = true
      ∧ (field { die := { safe := true, goodFrames := 7 } }).dio.die.goodFrames = 7
      ∧ (field { die := { answerDue := true } }).dio.die.answerDue = true ∧ (fired [.inPublish] (field { received := some 1 })).dio.received = some 1
      ∧ (fired [.inPublish] (field {})).came .inPublish = true ∧ (field {}).came .inPublish = false ∧ (field {}).dio.received = none
      ∧ up.dev.cell = .uncatalogued ∧ up.pwr.inReset = false ∧ up.dio.die.lastSeq ≠ some up.sendFrame.dio.frame.seq
      ∧ (field dio).cfg.pair.pair = false ∧ (47 : BitVec 6).toNat < 48 ∧ ((field dio).dio.die.pin 47).output = true ∧ (field dio).dio.die.safe = false
      ∧ ((field dio).dio.die.pin 0).output = false ∧ ((field dio).dio.die.pin 0).continuous = false
      ∧ (field dio).dio.die.filtered.getLsbD 0 ≠ ((field dio).groupAlive 0 && (1 : BitVec 48).getLsbD 0)
      ∧ ((field dio).dio.die.pin 0).filter.toNat ≤ Table.get 0 (field dio).dio.die.runs 0 + 1
      ∧ 0 + 1 < ((field { die := { pins := [(0, { filter := 2 })] } }).dio.die.pin 0).filter.toNat := by decide +kernel

/-! The vector cores: core 11 runs an item. -/

def onCore (f : Core → Core) : State :=
  { cellIn .run with vc := { regRunning := true, cores := [(11, f { item := some 0, pc := 5 })] }, cfg := { descs := [(0, { used := true })] } }

/-- A load from XM and a store to YM. -/
def twoMoves : Moves := { x := some { store := false, v := 3, a := 0, o := 0, mode := 1 }, y := some { store := true, v := 4, a := 7, o := 1, mode := 2 }, reserved := false }

def loaded (l : List Load) : State := onCore fun c => { c with loads := l }

theorem witness_core_ready :
    let c := (onCore id).core 11
    (onCore id).coreRuns 11 = true ∧ (onCore id).sound (vcBase + 11 * 0x100000 + 8 * c.pc.toNat) 8 = true
      ∧ twoMoves.reserved = false ∧ noMoves.reserved = false
      ∧ (∀ e ∈ movesOf twoMoves, e.2.store = false → (onCore id).sound (localWord 11 e.1 (c.areg (moveReg e.2 e.1)).toNat) 16 = true)
      ∧ c.loads.any (fun l => l.v == 2) = false ∧ ((loaded [{ v := 2 }]).core 11).loads.any (fun l => l.v == 2) = true
      ∧ ({ noMoves with reserved := true } : Moves).reserved = true := by decide +kernel

theorem witness_vector_formats :
    (fp 2 2 0 1).w ≠ 3 ∧ (fp 3 2 0 1).w = 3 ∧ (fp 0 2 0 1).w = 0 ∧ (fp 1 2 0 1).w = 1 ∧ (fp 1 2 1 31).va.toNat < 2 ∧ 2 ≤ (fp 1 2 2 0).va.toNat
      ∧ ({ fp 1 2 0 1 with cw := true } : FormatP).cw = true ∧ ¬ ((fp 1 2 0 1).w = 1 ∧ (fp 1 2 0 1).cw = true) ∧ 2 ≤ (fp 2 2 0 1).w.toNat
      ∧ (fp 2 2 0 1).w ≠ 3 := by decide

theorem witness_control :
    let c := (onCore id).core 11
    let edge := (onCore fun c => { c with loops := [{ first := 4, last := 7 }] }).core 11
    let tight := (onCore fun c => { c with loops := [{ first := 4, last := 6 }] }).core 11
    c.transfer = none ∧ c.rpt = none ∧ c.loops = [] ∧ (4 : BitVec 4).toNat ≤ 4 ∧ c.returns = []
      ∧ ((onCore fun c => { c with returns := [9] }).core 11).returns = [9]
      ∧ (edge.loops = [{ first := 4, last := 7 }] ∧ edge.pc.toNat + 2 ≤ 7)
      ∧ (tight.loops = [{ first := 4, last := 6 }] ∧ 4 ≤ tight.pc.toNat ∧ tight.pc.toNat ≤ 6 ∧ ¬ tight.pc.toNat + 2 ≤ 6)
      ∧ (1023 : BitVec 10).toNat + 1 = 1024
      ∧ (((onCore fun c => { c with a := [(0, 1024)] }).core 11).areg 0).toNat = 1024
      ∧ (((onCore fun c => { c with a := [(0, 1025)] }).core 11).areg 0).toNat = 1025
      ∧ (((onCore fun c => { c with a := [(0, 65536)] }).core 11).areg 0).toNat = 65536 ∧ c.loops.length < 2
      ∧ 2 ≤ ((onCore fun c => { c with loops := [{}, {}] }).core 11).loops.length
      ∧ c.item = some 0 ∧ c.due = none ∧ (onCore id).ts.queue.length < 64
      ∧ ((onCore fun c => { c with due := some 5 }).core 11).due = some 5 ∧ 0 ≤ (onCore id).slackTo 5 ∧ (atTime 6 (onCore id)).slackTo 5 < 0
      ∧ ((atTime 6 (onCore id)).arm0 7 (.itemDeadline 0)).instantOf (.itemDeadline 0) = some 7 ∧ ((onCore id).desc 0).vcDeadline = false
      ∧ (let s := (onCore id).storeOctets cellBase ({ vcDeadline := true } : Desc).octets
        (s.desc 0).vcDeadline = true ∧ 0 ∉ s.ts.vcMissed ∧ s.spanStart ≤ 5)
      ∧ ((onCore fun c => { c with transfer := some { slots := 2 } }).core 11).transfer.isSome = true
      ∧ ((onCore fun c => { c with rpt := some 1 }).core 11).rpt.isSome = true := by decide +kernel

/-- NOP at the last word of a loop, in the last delay slot of a branch, and with a load that lands. -/
theorem witness_flow :
    let at_ := fun (f : Core → Core) => (onCore f).core 11
    ((at_ fun c => { c with rpt := some 2 }).rpt = some 2) ∧ ((at_ fun c => { c with rpt := some 1 }).rpt = some 1)
      ∧ ((at_ fun c => { c with loops := [{ first := 2, last := 5, left := 2 }] }).loops = [{ first := 2, last := 5, left := 2 }])
      ∧ ((at_ fun c => { c with loops := [{ first := 2, last := 5, left := 1 }] }).loops = [{ first := 2, last := 5, left := 1 }])
      ∧ ((at_ fun c => { c with transfer := some { slots := 1, taken := true, target := 9, ends := true }, loops := [{ first := 2, last := 9 }] }).transfer
          = some { slots := 1, taken := true, target := 9, ends := true })
      ∧ ((loaded [{ v := 2 }]).core 11).loads = [{ v := 2 }] ∧ (onCore fun c => { c with rpt := some 2 }).coreRuns 11 = true := by decide +kernel

theorem witness_fabric :
    let a := vcBase + 11 * 0x100000 + 0x40000 + 16 * ((((onCore id).core 11).areg fl.a.toNat + fl.offset.signExtend 32).toNat % 8192)
    fl.reserved = false ∧ (onCore id).sound a 16 = true ∧ ((onCore id).setPoison a true).wordPoisoned a = true ∧ ((onCore id).setPoison a true).errorAt a = false
      ∧ ((onCore id).setPoison a true).coreRuns 11 = true ∧ 2 ^ (fl.size.toNat + 1) = 16 ∧ 2 ^ (({ fl with size := 2 } : FormatL).size.toNat + 1) < 16
      ∧ fs.reserved = false ∧ fs.lane.toNat < 4 ∧ ff.reserved = false ∧ ff.size ≠ 0 ∧ ((onCore id).core 11).rpt = none := by decide +kernel

/-- How an access ended: 0 done, 1 error, 2 poisoned. -/
def ended : Access → Nat
  | .ok _ _ => 0
  | .error _ => 1
  | .poisoned _ _ => 2

/-- A fabric access of 16 octets at the last place of cell memory, one that is misaligned, and one outside every area. -/
theorem witness_fabric_addresses :
    let at_ := fun (f : FormatF) (s : State) => f.seg.toNat * 2 ^ 32 + ((s.core 11).areg f.a.toNat + f.offset.signExtend 32).toNat
    let last := onCore fun c => { c with a := [(0, 0x00FFFFF0)] }
    let odd := onCore fun c => { c with a := [(0, 8)] }
    at_ ff last % 16 = 0 ∧ 0x0100000000 ≤ at_ ff last ∧ at_ ff last < 0x0101000000 ∧ last.sound (at_ ff last) 16 = true
      ∧ at_ ff odd % 16 ≠ 0
      ∧ ended (last.busRead (.core 11) (at_ ff last) 16) = 0
      ∧ ended (last.busRead (.core 11) (at_ { ff with seg := 9 } last) 16) = 1
      ∧ ended ((last.setPoison (at_ ff last) true).busRead (.core 11) (at_ ff last) 16) = 2
      ∧ ended (last.busWrite (.core 11) (at_ ff last) (List.replicate 16 1)) = 0
      ∧ ended (last.busWrite (.core 11) (at_ { ff with seg := 9 } last) (List.replicate 16 1)) = 1 := by decide +kernel

theorem witness_debug :
    let poisoned := (onCore id).setPoison (vcBase + 11 * 0x100000 + 8 * 5) true
    let halted := onCore fun c => { c with halted := true }
    (11 : BitVec 4).toNat < 12 ∧ poisoned.coreRuns 11 = true ∧ poisoned.wordPoisoned (vcBase + 11 * 0x100000 + 8 * 5) = true
      ∧ poisoned.errorAt (vcBase + 11 * 0x100000 + 8 * 5) = false ∧ (onCore id).sound (vcBase + 11 * 0x100000 + 8 * 5) 8 = true ∧ Requester.registrar ≠ .debug ∧ (onCore id).hq.service = false
      ∧ (cellIn .hold).dev.cell = .hold ∧ (onCore id).dev.cell = .run ∧ (onCore id).cfg.liveDebug = false
      ∧ (halted.core 11).halted = true ∧ (halted.core 11).item.isSome = true ∧ ((onCore id).core 11).halted = false
      ∧ (0x4000001F : W32).getLsbD 30 = true ∧ (0x1F : W32).getLsbD 30 = false ∧ ((0x4B : W32).extractLsb' 0 9).toNat = 0x40 + 3 * 3 + 2
      ∧ ((onCore fun c => { c with haltReq := true }).core 11).waitsFor 1 = true ∧ ((onCore fun c => { c with breakHit := true, stepDone := true }).core 11).waitsFor 2 = true
      ∧ ((onCore fun c => { c with watchHit := true }).core 11).waitsFor 3 = true ∧ ((onCore fun c => { c with breakHit := true, stepDone := true }).core 11).waitsFor 4 = true
      ∧ ((onCore id).core 11).waitsFor 1 = false ∧ ((onCore id).core 11).rptTail = false
      ∧ (onCore id).tsSlot 11 = none ∧ ((onCore id).setTsSlot 11 (some {})).tsSlot 11 = some {} ∧ ((onCore id).core 11).transfer = none
      ∧ ((onCore id).core 11).rpt = none ∧ ((onCore id).core 11).haltReq = false ∧ ((onCore id).core 11).breakHit = false
      ∧ ((onCore id).core 11).watchHit = false ∧ ((onCore id).core 11).stepDone = false := by decide +kernel

theorem witness_budgets :
    let at_ := fun (k : Nat) (f : Core → Core) => onCore fun c => f { c with itemSteps := k }
    ((at_ 1 id).core 11).item = some 0 ∧ ((at_ 1 id).core 11).overBudget = false ∧ ((at_ 1 id).desc 0).budget.toNat < ((at_ 1 id).core 11).itemSteps
      ∧ ((at_ 0 id).core 11).itemSteps ≤ ((at_ 0 id).desc 0).budget.toNat ∧ ((at_ 65536 id).core 11).hung = false
      ∧ ((at_ 65536 id).desc 0).budget.toNat + 65536 ≤ ((at_ 65536 id).core 11).itemSteps
      ∧ ((at_ 65535 id).core 11).itemSteps < ((at_ 65535 id).desc 0).budget.toNat + 65536
      ∧ ((at_ 1 fun c => { c with overBudget := true }).core 11).overBudget = true ∧ (at_ 1 id).faultClass ((at_ 1 id).itemDesc 11).arm = 2
      ∧ up.faultClass 0xFF = 1 := by decide +kernel

/-! The dispatcher: descriptor 0 (priority 1) waits for entries 4 and 5 on core 11, descriptor 1 (priority 0) for none. -/

def dispatching (f : TsState → TsState) : State :=
  ({ cellIn .run with
    cfg := { spanCode := 1, descs := [(0, { used := true }), (1, { used := true })], rows := [(63, { enabled := true, period := 0, target := 4 }), (62, { enabled := true, release := true, target := 0 })] }
    ts := f {} } : State).storeOctets cellBase
    (({ code := 7, priority := 1, count := 2, affinity := 0x800, firstEntry := 4 } : Desc).octets
      ++ ({ code := 9, priority := 0, count := 1, affinity := 0x800, firstEntry := 9 } : Desc).octets)

def offered (full : Bool) (e : BitVec 12) : State :=
  dispatching fun t => { t with queue := [{ entry := e, operand := 3 }], entries := if full then [(4, { full := true })] else [] }

theorem witness_tokens :
    (offered false 4).ts.queue = [{ entry := 4, operand := 3 }] ∧ (offered false 4).ownerOf 4 = some 0 ∧ ((offered false 4).entry 4).full = false
      ∧ ((offered true 4).entry 4).full = true ∧ (offered true 4).ownerOf 4 = some 0 ∧ (offered false 4095).ownerOf 4095 = none := by decide +kernel

theorem witness_dispatch :
    let low := fun (t : TsState) => ({ t with slots := [(11, some { desc := 1, order := 3 })] } : TsState)
    let last := dispatching fun t => low { t with queue := [{ entry := 5, operand := 3 }], entries := [(4, { full := true })] }
    (offered false 4).ownerOf 4 = some 0 ∧ ((offered false 4).desc 0).entries = [4, 5]
      ∧ (last.ownerOf 5 = some 0 ∧ (last.entry 4).full = true ∧ (last.entry 5).full = false ∧ last.victim 0 = some 11 ∧ last.tsSlot 11 = some { desc := 1, order := 3 })
      ∧ (offered true 5).victim 0 = none
      ∧ (let s := dispatching fun t => { t with ready := [(1, [0])] }
        (s.core 11).halted = false ∧ (s.core 11).stepping = false ∧ (s.core 11).hung = false ∧ s.tsSlot 11 = none
          ∧ (s.desc 0).affinity.getLsbD 11 = true ∧ s.ready (s.desc 0).priority.toNat = [] ++ 0 :: [] ∧ (∀ p, p < 16 → 1 < p → s.ready p = [])
          ∧ (∀ m, m < 11 → (s.desc 0).affinity.getLsbD m = false))
      ∧ (last.core 11).item = none := by decide +kernel

theorem witness_rows :
    let s := fired [.template 63, .template 62, .template 0, .deadlineVc] (dispatching id)
    let t := fired [.template 62] (dispatching fun t => { t with ready := [(1, [0])] })
    let r := Table.get {} s.cfg.rows 63
    let q := Table.get {} s.cfg.rows 62
    r.enabled = true ∧ r.trigger = 0 ∧ s.came (.template 63) = true ∧ (dispatching id).came (.template 63) = false ∧ s.rowInPhase r = true ∧ r.release = false
      ∧ s.ts.queue.length < 64 ∧ s.dev.cell ≠ .uncatalogued ∧ up.dev.cell = .uncatalogued ∧ q.enabled = true ∧ q.release = true ∧ q.trigger = 0
      ∧ s.came (.template 62) = true ∧ s.victim 0 = none ∧ s.ready 1 = [] ∧ t.ready 1 = [0] ∧ ((s.desc 0).priority.toNat = 1 ∧ (s.desc 0).ownDeadline = false)
      ∧ (∀ n, n < 12 → s.tsSlot n = none) ∧ (Table.get {} s.cfg.rows 0).enabled = false
      ∧ s.came .deadlineVc = true ∧ s.vcLate = [] ∧ (dispatching id).came .deadlineVc = false := by decide +kernel

/-- An item with vc_deadline that runs past it is late. -/
theorem witness_late_item :
    let s := atTime 6 (fired [.deadlineVc] ({ onCore (fun c => { c with due := some 5 }) with dev := { cell := .run, deadlineVc := 5 } }.storeOctets cellBase
      ({ vcDeadline := true, arm := 7 } : Desc).octets))
    s.came .deadlineVc = true ∧ s.vcLate = [0] ∧ (s.desc 0).arm.toNat < 8 := by decide +kernel

/-! The store. -/

/-- Lots 1 and 2 DEVICE with copy A in force and copy B open as `c` says. -/
def storing (c : CatState) : State := { lots with cat := c, dev := { cell := .loaded } }

/-- CAT_WRITE and FW_WRITE of one lot at the last place of a catalogue area, with the opening flag, and without it. -/
def openWrite : Packet := pk [1, 0, 1, 0, 0, 0xF0, 0x7F, 0, 1]
def plainWrite : Packet := pk [1, 0, 1, 0, 0, 0, 0, 0, 0]

theorem witness_store_writes :
    (storing {}).takes openWrite = true ∧ (storing {}).takes plainWrite = true ∧ unusedZero openWrite.params [(0, 2), (2, 2), (4, 4), (8, 1)] = true
      ∧ param openWrite.params 2 2 = 1 ∧ param openWrite.params 4 4 % 4096 = 0 ∧ param openWrite.params 4 4 + 4096 = imageArea 0
      ∧ param openWrite.params 8 1 = 1 ∧ param plainWrite.params 8 1 = 0 ∧ param plainWrite.params 4 4 + 4096 ≤ imageArea 2
      ∧ (∀ l, l < 1 + 1 → 1 ≤ l → (storing {}).lot l = 2) ∧ (storing {}).targetOpen false = false ∧ (storing {}).targetOpen true = false
      ∧ (storing { targetOpen := true }).targetOpen false = true ∧ (storing { fwTargetOpen := true }).targetOpen true = true
      ∧ (storing { targetOpen := true }).takes (pk []) = true ∧ (storing { targetOpen := true }).imageLength ((storing { targetOpen := true }).target false) ≤ 0x800000
      ∧ (storing {}).takes (pk [1, 0, 1, 0, 1, 0, 0, 0, 0, 0xF0, 0x7F]) = true
      ∧ unusedZero (par [1, 0, 1, 0, 1, 0, 0, 0, 0, 0xF0, 0x7F]) [(0, 1), (2, 2), (4, 2), (8, 4)] = true
      ∧ param (par [1, 0, 1, 0, 1, 0, 0, 0, 0, 0xF0, 0x7F]) 8 4 + 4096 * 1 = 0x800000 := by decide +kernel

theorem witness_store_words : (storing {}).sound (lotAddr 1) (4096 * 1) = true := by decide +kernel

/-- An open firmware image of 4,096 octets with one section: magic, format 1, one section, length 4,096, offset 512 and length 64. -/
def firmwareOctets : Table Byte :=
  ([(0, 0x46), (1, 0x4D), (2, 0x54), (3, 0x57), (4, 1), (6, 1), (9, 0x10)] : List (Nat × Nat)).map
    (fun e => (imageBase ((storing {}).target true) + e.1, BitVec.ofNat 8 e.2))

def firmware : State := storing { fwTargetOpen := true, store := firmwareOctets }

/-- An open catalogue image of 4,096 octets for key slot 0, whose signature is all zeros. -/
def catalogueOctets : Table Byte :=
  ([(0, 0x43), (1, 0x41), (2, 0x54), (3, 0x47), (4, 1), (9, 0x10)] : List (Nat × Nat)).map
    (fun e => (imageBase ((storing {}).target false) + e.1, BitVec.ofNat 8 e.2))

def unsigned : State := storing { targetOpen := true, store := catalogueOctets, keys := [(0, { state := .active })] }

/-- A reason of 0 has no witness: it needs a signature under a key, and contents, that the spec does not state (log entries 3 and 4). -/
theorem witness_commit :
    firmware.takes (pk [1]) = true ∧ unusedZero (par [1]) [(0, 4)] = true ∧ firmware.targetOpen true = true ∧ (storing {}).targetOpen true = false
      ∧ (storing { fwTargetOpen := true }).imageReason ((storing { fwTargetOpen := true }).target true) true = 2
      ∧ (storing { targetOpen := true, keys := [(0, { state := .active })] }).noKeyActive = false
      ∧ (storing { targetOpen := true, keys := [(0, { state := .active })] }).imageReason ((storing { targetOpen := true }).target false) true = 2
      ∧ unsigned.takes (pk [1]) = true ∧ unsigned.targetOpen false = true ∧ unsigned.noKeyActive = false
      ∧ unsigned.imageReason (unsigned.target false) true = 7
      ∧ (storing {}).dev.cell = .loaded ∧ (cellIn .run).dev.cell = .run := by decide +kernel

theorem witness_load :
    let empty : State := { up with cat := {} }
    empty.dev.cell = .uncatalogued ∧ empty.pwr.inReset = false ∧ empty.pwr.dormant = false ∧ empty.vc.regRunning = true
      ∧ empty.imageReason 0 false = 1 ∧ empty.imageReason 1 false = 1 ∧ (cellIn .run).dev.cell ≠ .uncatalogued ∧ ({ failed := none } : StoreIo).failed = none := by
  decide +kernel

/-! Integrity and events. -/

/-- Context 8, run by unit 0, with parameters `k`. -/
def checking (k : CrcCtx) (run : List Nat) : State := { up with crc := { ctxs := [(8, k)], units := [(0, run)] }, memc := { sramReady := true } }

theorem witness_contexts :
    (Requester.registrar ≠ .host ∧ 8 ≤ (8 : BitVec 6).toNat) ∧ (¬ (8 ≤ (7 : BitVec 6).toNat ∨ (.engine : Requester) = .registrar))
      ∧ ((checking { queued := true } []).ctx 8).queued = true ∧ ((checking {} []).ctx 8).queued = false ∧ ((checking {} []).ctx 8).poly.toNat = 0
      ∧ ((checking { poly := 1 } []).ctx 8).poly.toNat = 1 ∧ ((checking { poly := 2 } []).ctx 8).poly.toNat = 2
      ∧ ((checking { tokenEn := true } []).ctx 8).tokenEn = true ∧ ((checking {} []).ctx 8).tokenEn = false ∧ (checking {} []).ts.queue.length < 64 := by
  decide +kernel

theorem witness_blocks :
    let s := fun (a : BitVec 40) => checking { queued := true, src := a, len := 16 } [8]
    let longest : CrcCtx := { len := 0x1000000 }
    Table.get [] (s 0x0100000000).crc.units 0 = 8 :: [] ∧ longest.len.toNat = 2 ^ 24 ∧ 1 ≤ ((s 0x0100000000).ctx 8).len.toNat
      ∧ ended ((s 0x0100000000).busRead .engine 0x0100000000 16) = 0 ∧ ((s 0x0100000000).ctx 8).check = some .crc32c
      ∧ ended (((s 0x0100000000).setPoison 0x0100000000 true).busRead .engine 0x0100000000 16) = 2
      ∧ ended ((s 0x0900000000).busRead .engine 0x0900000000 16) = 1 := by decide +kernel

/-- Domain 0 as `m`. -/
def scrubbing (m : Domain) : State := { up with memc := { sramReady := true, domains := [(0, m)] } }

theorem witness_scrub :
    (0 : BitVec 10).toNat < 672 ∧ (scrubbing {}).memc.sramReady = true ∧ (scrubbing {}).scrubbed 0 0 = true ∧ (scrubbing { pos := 4095 }).scrubbed 0 4095 = true
      ∧ ((scrubbing { pos := 4095 }).dom 0).pos.toNat + 1 = domainWords 0 ∧ ((scrubbing { pos := 4094 }).dom 0).pos.toNat + 1 < domainWords 0
      ∧ Table.get false (scrubbing {}).memc.poison (poisonKey 0 0) = false
      ∧ Table.get false ({ up with memc := { poison := [(poisonKey 0 0, true)] } } : State).memc.poison (poisonKey 0 0) = true
      ∧ (0 : W32) ∉ (scrubbing {}).memc.domains.flatMap (fun e => e.2.writeBacks) ∧ (0 : W32) ∈ ((scrubbing { writeBacks := [0] }).dom 0).writeBacks
      ∧ ((scrubbing { trackers := [{ word := 0, count := 2 }] }).dom 0).trackers.find? (fun t => t.word == 0) = some { word := 0, count := 2 }
      ∧ ((scrubbing { remaps := [1, 2, 3, 4, 5, 6, 7] }).dom 0).remaps.length = 7 ∧ (0 : W32) ∉ ((scrubbing { remaps := [1, 2, 3, 4, 5, 6, 7] }).dom 0).remaps
      ∧ 8 ≤ ((scrubbing { remaps := [1, 2, 3, 4, 5, 6, 7, 8] }).dom 0).remaps.length
      ∧ ((scrubbing { slow := true }).dom 0).slow = true ∧ ((scrubbing {}).dom 0).slow = false
      ∧ 10000 * 1000000 < ((scrubbing {}).tb.tb2.ns - ((scrubbing { lapStart := -20000000000 }).dom 0).lapStart).toNat
      ∧ ({ up with memc := { unrecorded := [(0, 1)] } } : State).memc.unrecorded = (0, 1) :: [] := by decide +kernel

/-- `up` with events `e`. -/
def evented (e : EvtState) : State := { lots with evt := e }

theorem witness_sequencing :
    (evented {}).pwr.inReset = false ∧ (evented {}).pwr.dormant = false ∧ (evented { queue := [{}] }).evt.queue = [{}] ∧ (evented {}).evt.lostDue = 0
      ∧ (evented {}).evt.buffer.length < 1024 ∧ (evented { lostDue := 1 }).evt.lostDue ≠ 0 ∧ (evented { buffer := [{}] }).evt.buffer = [{}]
      ∧ (evented {}).evt.log.length < 65536 := by decide +kernel

theorem witness_full_buffer : 1024 ≤ (evented { buffer := List.replicate 1024 {}, queue := [{}] }).evt.buffer.length := by
  show 1024 ≤ (List.replicate 1024 ({} : Record)).length
  exact Nat.le_of_eq List.length_replicate.symm

theorem witness_full_log : 65536 ≤ (evented { log := (List.range 65536).map fun i => (i + 1, {}), buffer := [{ seq := 65537 }] }).evt.log.length := by
  have h : ∀ n, ∀ f : Nat → Nat × Record, ∀ e : EvtState, (evented { e with log := (List.range n).map f }).evt.log.length = n := by
    intro n f e
    show ((List.range n).map f).length = n
    simp
  exact Nat.le_of_eq (h 65536 _ { buffer := [{ seq := 65537 }] }).symm

theorem witness_event_read :
    let one : State := evented { log := [(1, { seq := 1 })], nextSeq := 2 }
    (evented {}).takes (pk [1, 0, 0, 0, 1, 0, 2, 0]) = true ∧ unusedZero (par [1, 0, 0, 0, 1, 0, 2, 0]) [(0, 4), (4, 2), (6, 2)] = true
      ∧ param (par [1, 0, 0, 0, 1, 0, 2, 0]) 6 2 = 2 ∧ (∀ l, l < 1 + 2 → 1 ≤ l → (evented {}).lot l = 2) ∧ (evented {}).evt.log = [] ∧ (evented {}).evt.buffer = []
      ∧ one.evt.oldest = some 1 ∧ ((1 : W32) - one.evt.nextSeq).toInt < 0 ∧ 0 ≤ ((2 : W32) - one.evt.nextSeq).toInt
      ∧ one.takes (pk [2, 0, 0, 0, 1, 0, 2, 0]) = true := by decide +kernel

theorem witness_clear :
    up.takes (pk [0xFF, 0xFF, 7]) = true ∧ unusedZero (par [0xFF, 0xFF, 7]) [(0, 4)] = true ∧ param (par [0xFF, 0xFF, 7]) 0 4 + 1 = 2 ^ 19
      ∧ State.reset.hostMay = false ∧ up.hostMay = true ∧ (0x0FFF : BitVec 20).toNat < 0x1000 ∧ (0x1002 : BitVec 20).toNat % 4 ≠ 0
      ∧ (up.queue 0).enable = true ∧ (up.queue 1).enable = false ∧ (11 : BitVec 4).toNat < 12 ∧ (8 : BitVec 4).toNat < 9 := by decide +kernel

/-! Pairs. -/

/-- A unit of a pair in role `r`, with ring 0 shared and led. -/
def paired (r : RedState) : State :=
  { cellIn .run with
    cfg := { spanCode := 1, pair := { pair := true, claim := 200, partnerClaim := 100, sharedRings := 1 } }
    red := r
    lr := { rings := [(0, { start := .keystone, phase := .running })], ports := [(0, { linkUp := true }), (1, { linkUp := true })] } }

theorem witness_records_of_pairs :
    let live := fun (s : State) => s.cfg.pair.pair && !s.pwr.inReset && !s.pwr.dormant
    live (paired {}) = true ∧ live up = false ∧ (paired { role := .standby }).red.role = .standby ∧ 2000 ≤ (paired {}).untilSpan 1 ∧ (paired {}).untilSpan 0 < 2000
      ∧ (paired { ahead18 := [(0, .idle)] }).red.ahead18 = [(0, .idle)] ∧ ((paired {}).span32 - 0).toNat ≤ 1
      ∧ (paired { role := .standby }).shadows 1 = false ∧ (paired {}).red.evalSpan = none ∧ (paired { role := .active }).red.role = .active
      ∧ (paired { role := .passive }).red.role = .passive ∧ (8 : BitVec 4).toNat < 9 := by decide +kernel

theorem witness_heartbeats :
    let s := fun (r : RedState) => fired [.heartbeat] (paired { r with role := .active })
    (s {}).came .heartbeat = true ∧ (paired {}).came .heartbeat = false ∧ (s {}).cfg.pair.pair = true
      ∧ (s {}).dev.cell ≠ .parked ∧ (s {}).red.transferAt = none ∧ (s { spanCmp := .matched }).red.spanCmp = .matched ∧ (s {}).red.transferDue = false
      ∧ (s {}).cfg.pair.partnerClaim.toNat ≤ (s {}).cfg.pair.claim.toNat ∧ (s { spanCmp := .mismatched, run := 6 }).red.spanCmp = .mismatched
      ∧ inc (s { run := 6 }).red.run ≠ 8 ∧ (s { transferDue := true }).red.transferDue = true ∧ (s {}).red.spanCmp = .notCompared
      ∧ (fired [.heartbeat] (paired { role := .standby })).came .heartbeat = true ∧ (paired { role := .standby }).red.role ≠ .active := by decide +kernel

theorem witness_takeover :
    let s := fun (r : RedState) => paired { r with role := .standby }
    (s { silent := true }).red.silent = true ∧ (s {}).red.declared = false ∧ (s { declared := true }).red.declared = true
      ∧ 1000 ≤ ((s {}).tb.tb0.ns - (s { declared := true, declaredAt := -1000 }).red.declaredAt).toNat
      ∧ (∀ g ∈ (s {}).sharedRings, ((s {}).port (eastPort g)).linkUp = true ∧ ((s {}).port (westPort g)).linkUp = true)
      ∧ (s { transferAt := some 0 }).red.transferAt = some 0 ∧ 0 ≤ ((s {}).span32 - 0).toInt ∧ ((s {}).span32 - 1).toInt < 0
      ∧ (paired { role := .active, transferAt := some 0 }).red.role = .active ∧ (s {}).red.transferAt = none := by decide +kernel

/-! Power. -/

def powered (p : PwrState) : State := { lots with pwr := p }

theorem witness_resets :
    let awake : PwrState := { inReset := false }
    (powered awake).pwr.dormant = false ∧ (powered { awake with dormant := true }).pwr.dormant = true ∧ (powered awake).pwr.wdArmed = true
      ∧ (powered { awake with warmPrepared := true }).pwr.warmPrepared = true ∧ (powered awake).pwr.warmPrepared = false ∧ (powered awake).pwr.inReset = false
      ∧ (∀ r : Nat, r < 4 → State.reset.pwr.aboveReset.getLsbD r = true) ∧ (powered { aboveReset := 0xFF7 }).pwr.aboveReset.getLsbD 3 = false
      ∧ ({ powered {} with tb := { refFault := true } } : State).tb.refFault = true
      ∧ ResetSource.rstN ∈ (powered { causes := [.rstN] }).pwr.causes ∧ ({ powered {} with par := { up := true } } : State).par.up = true
      ∧ State.reset.pwr.inReset = true ∧ State.reset.tb.refPending = none ∧ ResetSource.powerOn ∈ State.reset.pwr.causes
      ∧ (powered { causes := [.warm], snapValid := true }).pwr.snapValid = true ∧ ({ powered {} with snap := some {} } : State).snap = some {} := by decide +kernel

theorem witness_preparation :
    (cellIn .parked).takes (pk [0xA5, 0xA5]) = true ∧ unusedZero (par [0xA5, 0xA5]) [(0, 4)] = true ∧ param (par [0xA5, 0xA5]) 0 4 = 0xA5A5
      ∧ (cellIn .run).takes (pk [0xA5, 0xA5]) = true ∧ (cellIn .run).dev.cell = .run ∧ (cellIn .parked).dev.cell ≠ .hold
      ∧ ({ cellIn .parked with evt := { buffer := [{}] } } : State).evt.buffer = [{}] ∧ (cellIn .parked).takes (pk []) = true
      ∧ unusedZero (par []) [] = true ∧ (cellIn .parked).dev.cell = .parked ∧ (cellIn .run).dev.cell ≠ .loaded := by decide +kernel

theorem witness_rails :
    let bit := fun (x : BitVec 12) (i : Nat) => x.getLsbD i
    let awake : PwrState := { inReset := false }
    (11 : BitVec 4).toNat < 12 ∧ (powered { awake with dormant := true }).pwr.dormant = true ∧ (1 : BitVec 4).toNat < 2 ∧ bit (powered awake).pwr.dips 11 = false
      ∧ bit (powered { awake with dips := 0x800 }).pwr.dips 11 = true ∧ bit (powered awake).pwr.dwelled 11 = false
      ∧ bit (powered { awake with dwelled := 0x800 }).pwr.dwelled 11 = true ∧ bit (powered awake).pwr.aboveReset 1 = true ∧ (powered awake).pwr.dormant = false
      ∧ (2 : BitVec 4).toNat = 2 ∧ bit (powered awake).pwr.aboveReset 2 = true ∧ (3 : BitVec 4).toNat = 3 ∧ bit (powered awake).pwr.aboveReset 3 = true
      ∧ bit (powered awake).pwr.aboveReset 11 = true ∧ bit (powered { awake with aboveReset := 0 }).pwr.aboveReset 11 = false ∧ 47 / 8 + 6 = 11
      ∧ (715 : W16).toNat < (railLevels 0).warning ∧ (railLevels 0).warning ≤ (730 : W16).toNat ∧ (739 : W16).toNat < (railLevels 0).warning + (railLevels 0).hysteresis
      ∧ (railLevels 0).warning + (railLevels 0).hysteresis ≤ (740 : W16).toNat ∧ (659 : W16).toNat < (railLevels 1).reset ∧ (1549 : W16).toNat < (railLevels 2).reset
      ∧ (2799 : W16).toNat < (railLevels 3).reset ∧ (15999 : W16).toNat < (railLevels 11).reset ∧ (railLevels 11).reset ≤ (16000 : W16).toNat
      ∧ (16499 : W16).toNat < (railLevels 11).reset + (railLevels 11).hysteresis ∧ (railLevels 11).reset + (railLevels 11).hysteresis ≤ (16500 : W16).toNat := by decide +kernel

/-- The examples of 20_package_electrical.md on balls, and the counts of its rails by one row of each. -/
theorem test_balls :
    ballAt 45 18 = .link 21 .txp ∧ ballAt 45 19 = .link 21 .txn ∧ ballAt 43 18 = .link 21 .rxp ∧ ballAt 43 19 = .link 21 .rxn
      ∧ ballAt 32 2 = .safeInput 3 .b ∧ ballAt 17 46 = .perstN ∧ ballAt 2 45 = .control .refclkN ∧ ballAt 1 1 = .rail .gnd ∧ ballAt 30 8 = .rail .gnd
      ∧ ((upto 47).filter (fun c => ballAt 8 c = .rail .vpar)).length = 16 ∧ ballAt 43 44 = .phase 1 2 ∧ ballAt 44 4 = .rail .vsafe
      ∧ ballOffset 46 = 28575 ∧ junctionOf 900 38 = 1128 := by decide +kernel

end Sys2Proof.Tests
end

section
/-! The time commands of the host (R50, R55): what a read of a time base finds after a write, a step and a rate, and what the island answers. -/
namespace Sys2Proof.Machine

variable (s : State) (n m : Nat)

/-! Reads and writes of a time base. -/

theorem State.setTimeBase_rest (t : TimeBase) : s.setTimeBase n t = { s with tb := (s.setTimeBase n t).tb } := by
  unfold State.setTimeBase
  split <;> rfl

@[simp] theorem State.timeBase_setTimeBase_same (t : TimeBase) : (s.setTimeBase n t).timeBase n = t :=
  match n with
  | 0 | 1 | 2 | _ + 3 => rfl

/-- Every number from 3 on names TB3, hence the bounds. -/
theorem State.timeBase_setTimeBase_ne (t : TimeBase) (hn : n < 4) (hm : m < 4) (h : m ≠ n) :
    (s.setTimeBase n t).timeBase m = s.timeBase m := by
  obtain rfl | rfl | rfl | rfl : n = 0 ∨ n = 1 ∨ n = 2 ∨ n = 3 := by omega
  all_goals obtain rfl | rfl | rfl | rfl : m = 0 ∨ m = 1 ∨ m = 2 ∨ m = 3 := by omega
  all_goals simp only [State.setTimeBase, State.timeBase, ne_eq, not_true_eq_false] at h ⊢

theorem State.timeBase_fire (k : Nat) (a b : W64) :
    ({ s with tb := s.tb.fire k a b } : State).timeBase m = s.timeBase m := by
  unfold State.timeBase
  split <;> rfl

/-! A step of one time base: its new value, and the pending compares on it that a forward step passes (R56). -/

/-- The part of `State.stepTb` that one time base takes. -/
def State.moveTb (d : W64) (f : W32) (host : Bool) : State :=
  let t := (s.timeBase n).stepped d f host
  let u := s.setTimeBase n t
  if 0 ≤ d.toInt then { u with tb := u.tb.fire n (s.timeBase n).ns t.ns } else u

/-- TB3 takes the step of its source (R57). -/
theorem State.stepTb_eq_moveTb (d : W64) (host : Bool) (f : W32) :
    s.stepTb n d host f =
      if (s.moveTb n d f host).tb.source.toNat = n + 1 ∧ n < 2 then (s.moveTb n d f host).moveTb 3 d f false
      else s.moveTb n d f host := rfl

theorem State.moveTb_rest (d : W64) (f : W32) (host : Bool) : s.moveTb n d f host = { s with tb := (s.moveTb n d f host).tb } := by
  unfold State.moveTb
  dsimp only
  rw [State.setTimeBase_rest]
  split <;> rfl

@[simp] theorem State.timeBase_moveTb_same (d : W64) (f : W32) (host : Bool) :
    (s.moveTb n d f host).timeBase n = (s.timeBase n).stepped d f host := by
  unfold State.moveTb
  dsimp only
  split
  · rw [State.timeBase_fire, State.timeBase_setTimeBase_same]
  · exact State.timeBase_setTimeBase_same s n _

theorem State.timeBase_moveTb_ne (d : W64) (f : W32) (host : Bool) (hn : n < 4) (hm : m < 4) (h : m ≠ n) :
    (s.moveTb n d f host).timeBase m = s.timeBase m := by
  unfold State.moveTb
  dsimp only
  split
  · rw [State.timeBase_fire, State.timeBase_setTimeBase_ne s n m _ hn hm h]
  · exact State.timeBase_setTimeBase_ne s n m _ hn hm h

theorem State.stepTb_rest (d : W64) (host : Bool) (f : W32) : s.stepTb n d host f = { s with tb := (s.stepTb n d host f).tb } := by
  rw [State.stepTb_eq_moveTb]
  split
  · rw [State.moveTb_rest, State.moveTb_rest s]
  · exact State.moveTb_rest s n d f host

theorem State.timeBase_stepTb_same (d : W64) (host : Bool) (f : W32) (hn : n < 4) :
    (s.stepTb n d host f).timeBase n = (s.timeBase n).stepped d f host := by
  rw [State.stepTb_eq_moveTb]
  split
  next slaved => rw [State.timeBase_moveTb_ne _ 3 n d f false (by omega) hn (by omega), State.timeBase_moveTb_same]
  next => exact State.timeBase_moveTb_same s n d f host

theorem State.timeBase_stepTb_ne (d : W64) (host : Bool) (f : W32) (hn : n < 4) (hm : m < 3) (h : m ≠ n) :
    (s.stepTb n d host f).timeBase m = s.timeBase m := by
  have hm4 : m < 4 := by omega
  rw [State.stepTb_eq_moveTb]
  split
  · rw [State.timeBase_moveTb_ne _ 3 m d f false (by omega) hm4 (by omega), State.timeBase_moveTb_ne s n m d f host hn hm4 h]
  · exact State.timeBase_moveTb_ne s n m d f host hn hm4 h

/-- A step of whole ns carries nothing out of the fraction. -/
theorem TimeBase.stepped_whole (t : TimeBase) (d : W64) :
    t.stepped d 0 true = { t with ns := t.ns + d, step := d, steps := inc t.steps, hostSteps := inc t.hostSteps } := by
  have noCarry : ¬ 2 ^ 32 ≤ t.frac.toNat + (0 : W32).toNat := Nat.not_le.mpr t.frac.isLt
  unfold TimeBase.stepped
  rw [if_neg noCarry]
  simp

/-! A rate and its limits (R50). -/

theorem clampInt_eq_max_min {lo hi : Int} (h : lo ≤ hi) (x : Int) : clampInt lo hi x = max lo (min hi x) := by
  unfold clampInt
  split
  · omega
  · split <;> omega

theorem TimeBase.withRate_eq (t : TimeBase) (r : Int) :
    t.withRate r = { t with rate := BitVec.ofInt 32 (max (-858993) (min 858993 r))
                            clamped := t.clamped || decide (r < -858993) || decide (858993 < r) } := by
  unfold TimeBase.withRate rateMax
  split
  next inRange =>
    have hlo : ¬ r < -858993 := by omega
    have hhi : ¬ 858993 < r := by omega
    have hr : max (-858993) (min 858993 r) = r := by omega
    simp [hlo, hhi, hr]
  next outside =>
    have hout : r < -858993 ∨ 858993 < r := by omega
    rw [clampInt_eq_max_min (by decide)]
    rcases hout with h | h <;> simp [h]

/-! The island's answer (R55). -/

theorem State.timeFree_iff : s.timeFree n = true ↔ n ≠ 2 ∧ (s.timeBase n).mode = .free := by
  simp [State.timeFree]

theorem State.timeFree_false_iff : s.timeFree n = false ↔ n = 2 ∨ (s.timeBase n).mode ≠ .free := by
  rw [← Bool.not_eq_true, State.timeFree_iff, Decidable.not_and_iff_not_or_not, Decidable.not_not]

theorem State.timeStep_of_free (d : W64) (h : s.timeFree n = true) :
    State.timeStep n d s = (s.stepTb n d true, (s.stepTb n d true).stampOf n stOk) := if_pos h

theorem State.timeStep_of_not_free (d : W64) (h : s.timeFree n = false) :
    State.timeStep n d s = (s, s.stampOf n stWrongState) := by simp [State.timeStep, h]

theorem State.timeRate_of_free (r : W32) (h : s.timeFree n = true) :
    State.timeRate n r s = (s.setTimeBase n ((s.timeBase n).withRate r.toInt),
      (s.setTimeBase n ((s.timeBase n).withRate r.toInt)).stampOf n stOk) := if_pos h

theorem State.timeRate_of_not_free (r : W32) (h : s.timeFree n = false) :
    State.timeRate n r s = (s, s.stampOf n stWrongState) := by simp [State.timeRate, h]

/-! A command of the replicated groups in a unit that stands alone (R382). -/

theorem replicate_alone (op : W16) (params : BitVec 448) (list : Octets) (tb : Nat) (effect : State → State × Answer)
    (hrep : s.replicates = false) (href : s.refusesReplicated = false) :
    replicate s op params list tb effect = .answer (effect s).1 (effect s).2 := by
  simp [replicate, hrep, href]

theorem serve_replicate_alone (p : Packet) (op : W16) (params : BitVec 448) (list : Octets) (tb : Nat)
    (effect : State → State × Answer) (ht : s.takes p = true) (hrep : s.replicates = false) (href : s.refusesReplicated = false) :
    serve s p op true [] (fun u => replicate u op params list tb effect) = s.replied p op [] effect := by
  rw [serve_taken s p op [] _ ht rfl, replicate_alone (s.taken p op []) op params list tb effect hrep href]
  rfl

variable {s} {p : Packet}

theorem exec_timeStep_alone (ht : s.takes p = true) (hrep : s.replicates = false) (href : s.refusesReplicated = false)
    (hn : param p.params 0 1 < 4) (hz : unusedZero p.params [(0, 1), (8, 8)] = true) :
    exec (.timeStep p) s
      = .next (s.replied p 0x0501 [] (State.timeStep (param p.params 0 1) (BitVec.ofNat 64 (param p.params 8 8)))) := by
  change execTimeStep p s = _
  simp only [execTimeStep, hz, hn, decide_true, Bool.and_true, serve_replicate_alone s p _ _ _ _ _ ht hrep href, done]

theorem exec_timeRate_alone (ht : s.takes p = true) (hrep : s.replicates = false) (href : s.refusesReplicated = false)
    (hn : param p.params 0 1 < 4) (hz : unusedZero p.params [(0, 1), (4, 4)] = true) :
    exec (.timeRate p) s
      = .next (s.replied p 0x0502 [] (State.timeRate (param p.params 0 1) (BitVec.ofNat 32 (param p.params 4 4)))) := by
  change execTimeRate p s = _
  simp only [execTimeRate, hz, hn, decide_true, Bool.and_true, serve_replicate_alone s p _ _ _ _ _ ht hrep href, done]

end Sys2Proof.Machine

namespace Sys2Proof
open Machine

/-- Settles O15: the time bases are the same when the command acts as when its packet is taken, so the island's test of R55 is one of the state before, and its two branches are the clauses of each command. -/
theorem hostTimeCommandsActOnFreeBasesOnly : Obligations.HostTimeCommandsActOnFreeBasesOnly := by
  intro s p ht hrep href n hn old stamp
  refine ⟨?step, ?rate⟩
  case step =>
    intro hz d at_
    refine ⟨fun h2 hfree => ?_, fun hbar => ?_⟩
    · have free : at_.timeFree n = true := (State.timeFree_iff at_ n).mpr ⟨h2, hfree⟩
      refine ⟨at_.stepTb n d true, ?_, State.stepTb_rest at_ n d true 0, ?_, fun m hm hne => ?_⟩
      · rw [exec_timeStep_alone ht hrep href hn hz, State.replied, State.timeStep_of_free _ _ _ free]
        rfl
      · rw [State.timeBase_stepTb_same at_ n d true 0 hn, TimeBase.stepped_whole]
        rfl
      · exact State.timeBase_stepTb_ne at_ n m d true 0 hn hm hne
    · have barred : at_.timeFree n = false := (State.timeFree_false_iff at_ n).mpr hbar
      rw [exec_timeStep_alone ht hrep href hn hz, State.replied, State.timeStep_of_not_free _ _ _ barred]
      rfl
  case rate =>
    intro hz r at_
    refine ⟨fun h2 hfree => ?_, fun hbar => ?_⟩
    · have free : at_.timeFree n = true := (State.timeFree_iff at_ n).mpr ⟨h2, hfree⟩
      refine ⟨at_.setTimeBase n ((at_.timeBase n).withRate r), ?_, State.setTimeBase_rest at_ n _, ?_, fun m hm hne => ?_⟩
      · rw [exec_timeRate_alone ht hrep href hn hz, State.replied, State.timeRate_of_free _ _ _ free]
        rfl
      · rw [State.timeBase_setTimeBase_same, TimeBase.withRate_eq]
        rfl
      · exact State.timeBase_setTimeBase_ne at_ n m _ hn hm hne
    · have barred : at_.timeFree n = false := (State.timeFree_false_iff at_ n).mpr hbar
      rw [exec_timeRate_alone ht hrep href hn hz, State.replied, State.timeRate_of_not_free _ _ _ barred]
      rfl

end Sys2Proof
end

section
/-! The token queue of the dispatcher (R325 to R327): what a reaction and the readying of an item leave of the TS block, and how the first token of the queue is accepted. -/
namespace Sys2Proof.Machine

variable (s : State)

/-! Raising an event and its reaction leave the TS block alone: only the way to LOADED empties the matching store (R338). -/

theorem State.each_ts (l : List Nat) (f : State → Nat → State) (h : ∀ s a, (f s a).ts = s.ts) : (s.each l f).ts = s.ts :=
  State.each_frame s State.ts l f h

@[simp] theorem State.setMode_ts (n : Nat) (m : TbMode) : (s.setMode n m).ts = s.ts := by
  unfold State.setMode
  generalize (if s.tb.refFault then TbMode.free else m) = k
  dsimp only
  split
  · exact State.vector_ts _ 22
  · rfl

@[simp] theorem State.stopHandover_ts (a : Nat) : (s.stopHandover a).ts = s.ts := by
  unfold State.stopHandover
  dsimp only
  split
  · rfl
  · split <;> rfl

@[simp] theorem State.stopSet_ts (a : Nat) : (s.stopSet a).ts = s.ts := by
  unfold State.stopSet
  dsimp only
  split
  · rfl
  · rw [State.stopHandover_ts]
    exact State.each_ts _ _ _ fun _ _ => rfl

@[simp] theorem State.ringsCease_ts : s.ringsCease.ts = s.ts :=
  State.each_ts _ _ _ fun s r => by split <;> rfl

@[simp] theorem State.allArms_ts (v : ArmState) : (s.allArms v).ts = s.ts :=
  State.each_ts _ _ _ fun s a => by split <;> rfl

theorem State.setCell_ts (goal : CellState) (kind : Byte) (event opcode : W16) (h : goal ≠ .loaded) :
    (s.setCell goal kind event opcode).ts = s.ts := by
  unfold State.setCell
  dsimp only
  rw [State.vector_ts]
  split
  next => exact State.allArms_ts _ _
  next =>
    split
    · exact (State.ringsCease_ts _).trans (State.allArms_ts _ _)
    · exact State.allArms_ts _ _
  next => exact absurd rfl h
  next => exact (State.each_ts _ _ _ fun s r => by split <;> rfl).trans (State.setMode_ts _ _ _)
  next => rfl

@[simp] theorem State.reacted_ts : s.reacted.ts = s.ts := State.vector_ts _ 17

@[simp] theorem State.beginStop_ts (goal : StopGoal) (kind : Byte) (event opcode : W16) : (s.beginStop goal kind event opcode).ts = s.ts :=
  (State.each_ts _ _ _ State.stopSet_ts).trans (State.setCell_ts s .stopping kind event opcode CellState.noConfusion)

@[simp] theorem State.armStop_ts (a : Nat) : (s.armStop a).ts = s.ts := by
  unfold State.armStop
  split
  · exact (State.reacted_ts _).trans (State.stopSet_ts _ a)
  · rfl

@[simp] theorem State.cellStopReaction_ts (event : W16) : (s.cellStopReaction event).ts = s.ts := by
  unfold State.cellStopReaction
  split
  case h_1 | h_2 => rw [State.reacted_ts, State.beginStop_ts]
  case h_3 | h_4 | h_5 =>
    split
    · rfl
    · exact State.reacted_ts _
  case h_6 => rfl

@[simp] theorem State.stoReaction_ts (event : W16) : (s.stoReaction event).ts = s.ts := by
  unfold State.stoReaction
  split
  case h_1 | h_2 | h_3 => rfl
  case h_4 => exact (State.reacted_ts _).trans (State.setCell_ts s .fault 0xFF event 0 CellState.noConfusion)

theorem State.react_ts (cls : BitVec 3) (event : W16) (arm : Option Nat) : (s.react cls event arm).ts = s.ts := by
  unfold State.react
  split
  · rfl
  · split
    · exact State.armStop_ts _ _
    · split
      · exact State.cellStopReaction_ts _ _
      · split
        · exact State.stoReaction_ts _ _
        · rfl

/-- An event of any class leaves the TS block alone. -/
@[simp] theorem State.raise_ts (e : Ev) : (s.raise e).ts = s.ts := by
  unfold State.raise
  dsimp only
  split
  · split <;> rfl
  · rw [State.react_ts]
    split <;> rfl

@[simp] theorem State.raise_entry (e : Ev) (i : Nat) : (s.raise e).entry i = s.entry i :=
  congrArg (fun t : TsState => Table.get ({} : Entry) t.entries i) (State.raise_ts s e)

/-! A write of one whole word reads no memory, so it raises no event (R404). -/

theorem leBytes_length (n v : Nat) : (leBytes n v).length = n := by
  induction n generalizing v with
  | zero => rfl
  | succ n ih => exact congrArg (· + 1) (ih (v / 256))

theorem wordsOf_word (a : Nat) (h : 16 ∣ a) : wordsOf a 16 = [a] := by
  have one : (a + 16 - 1) / 16 - a / 16 + 1 = 1 := by omega
  have base : 16 * (a / 16 + 0) = a := by omega
  rw [wordsOf, if_neg (by decide), one, upto, List.range_one, List.map_singleton, base]

theorem State.touchGranules_rest (a n : Nat) : s.touchGranules a n = { s with memc := (s.touchGranules a n).memc } := by
  unfold State.touchGranules
  split <;> rfl

theorem State.writeWord_whole_rest (a : Nat) (o : Octets) (h : o.length = 16) :
    (s.writeWord a o a).1 = { s with mem := (s.writeWord a o a).1.mem, memc := (s.writeWord a o a).1.memc } := by
  have whole : min (a + o.length) (a + 16) - max a a = 16 := by omega
  unfold State.writeWord
  dsimp only
  rw [whole, if_pos rfl]
  split <;> rfl

theorem State.writeMem_word_rest (a : Nat) (o : Octets) (ha : 16 ∣ a) (ho : o.length = 16) :
    (s.writeMem a o).1 = { s with mem := (s.writeMem a o).1.mem, memc := (s.writeMem a o).1.memc } := by
  have word : (s.writeMem a o).1 = ((s.touchGranules a o.length).writeWord a o a).1 := by
    unfold State.writeMem
    rw [ho, wordsOf_word a ha]
    rfl
  rw [word, State.writeWord_whole_rest _ a o ho, State.touchGranules_rest]

theorem xmAddress_aligned (n w : Nat) : 16 ∣ xmAddress n w := by
  unfold xmAddress vcBase xmOff
  omega

/-! What an item that becomes ready can change (R327, R331). -/

/-- `t` is `s` but for the dispatcher's ready lists, slots and deadlines, the time bases and memory. -/
def State.Readied (t : State) : Prop :=
  t = { s with
    ts := { s.ts with ready := t.ts.ready, slots := t.ts.slots, order := t.ts.order, recalls := t.ts.recalls, dues := t.ts.dues }
    tb := t.tb, mem := t.mem, memc := t.memc }

namespace State.Readied

variable {s} {t u : State}

theorem refl (s : State) : s.Readied s := rfl

theorem trans (h : s.Readied t) (g : t.Readied u) : s.Readied u := by
  unfold State.Readied at h g ⊢
  rw [g, h]

theorem foldl {α : Type} (f : State → α → State) (h : ∀ (s : State) x, s.Readied (f s x)) (l : List α) (s : State) : s.Readied (l.foldl f s) := by
  induction l generalizing s with
  | nil => exact refl s
  | cons x l ih => exact (h s x).trans (ih (f s x))

theorem rest (h : s.Readied t) : t = { s with ts := t.ts, tb := t.tb, mem := t.mem, memc := t.memc } := by
  unfold State.Readied at h
  rw [h]

theorem queue_eq (h : s.Readied t) : t.ts.queue = s.ts.queue := congrArg (·.ts.queue) h
theorem held_eq (h : s.Readied t) : t.ts.held = s.ts.held := congrArg (·.ts.held) h
theorem tokens_eq (h : s.Readied t) : t.ts.tokens = s.ts.tokens := congrArg (·.ts.tokens) h
theorem collisions_eq (h : s.Readied t) : t.ts.collisions = s.ts.collisions := congrArg (·.ts.collisions) h
theorem unrouted_eq (h : s.Readied t) : t.ts.unrouted = s.ts.unrouted := congrArg (·.ts.unrouted) h
theorem entry_eq (h : s.Readied t) (i : Nat) : t.entry i = s.entry i := congrArg (·.entry i) h

end State.Readied

theorem State.arm0_readied (instant : Nat) (what : CompareKind) : s.Readied (s.arm0 instant what) := by
  unfold State.arm0 State.armMore
  dsimp only
  split <;> rfl

theorem State.takeDue_readied (d : Nat) : s.Readied (s.takeDue d) := by
  unfold State.takeDue
  dsimp only
  split
  · split
    · refine State.Readied.trans ?_ (State.arm0_readied _ _ _)
      rfl
    · rfl
  · rfl

theorem State.writeMem_word_readied (a : Nat) (o : Octets) (ha : 16 ∣ a) (ho : o.length = 16) : s.Readied (s.writeMem a o).1 := by
  unfold State.Readied
  rw [State.writeMem_word_rest s a o ha ho]

theorem State.slotWrite_readied (n order : Nat) (v : Option Slot) :
    s.Readied { s.setTsSlot n v with ts := { (s.setTsSlot n v).ts with order := order } } := rfl

/-- The operands go into XM by whole words. -/
theorem State.fill_readied (n d : Nat) : s.Readied (s.fill n d) := by
  unfold State.fill
  refine State.Readied.trans (State.Readied.foldl _ (fun s i => ?_) _ s) (State.slotWrite_readied _ n _ _)
  exact State.writeMem_word_readied s _ _ (xmAddress_aligned n _) (leBytes_length 16 _)

theorem State.unfill_readied (n : Nat) : s.Readied (s.unfill n) := by
  unfold State.unfill
  split <;> rfl

theorem State.makeReady_readied (d : Nat) : s.Readied (s.makeReady d) := by
  unfold State.makeReady
  refine (State.takeDue_readied s d).trans ?_
  dsimp only
  split
  next => rfl
  next n _ => exact (State.unfill_readied _ n).trans (State.fill_readied _ n d)

/-! The acceptance of the first token (R326). -/

/-- The queue without its first token: the first held one joins the rest (R325). -/
def State.queueMoved (rest : List Token) : State :=
  { s with ts := { s.ts with queue := rest ++ s.ts.held.take 1, held := s.ts.held.drop 1 } }

/-- The token's operand in its entry, counted. -/
def State.tokenStored (k : Token) : State :=
  let t := s.setEntry k.entry.toNat { full := true, operand := k.operand }
  { t with ts := { t.ts with tokens := inc t.ts.tokens } }

theorem State.entry_tokenStored (k : Token) (i : Nat) :
    (s.tokenStored k).entry i = if i = k.entry.toNat then { full := true, operand := k.operand } else s.entry i :=
  Table.get_put ({} : Entry) s.ts.entries k.entry.toNat i { full := true, operand := k.operand }

variable {s} {k : Token} {rest : List Token}

theorem exec_tokenAccept_unrouted (hq : s.ts.queue = k :: rest) (ho : s.ownerOf k.entry.toNat = none) :
    exec .tokenAccept s
      = .next { s.queueMoved rest with ts := { (s.queueMoved rest).ts with unrouted := inc s.ts.unrouted } } := by
  change execTokenAccept s = _
  have owner : (s.queueMoved rest).ownerOf k.entry.toNat = none := ho
  unfold State.queueMoved at owner ⊢
  simp only [execTokenAccept, hq, owner, done]

theorem exec_tokenAccept_collision {d : Nat} (hq : s.ts.queue = k :: rest) (ho : s.ownerOf k.entry.toNat = some d)
    (hf : (s.entry k.entry.toNat).full = true) :
    exec .tokenAccept s
      = .next (({ s.queueMoved rest with ts := { (s.queueMoved rest).ts with collisions := inc s.ts.collisions } } : State).raise
          { code := 0x0F01, source := srcTs, data := BitVec.ofNat 32 k.entry.toNat }) := by
  change execTokenAccept s = _
  have owner : (s.queueMoved rest).ownerOf k.entry.toNat = some d := ho
  have full : ((s.queueMoved rest).entry k.entry.toNat).full = true := hf
  unfold State.queueMoved at owner full ⊢
  simp only [execTokenAccept, hq, owner, full, done, if_true]

/-- The token fills its entry; where it is the item's last, the item becomes ready. -/
theorem exec_tokenAccept_fills {d : Nat} (hq : s.ts.queue = k :: rest) (ho : s.ownerOf k.entry.toNat = some d)
    (hf : (s.entry k.entry.toNat).full = false) :
    ∃ t, exec .tokenAccept s = .next t ∧ ((s.queueMoved rest).tokenStored k).Readied t := by
  have owner : (s.queueMoved rest).ownerOf k.entry.toNat = some d := ho
  have empty : ((s.queueMoved rest).entry k.entry.toNat).full = false := hf
  let stored := (s.queueMoved rest).tokenStored k
  refine ⟨if (stored.desc d).entries.all (fun i => (stored.entry i).full) then stored.makeReady d else stored, ?_, ?_⟩
  · change execTokenAccept s = _
    unfold State.queueMoved at owner empty
    simp only [execTokenAccept, hq, owner, empty, done]
    rfl
  · split
    · exact State.makeReady_readied stored d
    · exact State.Readied.refl stored

end Sys2Proof.Machine

namespace Sys2Proof
open Machine

/-- Settles O53: the three clauses are the branches of the acceptance, and neither the readying of an item nor the reaction to a collision touches the entries or the queue. -/
theorem tokensFillTheirEntriesOrAreDiscarded : Obligations.TokensFillTheirEntriesOrAreDiscarded := by
  intro s k rest hq e u
  refine ⟨fun d owned empty => ?fills, fun d owned full => ?collides, fun unowned => exec_tokenAccept_unrouted hq unowned⟩
  case fills =>
    obtain ⟨t, step, ready⟩ := exec_tokenAccept_fills hq owned empty
    exact ⟨t, step, ready.rest, ready.queue_eq, ready.held_eq, ready.tokens_eq, ready.collisions_eq, ready.unrouted_eq,
      fun i => (ready.entry_eq i).trans (State.entry_tokenStored (s.queueMoved rest) k i)⟩
  case collides =>
    exact ⟨_, rfl, exec_tokenAccept_collision hq owned full, State.raise_entry _ _, State.raise_vc _ _⟩

end Sys2Proof
end

section
/-! A flag write of the host (R358), field by field: what one field does with its lot and with the count, what a run of fields on distinct lots does, and where the flag word lies. -/
namespace Sys2Proof.Machine

/-! Saturating counts (R433). -/

theorem satAdd_toNat {w : Nat} (x : BitVec w) (n : Nat) : (satAdd x n).toNat = min (2 ^ w - 1) (x.toNat + n) := by
  unfold satAdd
  split
  next fits =>
    rw [BitVec.toNat_ofNat, Nat.mod_eq_of_lt fits]
    omega
  next =>
    rw [BitVec.toNat_allOnes]
    omega

/-! One field. -/

/-- The written value names another flag: it is neither 3 nor the current one. -/
def flagActs (old new : BitVec 2) : Bool := new != 3 && new != old

/-- The field makes a transition of the host. -/
def flagMoves (old new : BitVec 2) : Bool := flagActs old new && hostFlag old new

/-- The field is counted in HQ_LOT_CNT2.bad_flag. -/
def flagBad (old new : BitVec 2) : Bool := flagActs old new && !hostFlag old new

section field
variable (s : State) (l : Nat) (v : BitVec 2)

theorem State.flagField_eq : s.flagField l v =
    if flagMoves (s.lot l) v then s.setLot l v
    else if flagBad (s.lot l) v then { s with hq := { s.hq with badFlag := inc s.hq.badFlag } }
    else s := by
  unfold State.flagField flagMoves flagBad
  by_cases kept : v = 3 ∨ v = s.lot l
  · have idle : flagActs (s.lot l) v = false := by
      simpa [flagActs, Decidable.or_iff_not_imp_left] using kept
    rw [if_pos kept, idle]
    rfl
  · have acts : flagActs (s.lot l) v = true := by
      simpa [flagActs] using kept
    rw [if_neg kept, acts]
    cases hostFlag (s.lot l) v <;> rfl

theorem State.flagField_rest : s.flagField l v
    = { s with hq := { s.hq with lots := (s.flagField l v).hq.lots, badFlag := (s.flagField l v).hq.badFlag } } := by
  rw [State.flagField_eq]
  split
  · rfl
  · split <;> rfl

theorem State.flagField_lot_same : (s.flagField l v).lot l = if flagMoves (s.lot l) v then v else s.lot l := by
  rw [State.flagField_eq]
  split
  · exact State.setLot_lot s l v
  · split <;> rfl

theorem State.flagField_lot_ne {k : Nat} (h : k ≠ l) : (s.flagField l v).lot k = s.lot k := by
  rw [State.flagField_eq]
  split
  · exact State.setLot_lot_ne s l k v h
  · split <;> rfl

theorem State.flagField_badFlag :
    (s.flagField l v).hq.badFlag = if flagBad (s.lot l) v then inc s.hq.badFlag else s.hq.badFlag := by
  rw [State.flagField_eq]
  split
  next moves =>
    have host : hostFlag (s.lot l) v = true := (Bool.and_eq_true_iff.mp moves).2
    rw [flagBad, host, Bool.not_true, Bool.and_false]
    rfl
  next => split <;> rfl

end field

/-! The fields of a word: the field of each listed index `i` goes to the lot `b + i`. -/

/-- The state after the listed fields. -/
def State.flagFields (s : State) (b : Nat) (f : Nat → BitVec 2) (l : List Nat) : State :=
  s.each l (fun s i => s.flagField (b + i) (f i))

section fields
variable (b : Nat) (f : Nat → BitVec 2)

theorem State.flagFields_cons (s : State) (i : Nat) (l : List Nat) :
    s.flagFields b f (i :: l) = (s.flagField (b + i) (f i)).flagFields b f l := rfl

theorem State.flagFields_rest (s : State) (l : List Nat) : s.flagFields b f l
    = { s with hq := { s.hq with lots := (s.flagFields b f l).hq.lots, badFlag := (s.flagFields b f l).hq.badFlag } } := by
  induction l generalizing s with
  | nil => rfl
  | cons i l ih => rw [State.flagFields_cons, ih, State.flagField_rest s]

theorem State.flagFields_lot_unlisted (s : State) (l : List Nat) (k : Nat) (h : ∀ i ∈ l, k ≠ b + i) :
    (s.flagFields b f l).lot k = s.lot k := by
  induction l generalizing s with
  | nil => rfl
  | cons i l ih =>
    have head : k ≠ b + i := h i List.mem_cons_self
    rw [State.flagFields_cons, ih _ fun j hj => h j (List.mem_cons_of_mem i hj), State.flagField_lot_ne s _ _ head]

theorem State.flagFields_lot_listed (s : State) (l : List Nat) (distinct : l.Nodup) (i : Nat) (h : i ∈ l) :
    (s.flagFields b f l).lot (b + i) = if flagMoves (s.lot (b + i)) (f i) then f i else s.lot (b + i) := by
  induction l generalizing s with
  | nil => exact absurd h List.not_mem_nil
  | cons j l ih =>
    obtain ⟨fresh, tail⟩ := List.nodup_cons.mp distinct
    rw [State.flagFields_cons]
    rcases List.mem_cons.mp h with rfl | later
    · have past : ∀ k ∈ l, b + i ≠ b + k := fun k hk same => fresh (Nat.add_left_cancel same ▸ hk)
      rw [State.flagFields_lot_unlisted b f _ l _ past, State.flagField_lot_same]
    · have other : b + i ≠ b + j := fun same => fresh (Nat.add_left_cancel same ▸ later)
      rw [ih _ tail later, State.flagField_lot_ne s _ _ other]

/-- Each field finds the flag that its lot had before the write, for the lots differ. -/
theorem State.flagFields_badFlag (s : State) (l : List Nat) (distinct : l.Nodup) :
    (s.flagFields b f l).hq.badFlag.toNat
      = min 65535 (s.hq.badFlag.toNat + (l.filter fun i => flagBad (s.lot (b + i)) (f i)).length) := by
  induction l generalizing s with
  | nil =>
    have bound := s.hq.badFlag.isLt
    change s.hq.badFlag.toNat = min 65535 (s.hq.badFlag.toNat + 0)
    omega
  | cons i l ih =>
    obtain ⟨fresh, tail⟩ := List.nodup_cons.mp distinct
    have before : (l.filter fun j => flagBad ((s.flagField (b + i) (f i)).lot (b + j)) (f j))
        = l.filter fun j => flagBad (s.lot (b + j)) (f j) := by
      refine List.filter_congr fun j hj => ?_
      have other : b + j ≠ b + i := fun same => fresh (Nat.add_left_cancel same ▸ hj)
      rw [State.flagField_lot_ne s _ _ other]
    rw [State.flagFields_cons, ih _ tail, before, State.flagField_badFlag, List.filter_cons]
    split
    · rw [inc, satAdd_toNat, List.length_cons]
      omega
    · rfl

end fields

/-! The flag word as a register (R362). -/

/-- Two-bit fields side by side: the number stays below the next field's place. -/
theorem packed_lt (f : Nat → BitVec 2) (n : Nat) :
    ((List.range n).map fun i => ((f i).toNat, 2 * i)).foldl (fun a f => a + f.1 * 2 ^ f.2) 0 < 2 ^ (2 * n) := by
  induction n with
  | zero => exact Nat.one_pos
  | succ n ih =>
    have field : (f n).toNat * 2 ^ (2 * n) ≤ 3 * 2 ^ (2 * n) := Nat.mul_le_mul_right _ (Nat.le_of_lt_succ (f n).isLt)
    have place : 2 ^ (2 * (n + 1)) = 2 ^ (2 * n) + 3 * 2 ^ (2 * n) := by
      rw [Nat.mul_succ, Nat.pow_add]
      omega
    rw [List.range_succ, List.map_append, List.foldl_append, place]
    exact Nat.add_lt_add_of_lt_of_le ih field

theorem packed_field (f : Nat → BitVec 2) (n i : Nat) (h : i < n) :
    ((List.range n).map fun i => ((f i).toNat, 2 * i)).foldl (fun a f => a + f.1 * 2 ^ f.2) 0 / 2 ^ (2 * i) % 4 = (f i).toNat := by
  induction n with
  | zero => exact absurd h (Nat.not_lt_zero i)
  | succ n ih =>
    have below := packed_lt f n
    rw [List.range_succ, List.map_append, List.foldl_append]
    change (_ + (f n).toNat * 2 ^ (2 * n)) / 2 ^ (2 * i) % 4 = _
    rcases Nat.lt_succ_iff_lt_or_eq.mp h with earlier | rfl
    · have place : (f n).toNat * 2 ^ (2 * n) = 2 ^ (2 * i) * (4 * ((f n).toNat * 2 ^ (2 * (n - i - 1)))) := by
        have exponent : 2 * n = 2 * i + 2 + 2 * (n - i - 1) := by omega
        rw [exponent, Nat.pow_add, Nat.pow_add, Nat.mul_assoc, Nat.mul_left_comm, Nat.mul_left_comm (f n).toNat]
      rw [place, Nat.add_mul_div_left _ _ (Nat.two_pow_pos _), Nat.add_mul_mod_self_left, ih earlier]
    · rw [Nat.add_mul_div_right _ _ (Nat.two_pow_pos _), Nat.div_eq_of_lt below, Nat.zero_add, Nat.mod_eq_of_lt (f i).isLt]

theorem State.readLot_field (s : State) (w : BitVec 12) (i : Nat) (h : i < 16) :
    (s.readLot (4 * w.toNat)).extractLsb' (2 * i) 2 = s.lot (16 * w.toNat + i) := by
  have inside : 4 * w.toNat < 0x4000 := by omega
  have index : 4 * w.toNat / 4 = w.toNat := by omega
  have small := packed_lt (fun i => s.lot (16 * w.toNat + i)) 16
  apply BitVec.eq_of_toNat_eq
  rw [State.readLot, if_pos inside, index, upto, word, BitVec.extractLsb'_toNat, BitVec.toNat_ofNat, Nat.mod_eq_of_lt small,
    Nat.shiftRight_eq_div_pow]
  exact packed_field (fun i => s.lot (16 * w.toNat + i)) 16 i h

theorem State.regValue_lotFlags (s : State) (by_ : Requester) (w : BitVec 12) :
    s.regValue by_ (0x8000 + 4 * w.toNat) = s.readLot (4 * w.toNat) := by
  have offset : 0x8000 + 4 * w.toNat - 0x8000 = 4 * w.toNat := Nat.add_sub_cancel_left ..
  unfold State.regValue
  rw [if_neg (by omega), if_neg (by omega), if_neg (by omega), if_neg (by omega), if_pos (by omega), offset]

/-! The command, and the register write that stands for it (R341). -/

/-- The fields of the octets that the byte enables select. -/
def enabledFields (en : BitVec 4) : List Nat := (List.range 16).filter fun i => en.getLsbD (i / 4)

variable {s : State}

theorem exec_lotFlagWrite (hh : s.hostMay = true) (w : BitVec 12) (v : W32) (en : BitVec 4) :
    exec (.lotFlagWrite w v en) s
      = .next (s.flagFields (16 * w.toNat) (fun i => v.extractLsb' (2 * i) 2) (enabledFields en)) := by
  change execLotFlagWrite w v en s = _
  rw [execLotFlagWrite, hh]
  rfl

theorem hostRegWrite_lotFlags (w : BitVec 12) (v : W32) :
    s.hostRegWrite (0x8000 + 4 * w.toNat) v = left (execLotFlagWrite w v 0xF s) s := by
  have index : BitVec.ofNat 12 ((0x8000 + 4 * w.toNat - 0x8000) / 4) = w := by
    rw [Nat.add_sub_cancel_left, Nat.mul_div_cancel_left _ (by decide), BitVec.ofNat_toNat, BitVec.setWidth_eq]
  unfold State.hostRegWrite
  rw [if_neg (by omega), if_neg (by omega), if_neg (by omega), if_pos (by omega), index]

theorem exec_registerWrite_lotFlags (hh : s.hostMay = true) (w : BitVec 12) (v : W32) :
    exec (.registerWrite .host (BitVec.ofNat 20 (0x8000 + 4 * w.toNat)) true v) s = exec (.lotFlagWrite w v 0xF) s := by
  have offset : (BitVec.ofNat 20 (0x8000 + 4 * w.toNat)).toNat = 0x8000 + 4 * w.toNat := by
    rw [BitVec.toNat_ofNat]
    omega
  have aligned : (0x8000 + 4 * w.toNat) % 4 = 0 := by omega
  have write : execLotFlagWrite w v 0xF s = _ := exec_lotFlagWrite hh w v 0xF
  change execRegisterWrite .host _ true v s = execLotFlagWrite w v 0xF s
  simp only [execRegisterWrite, offset, aligned, hh, hostRegWrite_lotFlags, write, left, done]
  rfl

end Sys2Proof.Machine

namespace Sys2Proof
open Machine

/-- Settles O11: the enabled fields go to distinct lots, so each one finds the flag from before the write and moves it, is counted or does neither. -/
theorem flagWritesMakeHostTransitionsOnly : Obligations.FlagWritesMakeHostTransitionsOnly := by
  intro s w v en hh field old acts may
  have distinct : (enabledFields en).Nodup := List.nodup_range.filter _
  have inWord : ∀ i ∈ enabledFields en, i < 16 := fun i hi => List.mem_range.mp (List.mem_filter.mp hi).1
  refine ⟨s.flagFields (16 * w.toNat) field (enabledFields en), exec_lotFlagWrite hh w v en, State.flagFields_rest _ _ s _,
    fun i hi => ?lots, fun l hl => ?others, ?count, fun i hi => ?reads, exec_registerWrite_lotFlags hh w v⟩
  case lots =>
    cases enabled : en.getLsbD (i / 4)
    · have unlisted : i ∉ enabledFields en := by simp [enabledFields, enabled]
      have idle : (acts i && may i) = false := by simp [acts, enabled]
      rw [idle]
      exact State.flagFields_lot_unlisted _ field s _ _ fun j hj same => unlisted (Nat.add_left_cancel same ▸ hj)
    · have listed : i ∈ enabledFields en := by simp [enabledFields, enabled, hi]
      have moves : (acts i && may i) = flagMoves (old i) (field i) := by
        change (en.getLsbD (i / 4) && field i != 3 && field i != old i && may i) = _
        rw [enabled]
        rfl
      rw [moves]
      exact State.flagFields_lot_listed _ field s _ distinct i listed
  case others =>
    refine State.flagFields_lot_unlisted _ field s _ l fun i hi same => ?_
    have := inWord i hi
    omega
  case count =>
    have counted : (enabledFields en).filter (fun i => flagBad (old i) (field i))
        = (List.range 16).filter fun i => acts i && !may i := by
      rw [enabledFields, List.filter_filter]
      refine List.filter_congr fun i _ => ?_
      change (flagActs (old i) (field i) && !may i && en.getLsbD (i / 4))
        = (en.getLsbD (i / 4) && field i != 3 && field i != old i && !may i)
      rw [Bool.and_comm, Bool.and_assoc (en.getLsbD (i / 4)), ← Bool.and_assoc]
      rfl
    rw [← counted]
    exact State.flagFields_badFlag _ field s _ distinct
  case reads => rw [State.regValue_lotFlags, State.readLot_field s w i hi]

end Sys2Proof
end
